-- ==== Sys2Proof/Word.lean ====
section
/-! DEFINITION. Word.lean: the number types of 00_scope.md section 5.2, and tables indexed by them.

Sources are numbered 1 to 16 and supplies 1 to 12 in the manual; their index types count from 0, so source n is
index n - 1 (`SourceNo.number`, `sourceOf?`). Ports, stations, channels, accounts, entries and slots count from 0. -/

namespace Sys2Proof

/-- One character of a frame (00_scope.md section 5.5). -/
abbrev Byte := BitVec 8
/-- A 32-bit word: watch operands and thresholds (R141), status words (R169). -/
abbrev Word := BitVec 32

abbrev PortNo := Fin 4
abbrev StationNo := Fin 32
abbrev SourceNo := Fin 16
abbrev SupplyNo := Fin 12
abbrev ChannelNo := Fin 24
abbrev AccountNo := Fin 48
abbrev WatchNo := Fin 32
abbrev SlotNo := Fin 8
abbrev SyncNo := Fin 4

/-- The entry of a table. -/
def look {α : Type} {n : Nat} (v : Vector α n) (i : Fin n) : α := v.get i

/-- The table with one entry replaced. -/
def upd {α : Type} {n : Nat} (v : Vector α n) (i : Fin n) (x : α) : Vector α n := v.set i.1 x i.2

/-- The table of a function's values. -/
def tab {α : Type} {n : Nat} (f : Fin n → α) : Vector α n := Vector.ofFn f

/-- The indices of a table, in rising order. -/
def indices (n : Nat) : List (Fin n) := List.finRange n

/-- The sum of a table's figures. -/
def total {n : Nat} (f : Fin n → Nat) : Nat := (indices n).foldl (fun acc i => acc + f i) 0

/-- 2^32 - 1, at which 32-bit figures are held. -/
def max32 : Nat := 4294967295

/-- A figure held at 2^32 - 1. -/
def hold32 (n : Nat) : Nat := min n max32

/-- The index that a carried number names, where the numbers run from 0. -/
def index? (n k : Nat) : Option (Fin n) := if h : k < n then some ⟨k, h⟩ else none

/-- The index that a carried number names, where the numbers run from 1. -/
def number? (n k : Nat) : Option (Fin n) := if k = 0 then none else index? n (k - 1)

/-- The number of a source or a supply as the manual counts it (from 1). -/
def numberOf {n : Nat} (i : Fin n) : Nat := i.1 + 1

/-- The three inputs of a transfer panel (R19). -/
inductive Input where
  | a | b | c
  deriving DecidableEq, Repr

/-- One value for each of the inputs A, B and C. -/
structure Abc (α : Type) where
  a : α
  b : α
  c : α
  deriving DecidableEq, Repr

def Abc.get {α : Type} (v : Abc α) : Input → α
  | .a => v.a
  | .b => v.b
  | .c => v.c

def Abc.put {α : Type} (v : Abc α) (i : Input) (x : α) : Abc α :=
  match i with
  | .a => { v with a := x }
  | .b => { v with b := x }
  | .c => { v with c := x }

def Abc.map {α β : Type} (f : α → β) (v : Abc α) : Abc β := ⟨f v.a, f v.b, f v.c⟩

def Abc.pure {α : Type} (x : α) : Abc α := ⟨x, x, x⟩

/-- The inputs in the order A, B, C (the order BEST takes them, R43). -/
def allInputs : List Input := [.a, .b, .c]

end Sys2Proof
end

