-- ==== Sys2Proof/Names.lean ====
section
/-! DEFINITION. Names.lean: the states, modes, phases, results, causes and codes that the manual names (R168), as
enumerations. Their numeric codes stand in Machine/Codes.lean. -/

namespace Sys2Proof

/-- R168, status codes. -/
inductive Status where
  | ok | accepted | denied | noHold | held | showHeld | busy | lost | range | unknown
  | state | full | late | overload | noAlternative | bankFull | gap | badKind | badLength
  deriving DecidableEq, Repr

/-- The class of a station (R156). -/
inductive Role where
  | console | fleet | fuel | stage
  deriving DecidableEq, Repr

/-- R2, source states. -/
inductive SourceState where
  | unlisted | stopped | running | refuel | offHire
  deriving DecidableEq, Repr

/-- R19, supply states. -/
inductive SupplyState where
  | undefined | live | tripped | dark | transfer | fault
  deriving DecidableEq, Repr

/-- The direction of a contactor pulse (R25). -/
inductive Dir where
  | toClose | toOpen
  deriving DecidableEq, Repr

/-- R39, the mode a request carries. -/
inductive ModeReq where
  | break | closed | auto
  deriving DecidableEq, Repr

/-- R39, the mode in effect. -/
inductive ModeEff where
  | break | closed | closeOnly
  deriving DecidableEq, Repr

/-- R39, the phases of a transfer. -/
inductive Phase where
  | syncWait | sync | parallelClose | parallelOpen | opening | dead | closing | reclose | settle
  deriving DecidableEq, Repr

/-- R39, the results of a transfer. -/
inductive Result where
  | done | doneUnstable | aborted | failOpen | failClose | failBoth | syncTimeout | noTarget | interrupted
  deriving DecidableEq, Repr

/-- A refusal status or the result of a transfer: what a watch entry, an unload entry or a return entry keeps
(R94, R104, R137). -/
inductive StatusOrResult where
  | status (x : Status)
  | result (x : Result)
  deriving DecidableEq, Repr

/-- R39, who asked for a transfer. `gone` marks a station removed since (R158). -/
inductive Originator where
  | station (n : StationNo) (gone : Bool)
  | watch (w : WatchNo)
  | supply
  | unload (d : SlotNo)
  | returnHome (d : SlotNo)
  deriving DecidableEq, Repr

/-- R66, states of a synchronism channel. -/
inductive SyncState where
  | free | measuring | inStep
  deriving DecidableEq, Repr

/-- R76, where the last load came from. -/
inductive LoadKind where
  | reported | estimated
  deriving DecidableEq, Repr

/-- R89, states of a delivery. -/
inductive DeliveryState where
  | armed | waitingUnload | opened | filled | closed | disputed | cancelled | expired | closedUnarmed
  deriving DecidableEq, Repr

/-- The reason a DELIVERY cause carries: a block, a loaded fill, an unarmed fill, or an end state (R95 to R103). -/
inductive DeliveryWhy where
  | blocked | loadedFill | unarmed
  | ended (x : DeliveryState)
  deriving DecidableEq, Repr

/-- R124, the two banks. -/
inductive Bank where
  | a | b
  deriving DecidableEq, Repr

/-- R124, states of a bank. -/
inductive BankState where
  | active | frozen | released
  deriving DecidableEq, Repr

/-- R137, states of a watch entry. -/
inductive WatchState where
  | idle | pending | fired | retry
  deriving DecidableEq, Repr

/-- R139, operand kinds with their index. -/
inductive Operand where
  | sourceLoad (s : SourceNo)
  | sourceFreq (s : SourceNo)
  | sourceStatus (s : SourceNo)
  | minutesToDry (s : SourceNo)
  | tankBook (s : SourceNo)
  | tankVariance (s : SourceNo)
  | supplyDemand (n : SupplyNo)
  | supplyStatus (n : SupplyNo)
  | channelDemand (c : ChannelNo)
  | accountCharge (a : AccountNo)
  | timeOfDay
  deriving DecidableEq, Repr

/-- R137, condition codes. -/
inductive CondCode where
  | always | eq | ne | gt | ge | lt | le | above | atOrAbove | below | atOrBelow | neg | bitSet | bitClr
  deriving DecidableEq, Repr

/-- R137, actions. -/
inductive WatchAction where
  | notify | transfer
  deriving DecidableEq, Repr

/-- R150, port error flags. -/
inductive PortFlag where
  | parity | framing | crc | overrun | runt | badBroadcast
  deriving DecidableEq, Repr

/-- R150, the character rates. -/
inductive Rate where
  | r9600 | r19200 | r38400 | r57600 | r115200 | r230400
  deriving DecidableEq, Repr

/-- R160, the attention causes. -/
inductive Cause where
  | restarted | logGap | holdLapsed | linkFault | periodClosed | watchFired | sourceAlert | delivery
  | transferEnded | supplyTrip | transferFault
  deriving DecidableEq, Repr

/-- The reason a SOURCE_ALERT carries (R7, R8, R82). -/
inductive AlertReason where
  | implausible | stale | dry
  deriving DecidableEq, Repr

/-- The reason a HOLD_LAPSED carries (R159). -/
inductive LapseReason where
  | lapsed | forced
  deriving DecidableEq, Repr

/-- The kinds of log record (11_event_log.md section 11.1). -/
inductive LogKind where
  | transferEnd | supplyTrip | supplyRestored | inputFault | uncommanded | sourceHired | sourceOffHire
  | sourceStale | sourceFresh | deliveryArmed | deliveryOpen | deliveryEnd | unarmedFill | unloadBlocked
  | returnAbandoned | intervalSettled | periodClosed | periodReleased | watchFired | holdTaken
  | holdReleased | holdLapsed | timeSet | linkFault | warmRestart | coldStart
  deriving DecidableEq, Repr

/-- The two kinds of start (R1). -/
inductive Start where
  | cold | warm
  deriving DecidableEq, Repr

end Sys2Proof
end

