-- ==== Sys2Proof/Syntax.lean ====
section
/-! DEFINITION. Syntax.lean: the commands of the PK-3120, one constructor for each row of spec/opcode_table.json.

Readings `t` are readings of the part's own timers in microseconds (log entry 2). Numbers that a request carries are
carried here as numbers, out of range ones included, since the owning block answers them RANGE (R166); a field the
request may carry as "none" is an Option. -/

namespace Sys2Proof

/-- The sender of a request and its frame's length, as STN sees them (R157), with the reading at which it is taken. -/
structure Request where
  port : PortNo
  addr : Nat
  len : Nat
  t : Nat
  deriving DecidableEq, Repr

/-- A character as received: its value, and whether its parity and its stop bit were right (R151). -/
structure RxChar where
  byte : Byte
  parityOk : Bool
  stopOk : Bool
  deriving DecidableEq, Repr

/-- A frame without its start character and CRC (R151, 12_frame_and_record_formats.md section 12.1). -/
structure Frame where
  dest : Byte
  src : Byte
  kind : Byte
  payload : List Byte
  deriving DecidableEq, Repr

/-- What started the part (R1). -/
structure StartCause where
  powerUp : Bool
  coldInput : Bool
  warmInput : Bool
  retainedKept : Bool
  deriving DecidableEq, Repr

/-- The levels found on the input lines at a start: aux closed (R20, R38), meter lines high (R108), fill points closed
(R90). -/
structure Found where
  aux : Vector (Abc Bool) 12
  meter : Vector Bool 24
  fill : Vector Bool 16
  deriving DecidableEq, Repr

/-- The order in which blocks take one tick, where the spec leaves it to them (R79, R113, R140): whether MTR moves its
bins before TNK reads demand, and whether WCH samples before the owning blocks. -/
structure TickOrder where
  meterFirst : Bool
  watchFirst : Bool
  deriving DecidableEq, Repr

/-- The five points of a fuel curve (R2). -/
structure Curve where
  r0 : Nat
  r1 : Nat
  r2 : Nat
  r3 : Nat
  r4 : Nat
  deriving DecidableEq, Repr

/-- The six timing settings as DEFINE SUPPLY carries them, none selecting the default (R21). -/
structure TimingReq where
  deadTime : Option Nat
  confirm : Option Nat
  tripConfirm : Option Nat
  overlap : Option Nat
  settleTime : Option Nat
  settleWindow : Option Nat
  deriving DecidableEq, Repr

/-- The fields of DEFINE WATCH after the entry number (R138), as codes of R168; an operand kind of none undefines. -/
structure WatchReq where
  kind : Option Nat
  index : Nat
  cond : Nat
  threshold : Word
  hysteresis : Nat
  persistence : Nat
  action : Nat
  supply : Nat
  priority : Nat
  mask : BitVec 8
  deriving DecidableEq, Repr

/-- The commands: one constructor for each row of spec/opcode_table.json. -/
inductive Instr where
  -- starts
  | coldStart (cause : StartCause) (t : Nat) (found : Found)
  | warmRestart (cause : StartCause) (t elapsed : Nat) (found : Found)
  | fillPointRestartCheck (source : SourceNo) (closed : Bool) (t : Nat)
  -- link
  | frameReceived (port : PortNo) (t : Nat) (chars : List RxChar)
  | characterGapTimeout (port : PortNo) (t : Nat)
  | lineQuiet (port : PortNo) (t : Nat)
  | replySent (port : PortNo) (t : Nat)
  | unlistedKind (rq : Request) (kind : Nat)
  -- stations, hold, attention, log, clock, ports
  | ping (rq : Request)
  | takeHold (rq : Request)
  | releaseHold (rq : Request)
  | forceRelease (rq : Request)
  | holdLapsed
  | enrolStation (rq : Request) (port address role : Nat) (supply : Option Nat)
  | removeStation (rq : Request) (station : Nat)
  | setEnables (rq : Request) (mask : BitVec 16)
  | clearEnables (rq : Request) (mask : BitVec 16)
  | clearCauses (rq : Request) (mask : BitVec 16)
  | queryAttention (rq : Request)
  | readLog (rq : Request) (count : Nat)
  | seekLog (rq : Request) (position : Nat)
  | setTime (rq : Request) (broadcast : Bool) (time : Nat)
  | setPort (rq : Request) (port rate address enabled : Nat)
  | restartPort (rq : Request) (port : Nat)
  | readPort (rq : Request) (port : Nat)
  -- sources
  | hireSource (rq : Request) (source rating : Nat) (curve : Curve) (hireRate hot loadingLimit staleTime : Nat)
  | offHireSource (rq : Request) (source : Nat)
  | sourceReport (rq : Request) (source running load voltage freq gauge : Nat) (alarms : BitVec 8)
  | sourceStale (source : SourceNo)
  | readSource (rq : Request) (source : Nat)
  -- timebase and settlement
  | secondTick (order : TickOrder) (t : Nat)
  | settlement
  -- supplies
  | defineSupply (rq : Request) (supply : Nat) (sources : Abc (Option Nat)) (home : Option Nat)
      (autoRestore returnHome : Bool) (timing : TimingReq)
  | senseCrossing (supply : SupplyNo) (input : Input) (t : Nat)
  | voltageLossTimeout (supply : SupplyNo) (input : Input)
  | supplyTrip (supply : SupplyNo)
  | auxChange (supply : SupplyNo) (input : Input) (closed : Bool) (t : Nat)
  | confirmTimeout (supply : SupplyNo) (input : Input)
  | pulseEnd (supply : SupplyNo) (input : Input) (dir : Dir)
  | clearFault (rq : Request) (supply : Nat)
  | setShowHold (rq : Request) (broadcast : Bool) (supply : Nat)
  | clearShowHold (rq : Request) (supply : Nat)
  | readSupply (rq : Request) (supply : Nat)
  -- transfers
  | transfer (rq : Request) (supply target mode priority : Nat)
  | channelGrant (supply : SupplyNo)
  | inStepReport (channel : SyncNo)
  | syncTimeout (supply : SupplyNo)
  | tripReport (supply : SupplyNo)
  | overlapExpiry (supply : SupplyNo)
  | deadTimeExpiry (supply : SupplyNo)
  | settleTimeExpiry (supply : SupplyNo)
  | abortTransfer (rq : Request) (supply ticket : Nat)
  | readTransfer (rq : Request) (supply : Nat)
  | setSyncLimits (rq : Request) (slip phase voltage timeout : Option Nat)
  -- fuel
  | setTank (rq : Request) (source capacity floor level : Nat)
  | setFuelPrice (rq : Request) (price : Nat)
  | readTank (rq : Request) (source : Nat)
  | armDelivery (rq : Request) (source reference expected register : Nat) (expiry finish tolerance : Option Nat)
  | unloadSurveyTimer (slot : SlotNo)
  | fillPointClose (source : SourceNo) (t : Nat)
  | fillPointOpen (source : SourceNo) (t : Nat)
  | meterReading (rq : Request) (reference register : Nat)
  | closeDelivery (rq : Request) (reference register : Nat)
  | finishTimerExpiry (slot : SlotNo)
  | cancelDelivery (rq : Request) (reference : Nat)
  | armExpiry (slot : SlotNo)
  | returnAttemptTimer (supply : SupplyNo)
  | returnWindowExpiry (supply : SupplyNo)
  | readDelivery (rq : Request) (source : Nat)
  -- metering
  | defineChannel (rq : Request) (channel : Nat) (supply account : Option Nat) (wh : Nat) (width : Option Nat)
  | meterRisingEdge (channel : ChannelNo) (t : Nat)
  | meterFallingEdge (channel : ChannelNo) (t : Nat)
  | readChannel (rq : Request) (channel : Nat)
  -- billing
  | defineAccount (rq : Request) (account present reference : Nat)
  | removeAccount (rq : Request) (account : Nat)
  | setInterval (rq : Request) (minutes : Nat)
  | closePeriod (rq : Request)
  | releasePeriod (rq : Request)
  | readAccount (rq : Request) (account bank : Nat)
  | readSettlement (rq : Request)
  -- watches
  | defineWatch (rq : Request) (entry : Nat) (fields : WatchReq)
  | armWatches (rq : Request) (mask : Word)
  | disarmWatches (rq : Request) (mask : Word)
  | readWatch (rq : Request) (entry : Nat)
  deriving DecidableEq, Repr

end Sys2Proof
end

