-- ==== Sys2Proof/Config.lean ====
section
/-! DEFINITION. Config.lean: the figures that the manual fixes for every part: default settings, sizes and the lengths
of fixed durations; and the free values of log entries 22 and 38, which have no body because the manual states none. -/

namespace Sys2Proof.Config

/-- R20, default timing settings of a supply, in milliseconds (settle time in seconds, settle window in mHz). -/
def deadTime : Nat := 3000
def confirmTime : Nat := 400
def tripConfirm : Nat := 300
def overlapLimit : Nat := 150
def settleTime : Nat := 5
def settleWindow : Nat := 1500

/-- R4, defaults of HIRE SOURCE. -/
def loadingLimit : Nat := 800
def staleTime : Nat := 10

/-- R73, default sync limits (mHz, tenths of a degree, per-mille) and timeout (s). -/
def slipLimit : Nat := 200
def phaseLimit : Nat := 100
def voltageLimit : Nat := 50
def syncTimeout : Nat := 30

/-- R91, defaults of ARM DELIVERY: minutes, minutes, per-mille. -/
def armExpiry : Nat := 15
def finishTime : Nat := 5
def tolerance : Nat := 20

/-- R108, default qualification width in milliseconds. -/
def pulseWidth : Nat := 20

/-- R119, the interval length at cold start, in minutes. -/
def intervalMinutes : Nat := 15

/-- R150, the part address at cold start. -/
def partAddress : Nat := 40

/-- R162, the size of the log ring. -/
def ringSize : Nat := 512

/-- Fixed durations in milliseconds: a contactor pulse (R25), voltage loss (R23), the hold lapse (R159), the unload
survey (R92), the return attempt and the return window (R104), the longest meter pulse (R111). -/
def pulseMs : Nat := 100
def voltageLossMs : Nat := 60
def holdLapseMs : Nat := 120000
def surveyMs : Nat := 10000
def attemptMs : Nat := 10000
def windowMs : Nat := 1800000
def longestPulseMs : Nat := 1000

/-- Free values (log entry 22): the interval serial after one that stands at its last, 2^32 - 1 (R119), and a bank's
interval count after one that stands at its last (R124). The manual states neither. -/
opaque serialAfterLast : Nat → Nat
opaque countAfterLast : Nat → Nat

/-- Free value (log entry 38): the byte of a name that the manual has a reply carry and for which chapter 12 lists no
code: the reason of a DELIVERY, SOURCE_ALERT or HOLD_LAPSED cause, RESTARTED's WARM, the kind of an originator, the
state of a sync channel, the load kind, the status of an unload entry, and whether a status or a result follows. -/
opaque nameCode : String → Nat

end Sys2Proof.Config
end

