-- ==== Sys2Proof/Machine/State.lean ====
section
/-! DEFINITION. Machine/State.lean: everything the PK-3120 holds, as plain data, and its value right after a cold start.

Every timer is a due reading in milliseconds of the part's own timers (none: stopped); `now` is their reading in
microseconds (log entry 2). Figures are natural numbers; the operations hold them at the limits the rules state. -/

namespace Sys2Proof.Machine

/-! ## Attention and log -/

/-- The detail of an attention cause as its rule states it; its constructor names the cause (R160). -/
inductive Detail where
  | transferFault (supply : SupplyNo) (input : Option Input)
  | supplyTrip (supply : SupplyNo)
  | transferEnded (ticket : Nat) (supply : SupplyNo) (result : Result)
  | delivery (source : SourceNo) (reference : Option Nat) (why : DeliveryWhy)
  | returnAbandoned (supply : SupplyNo)
  | sourceAlert (source : SourceNo) (reason : AlertReason)
  | watchFired (entry : WatchNo) (value : Word) (status : Status)
  | periodClosed (bank : Bank) (periodEnd : Nat)
  | linkFault (port : PortNo) (flag : PortFlag)
  | holdLapsed (reason : LapseReason)
  | logGap (oldest lost : Nat)
  | restartedWarm
  deriving DecidableEq, Repr

/-- A log record (11_event_log.md section 11.1). Subject and values are carried as their codes (R171). -/
structure LogRecord where
  seq : Nat
  time : Nat
  kind : LogKind
  subject : Option Nat
  v1 : Option Nat
  v2 : Option Nat
  deriving DecidableEq, Repr

/-- LOG: the ring, oldest record first, and the next sequence number (R162). -/
structure Log where
  ring : List LogRecord
  next : Nat
  deriving DecidableEq, Repr

/-! ## SRC -/

/-- The fields HIRE SOURCE writes (R2). -/
structure Hire where
  rating : Nat
  curve : Curve
  rate : Nat
  hot : Bool
  loadingLimit : Nat
  staleTime : Nat
  deriving DecidableEq, Repr

/-- The telemetry record, after clamping (R2, R7). -/
structure Telemetry where
  running : Bool
  load : Nat
  voltage : Nat
  freq : Nat
  gauge : Nat
  alarms : BitVec 8
  deriving DecidableEq, Repr

/-- A source record (R2). `hire` is none while the record is UNLISTED: the hired fields then "hold no value" (R3). -/
structure Source where
  state : SourceState
  hire : Option Hire
  telemetry : Option Telemetry
  stale : Bool
  implausible : Bool
  staleTimer : Option Nat
  claim : Option Nat
  reservation : Option SlotNo
  runSeconds : Nat
  hireAcc : Nat
  lastClosed : Nat
  deriving DecidableEq, Repr

/-! ## SUP -/

/-- A confirm window (R24): the direction of its pulse, its end, and whether it is that of a restart open (R38). -/
structure Window where
  dir : Dir
  ends : Nat
  restart : Bool
  deriving DecidableEq, Repr

/-- An input record (R20) with its lines: the two pulse outputs, each asserted until a reading (R25), the confirm
window (R24), and the time of the last crossing since the start (R23), in microseconds. -/
structure InputRec where
  source : Option SourceNo
  faulted : Bool
  aux : Bool
  voltage : Bool
  period : Option Nat
  absentSince : Option Nat
  lastCrossing : Option Nat
  closePulse : Option Nat
  openPulse : Option Nat
  window : Option Window
  deriving DecidableEq, Repr

/-- The six timing settings (R19). -/
structure Timing where
  deadTime : Nat
  confirm : Nat
  tripConfirm : Nat
  overlap : Nat
  settleTime : Nat
  settleWindow : Nat
  deriving DecidableEq, Repr

/-- A supply record (R19). `record` is the source of record. -/
structure Supply where
  defined : Bool
  inputs : Abc InputRec
  home : Option Input
  autoRestore : Bool
  returnHome : Bool
  showHold : Bool
  timing : Timing
  state : SupplyState
  closed : Option Input
  record : Option SourceNo
  ticket : Option Nat
  restoreWaiting : Bool
  lastRestore : Option Status
  dark : Nat
  deriving DecidableEq, Repr

/-! ## XFR -/

/-- The transfer a slot holds (R39). `tripReport` is SUP's report not yet taken by XFR (R29, R59). -/
structure Transfer where
  ticket : Nat
  origin : Option Input
  originSource : Option SourceNo
  originTripped : Bool
  target : Input
  targetSource : SourceNo
  modeReq : ModeReq
  mode : ModeEff
  priority : Nat
  originator : Originator
  phase : Phase
  phaseTimer : Option Nat
  syncTimer : Option Nat
  syncChannel : Option SyncNo
  overlapExpired : Bool
  abortRequested : Bool
  pendingResult : Option Result
  excursion : Bool
  startTime : Nat
  endTime : Option Nat
  result : Option Result
  tripReport : Option Input
  deriving DecidableEq, Repr

/-- XFR: a slot per supply (none: it has held no transfer since cold start) and the ticket counter (R39, R40). -/
structure Xfr where
  slots : Vector (Option Transfer) 12
  counter : Nat
  deriving DecidableEq, Repr

/-! ## SYN -/

/-- A measurement (R70): valid with its three figures, or invalid with none. -/
structure Measurement where
  slip : Int
  phase : Int
  volts : Nat
  deriving DecidableEq, Repr

/-- A synchronism channel (R66). `last` is absent (none), or a measurement that is valid (some) or invalid (none).
Crossing times are in microseconds. -/
structure SyncChan where
  state : SyncState
  ticket : Option Nat
  supply : Option SupplyNo
  origin : Option Input
  target : Option Input
  originSource : Option SourceNo
  targetSource : Option SourceNo
  originCount : Nat
  targetCount : Nat
  lastCrossing : Option Nat
  lastPeriod : Option Nat
  run : Nat
  measurements : Nat
  last : Option (Option Measurement)
  grantTime : Option Nat
  deriving DecidableEq, Repr

/-- The site-wide sync settings (R73). -/
structure SyncLimits where
  slip : Nat
  phase : Nat
  volts : Nat
  timeout : Nat
  deriving DecidableEq, Repr

/-- An entry of the wait queue (R66). -/
structure QueueEntry where
  ticket : Nat
  supply : SupplyNo
  deriving DecidableEq, Repr

structure Syn where
  channels : Vector SyncChan 4
  queue : List QueueEntry
  limits : SyncLimits
  deriving DecidableEq, Repr

/-! ## TNK -/

/-- A tank record (R76). -/
structure Tank where
  set : Bool
  capacity : Option Nat
  floor : Option Nat
  book : Option Nat
  acc : Nat
  mark : Nat
  lastRate : Nat
  lastLoad : Option Nat
  loadKind : Option LoadKind
  closedBurn : Nat
  lastEstimated : Bool
  dry : Bool
  overfill : Bool
  estimated : Bool
  deriving DecidableEq, Repr

structure Tnk where
  tanks : Vector Tank 16
  price : Nat
  deriving DecidableEq, Repr

/-! ## DLV -/

/-- What an unload list entry says of its supply (R89, R94). -/
inductive UnloadStatus where
  | inFlight (ticket : Nat)
  | blocked (why : StatusOrResult)
  deriving DecidableEq, Repr

structure UnloadEntry where
  supply : SupplyNo
  status : UnloadStatus
  deriving DecidableEq, Repr

structure MovedEntry where
  supply : SupplyNo
  fromInput : Input
  toInput : Input
  deriving DecidableEq, Repr

/-- A delivery record (R89) with its three timers. The gauge fields are absent (none), or a level or none. -/
structure Delivery where
  slot : SlotNo
  reference : Option Nat
  source : SourceNo
  cold : Bool
  state : DeliveryState
  unarmed : Bool
  fillWhileLoaded : Bool
  autoClosed : Bool
  unchecked : Bool
  expected : Nat
  armMinutes : Nat
  finishMinutes : Nat
  tolerancePm : Nat
  registerAtArm : Nat
  latestRegister : Nat
  gaugeAtOpen : Option (Option Nat)
  gaugeAtClose : Option (Option Nat)
  markAtOpen : Option Nat
  markAtClose : Option Nat
  metered : Option Nat
  burnDuring : Option Nat
  gaugeRise : Option Int
  variance : Option Int
  tolerance : Option Nat
  credit : Option Nat
  unloads : List UnloadEntry
  blockedReported : Bool
  moved : List MovedEntry
  armTime : Option Nat
  openTime : Option Nat
  endTime : Option Nat
  deadline : Option Nat
  armTimer : Option Nat
  finishTimer : Option Nat
  surveyTimer : Option Nat
  deriving DecidableEq, Repr

/-- A return-list entry (R104). `window` is none once the window has run out. -/
structure ReturnEntry where
  supply : SupplyNo
  fromInput : Input
  toInput : Input
  source : SourceNo
  slot : SlotNo
  window : Option Nat
  deadline : Nat
  attempt : Option Nat
  ticket : Option Nat
  last : Option StatusOrResult
  deriving DecidableEq, Repr

structure Dlv where
  slots : Vector (Option Delivery) 8
  lastEnded : Vector (Option Delivery) 16
  returns : List ReturnEntry
  fill : Vector Bool 16
  fillUnread : Vector Bool 16
  deriving DecidableEq, Repr

/-! ## MTR -/

/-- A metering channel (R108). `bins` holds the 60 demand bins, the current second first; times are millisecond
readings. -/
structure Chan where
  defined : Bool
  supply : Option SupplyNo
  account : Option AccountNo
  wh : Nat
  width : Nat
  line : Bool
  pulseStart : Option Nat
  discardMark : Bool
  lastFall : Option Nat
  bins : List Nat
  energy : Nat
  lastEnergy : Nat
  noise : Bool
  discarded : Nat
  saturated : Bool
  deriving DecidableEq, Repr

/-- The attribution matrix (R115): a row for each account; columns 0 to 15 are sources 1 to 16, column 16 is
UNSOURCED. -/
abbrev Matrix := Vector (Vector Nat 17) 48

structure Mtr where
  channels : Vector Chan 24
  matrix : Matrix
  deriving DecidableEq, Repr

/-! ## STL -/

/-- A settlement record (R123), with its four figure sets. -/
structure SettleRec where
  index : Nat
  serial : Nat
  start : Nat
  endTime : Nat
  ticks : Nat
  hire : Option (Vector Nat 16)
  burn : Option (Vector Nat 16)
  matrix : Option Matrix
  dark : Option (Vector Nat 12)
  deriving DecidableEq, Repr

/-- One account's share of a billing period (R124). -/
structure BankRec where
  energy : Nat
  unsourced : Nat
  charge : Nat
  dark : Nat
  count : Nat
  saturated : Bool
  deriving DecidableEq, Repr

/-- An account record (R124). -/
structure Account where
  defined : Bool
  reference : Option Nat
  lastEnergy : Nat
  lastUnsourced : Nat
  lastCharge : Nat
  lastDark : Nat
  bankA : BankRec
  bankB : BankRec
  deriving DecidableEq, Repr

/-- A bank header (R124). -/
structure BankHeader where
  state : BankState
  start : Option Nat
  ends : Option Nat
  deriving DecidableEq, Repr

/-- What the last settlement found for one source (R129). -/
structure SourceFigures where
  burn : Nat
  hire : Nat
  cost : Nat
  energy : Nat
  residue : Nat
  costSaturated : Bool
  deriving DecidableEq, Repr

/-- The last-settled figures (R129). -/
structure Settled where
  index : Nat
  serial : Nat
  start : Nat
  endTime : Nat
  ticks : Nat
  price : Nat
  sources : Vector SourceFigures 16
  totalCost : Nat
  totalEnergy : Nat
  totalUnsourced : Nat
  totalResidue : Nat
  dark : Vector Nat 12
  deriving DecidableEq, Repr

/-- The site clock and the interval state (R119). Lengths are in minutes. -/
structure Clock where
  time : Nat
  minutes : Nat
  pendingMinutes : Option Nat
  index : Nat
  serial : Nat
  start : Nat
  nextBoundary : Nat
  ticks : Nat
  deriving DecidableEq, Repr

structure Stl where
  clock : Clock
  records : List SettleRec
  accounts : Vector Account 48
  bankA : BankHeader
  bankB : BankHeader
  closePending : Bool
  settled : Option Settled
  deriving DecidableEq, Repr

/-! ## WCH -/

/-- A watch entry (R137). -/
structure Watch where
  defined : Bool
  armed : Bool
  operand : Option Operand
  cond : CondCode
  threshold : Word
  hysteresis : Nat
  persistence : Nat
  action : WatchAction
  supply : Option SupplyNo
  priority : Option Nat
  mask : BitVec 8
  state : WatchState
  counter : Nat
  refusalReported : Bool
  lastValue : Option Word
  lastCond : Bool
  ticket : Option Nat
  lastStatus : Option StatusOrResult
  deriving DecidableEq, Repr

/-! ## Replies -/

/-- The settings of a port (R150). -/
structure PortSettings where
  rate : Rate
  address : Nat
  enabled : Bool
  deriving DecidableEq, Repr

/-- The six port error flags (R150). -/
structure PortFlags where
  parity : Bool
  framing : Bool
  crc : Bool
  overrun : Bool
  runt : Bool
  badBroadcast : Bool
  deriving DecidableEq, Repr

/-- The line readings of one input (R37). -/
structure LineReading where
  aux : Bool
  voltage : Bool
  period : Option Nat
  absentSince : Option Nat
  freq : Option Nat
  deriving DecidableEq, Repr

/-- What READ SETTLEMENT says of an open record (R134): its serial and index, and which figure sets are present, from
SRC, TNK, MTR and SUP. -/
structure OpenRecord where
  serial : Nat
  index : Nat
  hire : Bool
  burn : Bool
  matrix : Bool
  dark : Bool
  deriving DecidableEq, Repr

/-- What a reply carries after its status, by the rule of its request. -/
inductive Body where
  | empty
  | held (holder : StationNo)
  | station (number : StationNo)
  | attention (cause : Option Detail) (remaining : BitVec 16)
  | log (lost : Option Nat) (first : Nat) (records : List LogRecord) (more : Bool)
  | seek (cursor oldest next : Nat)
  | time (old new : Nat) (boundary : Bool) (index nextBoundary : Nat)
  | port (current pending : PortSettings) (flags : PortFlags)
  | clamps (load voltage freq gauge : Bool)
  | source (record : Source) (available : Bool) (accrued : Nat) (word : Word)
  | undefinedSupply (lines : Abc LineReading)
  | supply (record : Supply) (demand : Nat) (freqs : Abc (Option Nat)) (word : Word)
  | accepted (ticket : Nat) (target : Input) (mode : ModeEff)
  | slot (supply : SupplyNo) (transfer : Transfer) (phaseLeft syncLeft : Option Nat) (position : Option Nat)
      (channel : Option SyncChan)
  | limits (limits : SyncLimits)
  | tankSet (book levelNow : Nat) (held : Bool)
  | price (old new : Nat)
  | tank (record : Tank) (levelNow gauge : Option Nat) (gaugeStale : Bool) (variance : Option Int)
      (minutes : Option Nat) (wholeBurn remainder price : Nat)
  | armed (slot : SlotNo) (state : DeliveryState) (room : Nat) (overfill : Bool)
  | metered (quantity : Nat)
  | closed (state : DeliveryState) (unarmed fillWhileLoaded autoClosed unchecked : Bool) (metered : Option Nat)
      (variance : Option Int) (tolerance credit : Option Nat)
  | delivery (active : Option Delivery) (timeLeft : Option Nat) (last : Option Delivery) (returns : List ReturnEntry)
      (fillClosed : Bool)
  | channelSet (channel : Chan)
  | undefinedChannel (line : Bool) (energy lastEnergy : Nat)
  | channel (channel : Chan) (sum demand : Nat) (record : Option SourceNo) (cells : Vector Nat 17)
  | interval (inForce : Nat) (pending : Option Nat)
  | period (active : Bank) (pending : Bool)
  | account (reference : Option Nat) (bank : Bank) (start ends : Option Nat) (figures : BankRec)
      (lastEnergy lastUnsourced lastCharge lastDark index serial : Nat) (closePending : Bool)
  | settlement (clock : Clock) (bankA bankB : BankHeader) (closePending : Bool) (records : List OpenRecord)
      (settled : Option Settled)
  | armedWatches (mask : Word)
  | watch (record : Watch) (value : Option Word)
  deriving DecidableEq, Repr

/-- A reply frame's content (R152): addresses, kind, status, the requester's attention indication (R161) and body. -/
structure Reply where
  dest : Nat
  src : Nat
  kind : Nat
  status : Status
  attention : Bool
  body : Body
  deriving DecidableEq, Repr

/-! ## LNK and STN -/

/-- What a port does with characters (R151): hunts, assembles (the characters after the start character, oldest
first), or waits for the line to be quiet. -/
inductive Rx where
  | hunting
  | assembling (got : List Byte)
  | waitingQuiet
  deriving DecidableEq, Repr

/-- A port record (R150). -/
structure Port where
  current : PortSettings
  pending : PortSettings
  flags : PortFlags
  serving : Bool
  buffer : Option Frame
  rx : Rx
  reply : Option Reply
  restartNext : Option PortNo
  restartWaits : Bool
  deriving DecidableEq, Repr

/-- A listed station (R156), with LOG's gap mark (R162). A flag is set when it holds a detail. -/
structure Station where
  port : PortNo
  addr : Nat
  role : Role
  bound : Option SupplyNo
  flags : Vector (Option Detail) 11
  enables : Vector Bool 11
  cursor : Nat
  gapMark : Bool
  lastRequest : Nat
  deriving DecidableEq, Repr

/-- STN: a record per station number, none where unlisted, and the map hold (R156, R159). -/
structure Stn where
  stations : Vector (Option Station) 32
  hold : Option StationNo
  deriving DecidableEq, Repr

/-! ## The state -/

structure State where
  now : Nat
  lnk : Vector Port 4
  stn : Stn
  src : Vector Source 16
  sup : Vector Supply 12
  xfr : Xfr
  syn : Syn
  tnk : Tnk
  dlv : Dlv
  mtr : Mtr
  stl : Stl
  wch : Vector Watch 32
  log : Log
  pending : List Instr
  deriving DecidableEq, Repr

/-- Why a step stops with a fault. The block stops for nothing: every rule of the manual that refuses or gives up
says so in a reply or in state, so there is no constructor (safe: nothing is left out by stopping). -/
inductive Fault where
  deriving DecidableEq, Repr

/-- Why a command has no meaning. -/
inductive Refusal where
  /-- Raised only by Machine/Dispatch.lean, for a command that has no meaning in the model yet (safe). -/
  | notModelled (mnemonic : String)
  deriving DecidableEq, Repr

/-! ## The values at cold start -/

/-- R3. -/
def Source.cold : Source :=
  { state := .unlisted, hire := none, telemetry := none, stale := false, implausible := false, staleTimer := none,
    claim := none, reservation := none, runSeconds := 0, hireAcc := 0, lastClosed := 0 }

/-- R20, with `ms` the reading at the moment of cold start and the contact as found. -/
def InputRec.cold (ms : Nat) (aux : Bool) : InputRec :=
  { source := none, faulted := false, aux := aux, voltage := false, period := none, absentSince := some ms,
    lastCrossing := none, closePulse := none, openPulse := none, window := none }

def Timing.cold : Timing :=
  { deadTime := Config.deadTime, confirm := Config.confirmTime, tripConfirm := Config.tripConfirm,
    overlap := Config.overlapLimit, settleTime := Config.settleTime, settleWindow := Config.settleWindow }

/-- R20. -/
def Supply.cold (ms : Nat) (aux : Abc Bool) : Supply :=
  { defined := false, inputs := aux.map (InputRec.cold ms), home := none, autoRestore := false, returnHome := false,
    showHold := false, timing := Timing.cold, state := .undefined, closed := none, record := none, ticket := none,
    restoreWaiting := false, lastRestore := none, dark := 0 }

/-- R66. -/
def SyncChan.cold : SyncChan :=
  { state := .free, ticket := none, supply := none, origin := none, target := none, originSource := none,
    targetSource := none, originCount := 0, targetCount := 0, lastCrossing := none, lastPeriod := none, run := 0,
    measurements := 0, last := none, grantTime := none }

/-- R73. -/
def SyncLimits.cold : SyncLimits :=
  { slip := Config.slipLimit, phase := Config.phaseLimit, volts := Config.voltageLimit, timeout := Config.syncTimeout }

/-- R76. -/
def Tank.cold : Tank :=
  { set := false, capacity := none, floor := none, book := none, acc := 0, mark := 0, lastRate := 0, lastLoad := none,
    loadKind := none, closedBurn := 0, lastEstimated := false, dry := false, overfill := false, estimated := false }

/-- R108: the line as found, last fall the moment of reading if it is low. -/
def Chan.cold (ms : Nat) (line : Bool) : Chan :=
  { defined := false, supply := none, account := none, wh := 1, width := Config.pulseWidth, line := line,
    pulseStart := none, discardMark := false, lastFall := if line then none else some ms,
    bins := List.replicate 60 0, energy := 0, lastEnergy := 0, noise := false, discarded := 0, saturated := false }

def BankRec.zero : BankRec :=
  { energy := 0, unsourced := 0, charge := 0, dark := 0, count := 0, saturated := false }

/-- R124: account 0 is always defined. -/
def Account.cold (a : AccountNo) : Account :=
  { defined := a.1 == 0, reference := none, lastEnergy := 0, lastUnsourced := 0, lastCharge := 0, lastDark := 0,
    bankA := BankRec.zero, bankB := BankRec.zero }

/-- R119. -/
def Clock.cold : Clock :=
  { time := 0, minutes := Config.intervalMinutes, pendingMinutes := none, index := 0, serial := 1, start := 0,
    nextBoundary := 900, ticks := 0 }

/-- R137; the action is the model's (log entry 9). -/
def Watch.cold : Watch :=
  { defined := false, armed := false, operand := none, cond := .always, threshold := 0, hysteresis := 0,
    persistence := 0, action := .notify, supply := none, priority := none, mask := 0, state := .idle, counter := 0,
    refusalReported := false, lastValue := none, lastCond := false, ticket := none, lastStatus := none }

def PortFlags.clear : PortFlags :=
  { parity := false, framing := false, crc := false, overrun := false, runt := false, badBroadcast := false }

/-- R150. -/
def PortSettings.cold : PortSettings := { rate := .r19200, address := Config.partAddress, enabled := true }

/-- R150. -/
def Port.cold : Port :=
  { current := PortSettings.cold, pending := PortSettings.cold, flags := PortFlags.clear, serving := false,
    buffer := none, rx := .hunting, reply := none, restartNext := none, restartWaits := false }

/-- R156: station 0, whose cursor is the COLD_START record. -/
def Station.cold (ms : Nat) : Station :=
  { port := 0, addr := 1, role := .console, bound := none, flags := Vector.replicate 11 none,
    enables := Vector.replicate 11 true, cursor := 1, gapMark := false, lastRequest := ms }

/-- The part right after a cold start at timer reading `now` (in microseconds) with its lines as found: every block's
cold-start value, and COLD_START in the log as record 1 (R162). -/
def State.cold (now : Nat) (found : Found) (queue : List Instr) : State :=
  { now := now
    lnk := Vector.replicate 4 Port.cold
    stn := { stations := upd (Vector.replicate 32 none) 0 (some (Station.cold (now / 1000))), hold := none }
    src := Vector.replicate 16 Source.cold
    sup := tab fun n => Supply.cold (now / 1000) (look found.aux n)
    xfr := { slots := Vector.replicate 12 none, counter := 1 }
    syn := { channels := Vector.replicate 4 SyncChan.cold, queue := [], limits := SyncLimits.cold }
    tnk := { tanks := Vector.replicate 16 Tank.cold, price := 0 }
    dlv := { slots := Vector.replicate 8 none, lastEnded := Vector.replicate 16 none, returns := [],
             fill := found.fill, fillUnread := Vector.replicate 16 false }
    mtr := { channels := tab fun c => Chan.cold (now / 1000) (look found.meter c),
             matrix := Vector.replicate 48 (Vector.replicate 17 0) }
    stl := { clock := Clock.cold, records := [], accounts := tab Account.cold,
             bankA := { state := .active, start := some 0, ends := none },
             bankB := { state := .released, start := none, ends := none },
             closePending := false, settled := none }
    wch := Vector.replicate 32 Watch.cold
    log := { ring := [{ seq := 1, time := 0, kind := .coldStart, subject := none, v1 := none, v2 := none }], next := 2 }
    pending := queue }

/-- Every contactor open, every meter line low, every fill point open (log entry 8). -/
def Found.quiet : Found :=
  { aux := Vector.replicate 12 (Abc.pure false), meter := Vector.replicate 24 false,
    fill := Vector.replicate 16 false }

/-- The machine right after reset: a cold start at timer reading 0 with every line quiet and an empty queue. -/
def State.reset : State := State.cold 0 Found.quiet []

end Sys2Proof.Machine
end

