-- ==== Sys2Proof/Machine/Codes.lean ====
section
/-! DEFINITION. Machine/Codes.lean: the codes of R168 and the request kinds of chapter 12 section 12.2 with the
permissions of R157. -/

namespace Sys2Proof.Machine

/-- R168, status codes. -/
def statusCode : Status → Nat
  | .ok => 0x00 | .accepted => 0x01 | .denied => 0x02 | .noHold => 0x03 | .held => 0x04 | .showHeld => 0x05
  | .busy => 0x06 | .lost => 0x07 | .range => 0x08 | .unknown => 0x09 | .state => 0x0A | .full => 0x0B
  | .late => 0x0C | .overload => 0x0D | .noAlternative => 0x0E | .bankFull => 0x0F | .gap => 0x10
  | .badKind => 0x11 | .badLength => 0x12

/-- R168, transfer results. -/
def resultCode : Result → Nat
  | .done => 0 | .doneUnstable => 1 | .aborted => 2 | .failOpen => 3 | .failClose => 4 | .failBoth => 5
  | .syncTimeout => 6 | .noTarget => 7 | .interrupted => 8

/-- R171: statuses and results are carried as their codes. -/
def outcomeCode : StatusOrResult → Nat
  | .status x => statusCode x
  | .result x => resultCode x

/-- R166: inputs A, B, C are 0, 1, 2. -/
def inputCode : Input → Nat
  | .a => 0 | .b => 1 | .c => 2

/-- R171: directions, close 0 and open 1. -/
def dirCode : Dir → Nat
  | .toClose => 0 | .toOpen => 1

/-- R171: positions, open 0 and closed 1. -/
def positionCode (closed : Bool) : Nat := if closed then 1 else 0

/-- R171: banks as their letter, 0 for A and 1 for B. -/
def bankCode : Bank → Nat
  | .a => 0 | .b => 1

/-- R168, delivery states. -/
def deliveryCode : DeliveryState → Nat
  | .armed => 0 | .waitingUnload => 1 | .opened => 2 | .filled => 3 | .closed => 4 | .disputed => 5
  | .cancelled => 6 | .expired => 7 | .closedUnarmed => 8

/-- R168, source states. -/
def sourceStateCode : SourceState → Nat
  | .unlisted => 0 | .stopped => 1 | .running => 2 | .refuel => 3 | .offHire => 4

/-- R168, supply states. -/
def supplyStateCode : SupplyState → Nat
  | .undefined => 0 | .live => 1 | .tripped => 2 | .dark => 3 | .transfer => 4 | .fault => 5

/-- R168, transfer phases. -/
def phaseCode : Phase → Nat
  | .syncWait => 0 | .sync => 1 | .parallelClose => 2 | .parallelOpen => 3 | .opening => 4 | .dead => 5
  | .closing => 6 | .reclose => 7 | .settle => 8

/-- R168, bank states. -/
def bankStateCode : BankState → Nat
  | .active => 0 | .frozen => 1 | .released => 2

/-- R168, watch states. -/
def watchStateCode : WatchState → Nat
  | .idle => 0 | .pending => 1 | .fired => 2 | .retry => 3

/-- R168, modes in effect. -/
def modeCode : ModeEff → Nat
  | .break => 0 | .closed => 1 | .closeOnly => 2

/-- R168, port flags. -/
def portFlagCode : PortFlag → Nat
  | .parity => 0 | .framing => 1 | .crc => 2 | .overrun => 3 | .runt => 4 | .badBroadcast => 5

/-- R168, log kinds. -/
def logKindCode : LogKind → Nat
  | .transferEnd => 1 | .supplyTrip => 2 | .supplyRestored => 3 | .inputFault => 4 | .uncommanded => 5
  | .sourceHired => 6 | .sourceOffHire => 7 | .sourceStale => 8 | .sourceFresh => 9 | .deliveryArmed => 10
  | .deliveryOpen => 11 | .deliveryEnd => 12 | .unarmedFill => 13 | .unloadBlocked => 14 | .returnAbandoned => 15
  | .intervalSettled => 16 | .periodClosed => 17 | .periodReleased => 18 | .watchFired => 19 | .holdTaken => 20
  | .holdReleased => 21 | .holdLapsed => 22 | .timeSet => 23 | .linkFault => 24 | .warmRestart => 25
  | .coldStart => 26

/-- R168: causes are coded by their reporting order, from RESTARTED 1 to TRANSFER_FAULT 11; R167: the cause of order
n is bit n - 1 of a cause mask. The index is that bit. -/
def causeIndex : Cause → Fin 11
  | .restarted => 0 | .logGap => 1 | .holdLapsed => 2 | .linkFault => 3 | .periodClosed => 4 | .watchFired => 5
  | .sourceAlert => 6 | .delivery => 7 | .transferEnded => 8 | .supplyTrip => 9 | .transferFault => 10

/-- R168, attention causes: coded by their reporting order; QUERY ATTENTION's NONE is 0. -/
def causeCode : Option Cause → Nat
  | none => 0
  | some c => (causeIndex c).1 + 1

/-- R160: the cause a detail belongs to. -/
def detailCause : Detail → Cause
  | .transferFault _ _ => .transferFault
  | .supplyTrip _ => .supplyTrip
  | .transferEnded _ _ _ => .transferEnded
  | .delivery _ _ _ => .delivery
  | .returnAbandoned _ => .delivery
  | .sourceAlert _ _ => .sourceAlert
  | .watchFired _ _ _ => .watchFired
  | .periodClosed _ _ => .periodClosed
  | .linkFault _ _ => .linkFault
  | .holdLapsed _ => .holdLapsed
  | .logGap _ _ => .logGap
  | .restartedWarm => .restarted

/-- R166: the input a code names. -/
def inputOf? : Nat → Option Input
  | 0 => some .a | 1 => some .b | 2 => some .c | _ => none

/-- R166: a transfer target code: A, B, C, or 3 for BEST (none inside). -/
def targetOf? : Nat → Option (Option Input)
  | 0 => some (some .a) | 1 => some (some .b) | 2 => some (some .c) | 3 => some none | _ => none

/-- R168: requested modes. -/
def modeReqOf? : Nat → Option ModeReq
  | 0 => some .break | 1 => some .closed | 2 => some .auto | _ => none

def modeReqCode : ModeReq → Nat
  | .break => 0 | .closed => 1 | .auto => 2

/-- R168: roles. -/
def roleOf? : Nat → Option Role
  | 0 => some .console | 1 => some .fleet | 2 => some .fuel | 3 => some .stage | _ => none

/-- R168: in a notify mask the role numbers are bit positions. -/
def roleBit : Role → Nat
  | .console => 0 | .fleet => 1 | .fuel => 2 | .stage => 3

/-- R167: rates are carried as an index. -/
def rateOf? : Nat → Option Rate
  | 0 => some .r9600 | 1 => some .r19200 | 2 => some .r38400 | 3 => some .r57600 | 4 => some .r115200
  | 5 => some .r230400 | _ => none

def rateCode : Rate → Nat
  | .r9600 => 0 | .r19200 => 1 | .r38400 => 2 | .r57600 => 3 | .r115200 => 4 | .r230400 => 5

/-- R168: condition codes. -/
def condOf? : Nat → Option CondCode
  | 0 => some .always | 1 => some .eq | 2 => some .ne | 3 => some .gt | 4 => some .ge | 5 => some .lt
  | 6 => some .le | 7 => some .above | 8 => some .atOrAbove | 9 => some .below | 10 => some .atOrBelow
  | 11 => some .neg | 12 => some .bitSet | 13 => some .bitClr | _ => none

def condCode : CondCode → Nat
  | .always => 0 | .eq => 1 | .ne => 2 | .gt => 3 | .ge => 4 | .lt => 5 | .le => 6 | .above => 7 | .atOrAbove => 8
  | .below => 9 | .atOrBelow => 10 | .neg => 11 | .bitSet => 12 | .bitClr => 13

/-- R168: watch actions. -/
def actionOf? : Nat → Option WatchAction
  | 0 => some .notify | 1 => some .transfer | _ => none

def actionCode : WatchAction → Nat
  | .notify => 0 | .transfer => 1

/-- R166: a yes-or-no field is one byte, 0 or 1. -/
def flagOf? : Nat → Option Bool
  | 0 => some false | 1 => some true | _ => none

/-- R168 and R139: the operand that a kind code and an index name, none where either is outside its range. -/
def operandOf? (kind index : Nat) : Option Operand :=
  match kind with
  | 0 => (number? 16 index).map .sourceLoad
  | 1 => (number? 16 index).map .sourceFreq
  | 2 => (number? 16 index).map .sourceStatus
  | 3 => (number? 16 index).map .minutesToDry
  | 4 => (number? 16 index).map .tankBook
  | 5 => (number? 16 index).map .tankVariance
  | 6 => (number? 12 index).map .supplyDemand
  | 7 => (number? 12 index).map .supplyStatus
  | 8 => (index? 24 index).map .channelDemand
  | 9 => (index? 48 index).map .accountCharge
  | 10 => if index = 0 then some .timeOfDay else none
  | _ => none

/-- R168 and R139: the kind code and the index of an operand. -/
def operandCode : Operand → Nat × Nat
  | .sourceLoad i => (0, numberOf i)
  | .sourceFreq i => (1, numberOf i)
  | .sourceStatus i => (2, numberOf i)
  | .minutesToDry i => (3, numberOf i)
  | .tankBook i => (4, numberOf i)
  | .tankVariance i => (5, numberOf i)
  | .supplyDemand n => (6, numberOf n)
  | .supplyStatus n => (7, numberOf n)
  | .channelDemand c => (8, c.1)
  | .accountCharge a => (9, a.1)
  | .timeOfDay => (10, 0)

/-- A request kind: its code and payload length (section 12.2), the roles permitted and whether it needs the map hold
(R157). -/
structure Kind where
  code : Nat
  len : Nat
  roles : List Role
  hold : Bool
  deriving DecidableEq, Repr

def everyRole : List Role := [.console, .fleet, .fuel, .stage]

def kindPing : Kind := ⟨0x01, 0, everyRole, false⟩
def kindTakeHold : Kind := ⟨0x02, 0, [.console, .fleet, .fuel], false⟩
def kindReleaseHold : Kind := ⟨0x03, 0, [.console, .fleet, .fuel], false⟩
def kindForceRelease : Kind := ⟨0x04, 0, [.console], false⟩
def kindEnrolStation : Kind := ⟨0x05, 4, [.console], true⟩
def kindRemoveStation : Kind := ⟨0x06, 1, [.console], true⟩
def kindSetEnables : Kind := ⟨0x07, 2, everyRole, false⟩
def kindClearEnables : Kind := ⟨0x08, 2, everyRole, false⟩
def kindClearCauses : Kind := ⟨0x09, 2, everyRole, false⟩
def kindQueryAttention : Kind := ⟨0x0A, 0, everyRole, false⟩
def kindReadLog : Kind := ⟨0x0B, 1, everyRole, false⟩
def kindSeekLog : Kind := ⟨0x0C, 1, everyRole, false⟩
def kindSetTime : Kind := ⟨0x0D, 4, [.console], false⟩
def kindSetPort : Kind := ⟨0x0E, 4, [.console], false⟩
def kindRestartPort : Kind := ⟨0x0F, 1, [.console], false⟩
def kindReadPort : Kind := ⟨0x10, 1, [.console], false⟩
def kindHireSource : Kind := ⟨0x20, 20, [.console, .fleet], true⟩
def kindOffHireSource : Kind := ⟨0x21, 1, [.console, .fleet], true⟩
def kindSourceReport : Kind := ⟨0x22, 12, [.console, .fleet], false⟩
def kindReadSource : Kind := ⟨0x23, 1, [.console, .fleet, .fuel], false⟩
def kindDefineSupply : Kind := ⟨0x30, 17, [.console], true⟩
def kindTransfer : Kind := ⟨0x31, 4, [.console, .stage], false⟩
def kindAbortTransfer : Kind := ⟨0x32, 3, [.console, .stage], false⟩
def kindSetShowHold : Kind := ⟨0x33, 1, [.console, .stage], false⟩
def kindClearShowHold : Kind := ⟨0x34, 1, [.console, .stage], false⟩
def kindClearFault : Kind := ⟨0x35, 1, [.console], false⟩
def kindReadSupply : Kind := ⟨0x36, 1, [.console, .fleet, .stage], false⟩
def kindReadTransfer : Kind := ⟨0x37, 1, everyRole, false⟩
def kindSetSyncLimits : Kind := ⟨0x38, 5, [.console], true⟩
def kindSetTank : Kind := ⟨0x40, 13, [.console, .fuel], true⟩
def kindSetFuelPrice : Kind := ⟨0x41, 2, [.console], false⟩
def kindArmDelivery : Kind := ⟨0x42, 15, [.console, .fuel], false⟩
def kindMeterReading : Kind := ⟨0x43, 8, [.console, .fuel], false⟩
def kindCloseDelivery : Kind := ⟨0x44, 8, [.console, .fuel], false⟩
def kindCancelDelivery : Kind := ⟨0x45, 4, [.console, .fuel], false⟩
def kindReadTank : Kind := ⟨0x46, 1, [.console, .fleet, .fuel], false⟩
def kindReadDelivery : Kind := ⟨0x47, 1, [.console, .fuel], false⟩
def kindDefineChannel : Kind := ⟨0x50, 6, [.console], true⟩
def kindDefineAccount : Kind := ⟨0x51, 6, [.console], true⟩
def kindRemoveAccount : Kind := ⟨0x52, 1, [.console], true⟩
def kindSetInterval : Kind := ⟨0x53, 1, [.console], true⟩
def kindClosePeriod : Kind := ⟨0x54, 0, [.console], false⟩
def kindReleasePeriod : Kind := ⟨0x55, 0, [.console], false⟩
def kindReadAccount : Kind := ⟨0x56, 2, [.console, .stage], false⟩
def kindReadChannel : Kind := ⟨0x57, 1, [.console, .stage], false⟩
def kindReadSettlement : Kind := ⟨0x58, 0, [.console], false⟩
def kindDefineWatch : Kind := ⟨0x60, 18, [.console], true⟩
def kindArmWatches : Kind := ⟨0x61, 4, [.console], false⟩
def kindDisarmWatches : Kind := ⟨0x62, 4, [.console], false⟩
def kindReadWatch : Kind := ⟨0x63, 1, [.console], false⟩

/-- Section 12.2: every listed kind. -/
def kindTable : List Kind :=
  [kindPing, kindTakeHold, kindReleaseHold, kindForceRelease, kindEnrolStation, kindRemoveStation, kindSetEnables,
   kindClearEnables, kindClearCauses, kindQueryAttention, kindReadLog, kindSeekLog, kindSetTime, kindSetPort,
   kindRestartPort, kindReadPort] ++
  [kindHireSource, kindOffHireSource, kindSourceReport, kindReadSource, kindDefineSupply, kindTransfer,
   kindAbortTransfer, kindSetShowHold, kindClearShowHold, kindClearFault, kindReadSupply, kindReadTransfer,
   kindSetSyncLimits] ++
  [kindSetTank, kindSetFuelPrice, kindArmDelivery, kindMeterReading, kindCloseDelivery, kindCancelDelivery,
   kindReadTank, kindReadDelivery, kindDefineChannel, kindDefineAccount, kindRemoveAccount, kindSetInterval,
   kindClosePeriod, kindReleasePeriod, kindReadAccount, kindReadChannel, kindReadSettlement] ++
  [kindDefineWatch, kindArmWatches, kindDisarmWatches, kindReadWatch]

/-- R167: whether chapter 12 lists a kind. -/
def listedKind (code : Nat) : Bool := kindTable.any fun k => k.code == code

end Sys2Proof.Machine
end

