-- ==== Sys2Proof/Machine/Ops.lean ====
section
/-! DEFINITION. Machine/Ops.lean: the named operations over the part's records, the reading of its timers, raising a
cause (R160) and appending to the log (R162). Every other file changes the state through these. -/

namespace Sys2Proof.Machine

/-! ## Time (log entry 2) -/

/-- The reading of the part's millisecond timers. -/
def State.ms (s : State) : Nat := s.now / 1000

/-- The site time (R119). -/
def State.clock (s : State) : Nat := s.stl.clock.time

/-- The timers run on to reading `t`, in microseconds; a reading that lies in the past moves nothing. -/
def advanceTo (t : Nat) (s : State) : State := { s with now := max s.now t }

/-- The timers run on to the millisecond reading at which a timer is due. -/
def advanceToMs (due : Nat) (s : State) : State := advanceTo (due * 1000) s

/-! ## Records -/

def State.port (s : State) (p : PortNo) : Port := look s.lnk p
def State.station (s : State) (n : StationNo) : Option Station := look s.stn.stations n
def State.source (s : State) (i : SourceNo) : Source := look s.src i
def State.supply (s : State) (n : SupplyNo) : Supply := look s.sup n
def State.input (s : State) (n : SupplyNo) (x : Input) : InputRec := (s.supply n).inputs.get x
def State.slot (s : State) (n : SupplyNo) : Option Transfer := look s.xfr.slots n
def State.sync (s : State) (c : SyncNo) : SyncChan := look s.syn.channels c
def State.tank (s : State) (i : SourceNo) : Tank := look s.tnk.tanks i
def State.delivery (s : State) (d : SlotNo) : Option Delivery := look s.dlv.slots d
def State.lastEnded (s : State) (i : SourceNo) : Option Delivery := look s.dlv.lastEnded i
def State.chan (s : State) (c : ChannelNo) : Chan := look s.mtr.channels c
def State.account (s : State) (a : AccountNo) : Account := look s.stl.accounts a
def State.watch (s : State) (w : WatchNo) : Watch := look s.wch w

def setPort (p : PortNo) (r : Port) (s : State) : State := { s with lnk := upd s.lnk p r }
def setStation (n : StationNo) (r : Option Station) (s : State) : State :=
  { s with stn := { s.stn with stations := upd s.stn.stations n r } }
def setHold (h : Option StationNo) (s : State) : State := { s with stn := { s.stn with hold := h } }
def setSource (i : SourceNo) (r : Source) (s : State) : State := { s with src := upd s.src i r }
def setSupply (n : SupplyNo) (r : Supply) (s : State) : State := { s with sup := upd s.sup n r }
def setInput (n : SupplyNo) (x : Input) (r : InputRec) (s : State) : State :=
  setSupply n { s.supply n with inputs := (s.supply n).inputs.put x r } s
def setSlot (n : SupplyNo) (r : Option Transfer) (s : State) : State :=
  { s with xfr := { s.xfr with slots := upd s.xfr.slots n r } }
def setCounter (k : Nat) (s : State) : State := { s with xfr := { s.xfr with counter := k } }
def setSync (c : SyncNo) (r : SyncChan) (s : State) : State :=
  { s with syn := { s.syn with channels := upd s.syn.channels c r } }
def setQueue (q : List QueueEntry) (s : State) : State := { s with syn := { s.syn with queue := q } }
def setLimits (l : SyncLimits) (s : State) : State := { s with syn := { s.syn with limits := l } }
def setTankRec (i : SourceNo) (r : Tank) (s : State) : State :=
  { s with tnk := { s.tnk with tanks := upd s.tnk.tanks i r } }
def setPrice (p : Nat) (s : State) : State := { s with tnk := { s.tnk with price := p } }
def setDelivery (d : SlotNo) (r : Option Delivery) (s : State) : State :=
  { s with dlv := { s.dlv with slots := upd s.dlv.slots d r } }
def setLastEnded (i : SourceNo) (r : Option Delivery) (s : State) : State :=
  { s with dlv := { s.dlv with lastEnded := upd s.dlv.lastEnded i r } }
def setReturns (l : List ReturnEntry) (s : State) : State := { s with dlv := { s.dlv with returns := l } }
def setFill (i : SourceNo) (closed : Bool) (s : State) : State :=
  { s with dlv := { s.dlv with fill := upd s.dlv.fill i closed } }
def setFillUnread (i : SourceNo) (b : Bool) (s : State) : State :=
  { s with dlv := { s.dlv with fillUnread := upd s.dlv.fillUnread i b } }
def setChan (c : ChannelNo) (r : Chan) (s : State) : State :=
  { s with mtr := { s.mtr with channels := upd s.mtr.channels c r } }
def setMatrix (m : Matrix) (s : State) : State := { s with mtr := { s.mtr with matrix := m } }
def setClock (c : Clock) (s : State) : State := { s with stl := { s.stl with clock := c } }
def setRecords (l : List SettleRec) (s : State) : State := { s with stl := { s.stl with records := l } }
def setAccount (a : AccountNo) (r : Account) (s : State) : State :=
  { s with stl := { s.stl with accounts := upd s.stl.accounts a r } }
def setWatch (w : WatchNo) (r : Watch) (s : State) : State := { s with wch := upd s.wch w r }
def setLog (l : Log) (s : State) : State := { s with log := l }

def modSource (i : SourceNo) (f : Source → Source) (s : State) : State := setSource i (f (s.source i)) s
def modSupply (n : SupplyNo) (f : Supply → Supply) (s : State) : State := setSupply n (f (s.supply n)) s
def modInput (n : SupplyNo) (x : Input) (f : InputRec → InputRec) (s : State) : State :=
  setInput n x (f (s.input n x)) s
def modSlot (n : SupplyNo) (f : Transfer → Transfer) (s : State) : State := setSlot n ((s.slot n).map f) s
def modPort (p : PortNo) (f : Port → Port) (s : State) : State := setPort p (f (s.port p)) s
def modStation (n : StationNo) (f : Station → Station) (s : State) : State :=
  setStation n ((s.station n).map f) s
def modDelivery (d : SlotNo) (f : Delivery → Delivery) (s : State) : State :=
  setDelivery d ((s.delivery d).map f) s
def modChan (c : ChannelNo) (f : Chan → Chan) (s : State) : State := setChan c (f (s.chan c)) s
def modWatch (w : WatchNo) (f : Watch → Watch) (s : State) : State := setWatch w (f (s.watch w)) s

/-- Every listed station's record, changed by a function of its number. -/
def eachStation (f : StationNo → Station → Station) (s : State) : State :=
  { s with stn := { s.stn with stations := tab fun n => (look s.stn.stations n).map (f n) } }

/-! ## Raising a cause (R160) -/

/-- STN sets the flag of the detail's cause and writes the detail over any it held. -/
def withFlag (d : Detail) (st : Station) : Station :=
  { st with flags := upd st.flags (causeIndex (detailCause d)) (some d) }

/-- R160: the cause is raised to every listed station that `who` names, enabled or not. -/
def raise (d : Detail) (who : StationNo → Station → Bool) (s : State) : State :=
  eachStation (fun n st => if who n st then withFlag d st else st) s

def toConsole (_ : StationNo) (st : Station) : Bool := st.role == .console
def toFleetAndConsole (_ : StationNo) (st : Station) : Bool := st.role == .fleet || st.role == .console
def toFuelAndConsole (_ : StationNo) (st : Station) : Bool := st.role == .fuel || st.role == .console
/-- Every CONSOLE station and every STAGE station bound to the supply (R27, R32). -/
def toConsoleAndStage (n : SupplyNo) (_ : StationNo) (st : Station) : Bool :=
  st.role == .console || (st.role == .stage && st.bound == some n)
def toStation (m n : StationNo) (_ : Station) : Bool := n == m
/-- Every station whose role is in a notify mask (R144). -/
def toMask (mask : BitVec 8) (_ : StationNo) (st : Station) : Bool := mask.getLsbD (roleBit st.role)

/-- R161: whether a station has a flag both set and enabled. -/
def attentionOf (st : Station) : Bool :=
  (indices 11).any fun i => (look st.flags i).isSome && look st.enables i

/-- R161: a port's attention output. -/
def attentionOutput (s : State) (p : PortNo) : Bool :=
  (s.port p).current.enabled &&
    (indices 32).any fun n => match s.station n with
      | some st => st.port == p && attentionOf st
      | none => false

/-! ## The log (R162) -/

/-- R162: the oldest record's number. -/
def oldestOf (l : Log) : Nat := if l.ring.length < Config.ringSize then 1 else l.next - Config.ringSize

/-- R162 step 3: a station whose cursor is at or below the lost record is marked and told, once. -/
def markGap (lost oldest : Nat) (st : Station) : Station :=
  if st.cursor ≤ lost && !st.gapMark then
    withFlag (.logGap oldest (oldest - st.cursor)) { st with gapMark := true }
  else st

/-- R162: one record is appended at the present site time. Once the number 2^32 - 1 has been used, nothing is. -/
def logAppend (kind : LogKind) (subject v1 v2 : Option Nat) (s : State) : State :=
  if s.log.next ≤ max32 then
    let r : LogRecord := { seq := s.log.next, time := s.clock, kind := kind, subject := subject, v1 := v1, v2 := v2 }
    if s.log.ring.length < Config.ringSize then
      setLog { ring := s.log.ring ++ [r], next := s.log.next + 1 } s
    else
      let log' : Log := { ring := s.log.ring.drop 1 ++ [r], next := s.log.next + 1 }
      eachStation (fun _ st => markGap (oldestOf s.log) (oldestOf log') st) (setLog log' s)
  else s

/-- A source's number and a supply's number, as log records carry them. -/
def num {n : Nat} (i : Fin n) : Option Nat := some (numberOf i)

end Sys2Proof.Machine
end

