-- ==== Sys2Proof/Machine/Figures.lean ====
section
/-! DEFINITION. Machine/Figures.lean: the figures that blocks derive from their records when asked: availability and
the claim test (R13, R14), demand (R113, R114), capacity (R44), burn rates (R80), tank figures (R84, R85) and a tank as it is read (R87). -/

namespace Sys2Proof.Machine

/-! ## SRC -/

/-- The stored running bit, 0 while telemetry is absent (R2). -/
def runningBit (r : Source) : Bool :=
  match r.telemetry with
  | some t => t.running
  | none => false

/-- On hire: STOPPED, RUNNING or REFUEL. -/
def onHire (r : Source) : Bool := r.state == .stopped || r.state == .running || r.state == .refuel

/-- R13, with a claim held by ticket `pre` counted as none (R43); `pre = none` is R13 itself. -/
def availableFor (pre : Option Nat) (r : Source) : Bool :=
  r.state == .running && !r.stale && !r.implausible && (r.claim == none || r.claim == pre) && r.reservation == none

/-- R13: available as a transfer target. -/
def available (r : Source) : Bool := availableFor none r

/-- R14: SRC's answer to an enquiry or a claim request that pre-empts ticket `pre`; none is granted. -/
def claimAnswer (pre : Option Nat) (r : Source) : Option Status :=
  if r.claim != none && r.claim != pre then some .lost
  else if r.state == .refuel || r.reservation != none then some .state
  else if !availableFor pre r then some .noAlternative
  else none

/-- R4 to R8: the hired fields; a record on hire always holds them. -/
def hireOf (r : Source) : Hire :=
  r.hire.getD { rating := 0, curve := ⟨0, 0, 0, 0, 0⟩, rate := 0, hot := false, loadingLimit := 0, staleTime := 0 }

/-- R9: the hire accrued in the current interval, and R5's logged figure. -/
def hireAccrued (r : Source) : Nat := r.hireAcc / 3600

/-- R12: where a source leaving REFUEL goes. -/
def afterRefuel (r : Source) : SourceState := if runningBit r then .running else .stopped

/-! ## SUP -/

/-- Whether any input assigned to a source, on any supply, is aux-closed (R5, R11). -/
def anyClosedOnto (s : State) (i : SourceNo) : Bool :=
  (indices 12).any fun n => allInputs.any fun x => (s.input n x).source == some i && (s.input n x).aux

/-- The inputs of a supply that are aux-closed. -/
def closedInputs (s : State) (n : SupplyNo) : List Input := allInputs.filter fun x => (s.input n x).aux

/-- The source assigned to the closed input. -/
def closedSource (s : State) (n : SupplyNo) : Option SourceNo := (s.supply n).closed.bind fun x => (s.input n x).source

/-- R29: the feeding input, whose assigned source is the source of record. -/
def feedingInput (s : State) (n : SupplyNo) : Option Input :=
  match (s.supply n).record with
  | some i => allInputs.find? fun x => (s.input n x).source == some i
  | none => none

/-- R23: an input's frequency in mHz, none while voltage is absent. -/
def inputFreq (r : InputRec) : Option Nat :=
  if r.voltage then r.period.map fun p => 1000000000 / p else none

/-- A transfer is in flight on the supply: its slot holds a ticket and no result (R39). -/
def inFlight (s : State) (n : SupplyNo) : Option Transfer :=
  (s.slot n).bind fun t => if t.result == none then some t else none

/-! ## MTR -/

/-- R113: a channel's demand in kW. -/
def chanDemand (c : Chan) : Nat := c.bins.sum * c.wh * 60 / 1000

/-- R114: a supply's demand in kW. -/
def supplyDemand (s : State) (n : SupplyNo) : Nat :=
  total fun c : ChannelNo =>
    if (s.chan c).defined && (s.chan c).supply == some n then chanDemand (s.chan c) else 0

/-- R44: the committed load of a source; R79: the estimated load of a stale one. -/
def demandOn (s : State) (i : SourceNo) : Nat :=
  total fun n : SupplyNo => if (s.supply n).record == some i then supplyDemand s n else 0

/-- R44 step 9: the supply's demand on top of the target's committed load stays within its loading limit. -/
def withinCapacity (s : State) (n : SupplyNo) (i : SourceNo) : Bool :=
  supplyDemand s n + demandOn s i ≤ (hireOf (s.source i)).rating * (hireOf (s.source i)).loadingLimit / 1000

/-! ## TNK -/

/-- The point r_k of a fuel curve. -/
def curvePoint (c : Curve) : Nat → Nat
  | 0 => c.r0 | 1 => c.r1 | 2 => c.r2 | 3 => c.r3 | _ => c.r4

/-- R80: the burn rate in dL/h at load `load` for rating `rating`. -/
def burnRate (c : Curve) (rating load : Nat) : Nat :=
  let ratio := min (load * 1000 / rating) 1250
  let k := min (ratio / 250) 3
  curvePoint c k + (curvePoint c (k + 1) - curvePoint c k) * (ratio - 250 * k) / 250

/-- The whole decilitres of the burn not yet closed. -/
def openBurn (k : Tank) : Nat := k.acc / 3600

/-- R84: the level now. -/
def levelNow (k : Tank) : Option Nat := if k.set then k.book.map fun b => b - openBurn k else none

/-- R84: the gauge level, on the held gauge where the source is STALE. -/
def gaugeLevel (k : Tank) (r : Source) : Option Nat :=
  if k.set then k.capacity.bind fun c => r.telemetry.map fun t => c * t.gauge / 1000 else none

/-- R84: the gauge level as DLV is handed it, none while the source is STALE. -/
def gaugeForDelivery (s : State) (i : SourceNo) : Option Nat :=
  if (s.source i).stale then none else gaugeLevel (s.tank i) (s.source i)

/-- R84: the variance. -/
def tankVariance (k : Tank) (r : Source) : Option Int :=
  match levelNow k, gaugeLevel k r with
  | some l, some g => some ((l : Int) - (g : Int))
  | _, _ => none

/-- R85, R87: a tank as it is read: of an OFF_HIRE source with a last rate of 0, whatever the latest tick used (log
entry 41). -/
def tankAsRead (k : Tank) (r : Source) : Tank := if r.state == .offHire then { k with lastRate := 0 } else k

/-- R85: the minutes to dry. -/
def minutesToDry (k : Tank) : Option Nat :=
  if k.set then
    match k.book, k.floor with
    | some b, some f =>
      let usable : Int := (b : Int) - (openBurn k : Int) - (f : Int)
      if usable ≤ 0 then some 0
      else if k.lastRate = 0 then some 65535
      else some (min 65535 (usable.toNat * 60 / k.lastRate))
    | _, _ => none
  else none

/-! ## STL -/

/-- R130: the letter of the ACTIVE bank. -/
def activeBank (s : State) : Bank := if s.stl.bankA.state == .active then .a else .b

def otherBank : Bank → Bank
  | .a => .b | .b => .a

def bankHeader (s : State) : Bank → BankHeader
  | .a => s.stl.bankA | .b => s.stl.bankB

def bankOf (r : Account) : Bank → BankRec
  | .a => r.bankA | .b => r.bankB

/-- R130, R133: the FROZEN bank, if there is one. -/
def frozenBank (s : State) : Option Bank :=
  if s.stl.bankA.state == .frozen then some .a else if s.stl.bankB.state == .frozen then some .b else none

end Sys2Proof.Machine
end

