-- ==== Sys2Proof/Machine/Flags.lean ====
section
/-! DEFINITION. Machine/Flags.lean: the flags Z, N, C, V of a watch comparison and the condition codes (R141), the
release test (R142), and the source and supply status words (R37, R139, R169). -/

namespace Sys2Proof.Machine

/-! ## R141 -/

/-- The four flags of a comparison. -/
structure Cmp where
  z : Bool
  n : Bool
  c : Bool
  v : Bool
  deriving DecidableEq, Repr

/-- R141: the flags of D = value - threshold modulo 2^32. -/
def compare (value threshold : Word) : Cmp :=
  let d := value - threshold
  { z := d == 0
    n := d.msb
    c := value.toNat < threshold.toNat
    v := value.msb != threshold.msb && d.msb != value.msb }

/-- R141: what each code tests. -/
def condHolds (code : CondCode) (value threshold : Word) : Bool :=
  let f := compare value threshold
  match code with
  | .always => true
  | .eq => f.z
  | .ne => !f.z
  | .gt => !f.z && f.n == f.v
  | .ge => f.n == f.v
  | .lt => f.n != f.v
  | .le => f.z || f.n != f.v
  | .above => !f.c && !f.z
  | .atOrAbove => !f.c
  | .below => f.c
  | .atOrBelow => f.c || f.z
  | .neg => value.msb
  | .bitSet => value.getLsbD (threshold.toNat % 32)
  | .bitClr => !value.getLsbD (threshold.toNat % 32)

/-- R142: the release threshold, formed exactly and then held at its limit. -/
def releaseThreshold (code : CondCode) (threshold : Word) (hysteresis : Nat) : Word :=
  match code with
  | .gt | .ge => BitVec.ofInt 32 (max (-2147483648) (threshold.toInt - (hysteresis : Int)))
  | .above | .atOrAbove => BitVec.ofNat 32 (threshold.toNat - hysteresis)
  | .lt | .le => BitVec.ofInt 32 (min 2147483647 (threshold.toInt + (hysteresis : Int)))
  | .below | .atOrBelow => BitVec.ofNat 32 (min max32 (threshold.toNat + hysteresis))
  | _ => threshold

/-- R139, R141: the condition of an entry; an absent value makes it false, whatever the code. -/
def condition (w : Watch) (value : Option Word) : Bool :=
  match value with
  | some v => condHolds w.cond v w.threshold
  | none => false

/-- R142: the release test; for ALWAYS it is false in every case, and an absent value makes it true for every other
code (R139). -/
def released (w : Watch) (value : Option Word) : Bool :=
  if w.cond == .always then false
  else match value with
    | some v => !condHolds w.cond v (releaseThreshold w.cond w.threshold w.hysteresis)
    | none => true

/-! ## Status words (R169) -/

/-- The word whose bit positions, listed with their flags, are set where the flag is true. -/
def statusWord (flags : List (Nat × Bool)) : Word :=
  flags.foldl (fun w f => if f.2 then w ||| (1#32 <<< f.1) else w) 0

/-- R139, R169: the source status word. -/
def sourceWord (s : State) (i : SourceNo) : Word :=
  let r := s.source i
  let k := s.tank i
  let alarms : BitVec 8 := match r.telemetry with
    | some t => t.alarms
    | none => 0
  statusWord
    ([(0, r.state == .stopped), (1, r.state == .running), (2, r.state == .refuel), (3, r.state == .offHire),
      (4, r.stale), (5, r.implausible), (6, r.claim != none), (7, r.reservation != none), (8, available r),
      (9, runningBit r), (10, k.dry), (11, k.overfill), (12, k.estimated)] ++
     (List.range 8).map fun n => (16 + n, alarms.getLsbD n))

/-- R37: LIVE on an input that is not the home input, the home input being set. -/
def away (r : Supply) : Bool := r.state == .live && r.home != none && r.closed != r.home

/-- R37, R169: the supply status word. -/
def supplyWord (r : Supply) : Word :=
  statusWord
    [(0, r.state == .live), (1, r.state == .tripped), (2, r.state == .dark), (3, r.state == .transfer),
     (4, r.state == .fault), (5, r.showHold), (6, away r), (7, r.restoreWaiting),
     (8, r.inputs.a.faulted || r.inputs.b.faulted || r.inputs.c.faulted),
     (9, r.inputs.a.voltage), (10, r.inputs.b.voltage), (11, r.inputs.c.voltage)]

end Sys2Proof.Machine
end

