-- ==== Sys2Proof/Machine/Operands.lean ====
section
/-! DEFINITION. Machine/Operands.lean: the value of every watch operand at a sample (R139). -/

namespace Sys2Proof.Machine

def wordOf (n : Nat) : Word := BitVec.ofNat 32 n

/-- A source's figure, absent while the source is UNLISTED. -/
def listedFigure (s : State) (i : SourceNo) (v : Option Word) : Option Word :=
  if (s.source i).state == .unlisted then none else v

/-- R139: the 32-bit figure of an operand, or absent. -/
def operandValue (s : State) : Operand → Option Word
  | .sourceLoad i => listedFigure s i ((s.source i).telemetry.map fun t => wordOf t.load)
  | .sourceFreq i => listedFigure s i ((s.source i).telemetry.map fun t => wordOf t.freq)
  | .sourceStatus i => listedFigure s i (some (sourceWord s i))
  | .minutesToDry i => listedFigure s i ((minutesToDry (tankAsRead (s.tank i) (s.source i))).map wordOf)
  | .tankBook i => listedFigure s i ((levelNow (s.tank i)).map wordOf)
  | .tankVariance i => (tankVariance (s.tank i) (s.source i)).map fun v => BitVec.ofInt 32 v
  | .supplyDemand n => if (s.supply n).defined then some (wordOf (supplyDemand s n)) else none
  | .supplyStatus n => if (s.supply n).defined then some (supplyWord (s.supply n)) else none
  | .channelDemand c => if (s.chan c).defined then some (wordOf (chanDemand (s.chan c))) else none
  | .accountCharge a =>
    if (s.account a).defined then some (wordOf (bankOf (s.account a) (activeBank s)).charge) else none
  | .timeOfDay => some (wordOf (s.clock % 86400))

/-- The value an entry watches; an entry without an operand has none. -/
def watchValue (s : State) (w : Watch) : Option Word := w.operand.bind (operandValue s)

end Sys2Proof.Machine
end

