-- ==== Sys2Proof/Machine/Sync.lean ====
section
/-! DEFINITION. Machine/Sync.lean: SYN's channels and wait queue (R66 to R68) and its measurements (R69 to R72). -/

namespace Sys2Proof.Machine

/-! ## Channels and the wait queue -/

/-- R67: the lowest-numbered FREE channel. -/
def freeChannel (s : State) : Option SyncNo := (indices 4).find? fun c => (s.sync c).state == .free

/-- The channel that serves a ticket. -/
def servingChannel (s : State) (ticket : Nat) : Option SyncNo :=
  (indices 4).find? fun c => (s.sync c).ticket == some ticket

/-- R67: a channel is granted to the transfer in a supply's slot, its fields set from the request. -/
def grantChannel (c : SyncNo) (n : SupplyNo) (s : State) : State :=
  match s.slot n with
  | some t =>
    setSync c { SyncChan.cold with
      state := .measuring, ticket := some t.ticket, supply := some n, origin := t.origin, target := some t.target,
      originSource := t.originSource, targetSource := some t.targetSource, grantTime := some s.clock } s
  | none => s

/-- R48, R67: the request of a transfer entering SYNC_WAIT: the lowest free channel, with entry to SYNC, or the tail
of the queue. -/
def requestChannel (n : SupplyNo) (s : State) : State :=
  match freeChannel s, s.slot n with
  | some c, some _ => modSlot n (fun t => { t with phase := .sync, syncChannel := some c }) (grantChannel c n s)
  | none, some t => setQueue (s.syn.queue ++ [{ ticket := t.ticket, supply := n }]) s
  | _, none => s

/-- R68: a ticket's channel or queue place is released. A freed channel goes to the head of the queue; XFR takes that
grant as CHANNEL_GRANT (log entry 14). -/
def releaseChannel (ticket : Nat) (s : State) : State :=
  match servingChannel s ticket with
  | some c =>
    match s.syn.queue with
    | [] => setSync c SyncChan.cold s
    | e :: rest => grantChannel c e.supply (setQueue rest (setSync c SyncChan.cold s))
  | none => setQueue (s.syn.queue.filter fun e => e.ticket != ticket) s

/-- R74: the position of a ticket in the queue, from 1 at the head. -/
def queuePosition (s : State) (ticket : Nat) : Option Nat :=
  (s.syn.queue.findIdx? fun e => e.ticket == ticket).map (· + 1)

/-! ## Measurement -/

/-- R69: a period within the qualified range. -/
def qualified (period : Nat) : Bool := 14286 ≤ period && period ≤ 25000

/-- R69: a count after a crossing of the given period, held at 8. -/
def countAfter (count period : Nat) : Nat := if qualified period then min 8 (count + 1) else 0

/-- The voltage of a fresh source's telemetry (R70 condition 4). -/
def freshVoltage (s : State) (i : Option SourceNo) : Option Nat :=
  i.bind fun i => if (s.source i).stale then none else (s.source i).telemetry.map fun t => t.voltage

/-- R71: the three figures of a valid measurement. -/
def figures (periodO periodT dt voltO voltT : Nat) : Measurement :=
  let angle : Nat := dt * 3600 / periodT
  { slip := ((1000000000 / periodT : Nat) : Int) - ((1000000000 / periodO : Nat) : Int)
    phase := if 1800 < angle then (angle : Int) - 3600 else angle
    volts := (max voltO voltT - min voltO voltT) * 1000 / voltO }

/-- R70: the measurement formed at an origin crossing at `time` (in microseconds) with period `periodO`, none where it
is invalid. -/
def measure (s : State) (k : SyncChan) (time periodO : Nat) : Option Measurement :=
  match k.lastPeriod, k.lastCrossing, freshVoltage s k.originSource, freshVoltage s k.targetSource with
  | some periodT, some last, some voltO, some voltT =>
    if k.originCount = 8 ∧ k.targetCount = 8 ∧ qualified periodO ∧ qualified periodT ∧
        2 * (time - last) < 3 * periodT ∧ voltO ≠ 0 then
      some (figures periodO periodT (time - last) voltO voltT)
    else none
  | _, _, _, _ => none

/-- R71: within the limits in force. -/
def withinLimits (l : SyncLimits) (m : Measurement) : Bool :=
  m.slip.natAbs ≤ l.slip && m.phase.natAbs ≤ l.phase && m.volts ≤ l.volts

/-- R72: the run after a measurement. -/
def runAfter (l : SyncLimits) (run : Nat) : Option Measurement → Nat
  | some m => if withinLimits l m then run + 1 else 0
  | none => 0

/-- R69: a target crossing at a MEASURING channel. -/
def targetCrossing (k : SyncChan) (time period : Nat) : SyncChan :=
  { k with lastCrossing := some time, lastPeriod := some period, targetCount := countAfter k.targetCount period }

/-- R69, R70, R72: an origin crossing at a MEASURING channel; at a run of 4 it is IN_STEP. -/
def originCrossing (s : State) (k : SyncChan) (time period : Nat) : SyncChan :=
  let k1 := { k with originCount := countAfter k.originCount period }
  let m := measure s k1 time period
  let run := runAfter s.syn.limits k.run m
  { k1 with
    measurements := min 65535 (k.measurements + 1), last := some m, run := run,
    state := if run = 4 then .inStep else .measuring }

/-- R69: a channel takes a crossing of input `x` of supply `n`; only a MEASURING channel of that supply does. -/
def channelCrossing (s : State) (n : SupplyNo) (x : Input) (time period : Nat) (k : SyncChan) : SyncChan :=
  if k.state == .measuring && k.supply == some n then
    if k.target == some x then targetCrossing k time period
    else if k.origin == some x then originCrossing s k time period
    else k
  else k

/-- R69: every channel takes the crossing. -/
def syncCrossing (n : SupplyNo) (x : Input) (time period : Nat) (s : State) : State :=
  { s with syn := { s.syn with channels := tab fun c => channelCrossing s n x time period (s.sync c) } }

end Sys2Proof.Machine
end

