-- ==== Sys2Proof/Machine/Admission.lean ====
section
/-! DEFINITION. Machine/Admission.lean: contactor pulses (R25), the entries of the transfer phases (R48 to R58), and
the admission of a transfer (R40 to R45) but for pre-emption, which stands in Machine/Preempt.lean. -/

namespace Sys2Proof.Machine

/-! ## Pulses and phases -/

/-- R25's law: no other input of the supply is confirmed closed. -/
def othersOpen (s : State) (n : SupplyNo) (x : Input) : Bool := allInputs.all fun y => y == x || !(s.input n y).aux

/-- R24, R25: a pulse for 100 ms, opening a confirm window for the contactor confirm time. -/
def startPulse (n : SupplyNo) (x : Input) (dir : Dir) (restart : Bool) (s : State) : State :=
  let w : Window := { dir := dir, ends := s.ms + (s.supply n).timing.confirm, restart := restart }
  match dir with
  | .toClose => modInput n x (fun r => { r with closePulse := some (s.ms + Config.pulseMs), window := some w }) s
  | .toOpen => modInput n x (fun r => { r with openPulse := some (s.ms + Config.pulseMs), window := some w }) s

/-- R25: a close command is refused, with no pulse, while another input of the supply is confirmed closed, unless it
carries an in-step report. -/
def commandClose (n : SupplyNo) (x : Input) (inStep : Bool) (s : State) : State :=
  if inStep || othersOpen s n x then startPulse n x .toClose false s else s

/-- XFR's open command to the origin input, where there is one. -/
def openOrigin (n : SupplyNo) (t : Transfer) (s : State) : State :=
  match t.origin with
  | some x => startPulse n x .toOpen false s
  | none => s

/-- R54: entry to OPENING. -/
def enterOpening (n : SupplyNo) (s : State) : State :=
  match s.slot n with
  | some t => openOrigin n t (modSlot n (fun t => { t with phase := .opening, phaseTimer := none }) s)
  | none => s

/-- R55: entry to DEAD. -/
def enterDead (n : SupplyNo) (s : State) : State :=
  modSlot n (fun t => { t with phase := .dead, phaseTimer := some (s.ms + (s.supply n).timing.deadTime) }) s

/-- R56: entry to CLOSING. -/
def enterClosing (n : SupplyNo) (s : State) : State :=
  match s.slot n with
  | some t => commandClose n t.target false (modSlot n (fun t => { t with phase := .closing, phaseTimer := none }) s)
  | none => s

/-- R57: entry to RECLOSE with its pending result. -/
def enterReclose (n : SupplyNo) (result : Result) (s : State) : State :=
  match (s.slot n).bind (·.origin) with
  | some x => commandClose n x false
      (modSlot n (fun t => { t with phase := .reclose, phaseTimer := none, pendingResult := some result }) s)
  | none => modSlot n (fun t => { t with phase := .reclose, phaseTimer := none, pendingResult := some result }) s

/-- R52: entry to PARALLEL_CLOSE; the command carries the in-step report. -/
def enterParallelClose (n : SupplyNo) (s : State) : State :=
  match s.slot n with
  | some t => commandClose n t.target true (modSlot n (fun t => { t with phase := .parallelClose }) s)
  | none => s

/-- R52: entry to PARALLEL_OPEN: the open pulse to the origin and the overlap timer. -/
def enterParallelOpen (n : SupplyNo) (s : State) : State :=
  match s.slot n with
  | some t => openOrigin n t (modSlot n (fun t =>
      { t with phase := .parallelOpen, phaseTimer := some (s.ms + (s.supply n).timing.overlap) }) s)
  | none => s

/-- R58: entry to SETTLE. -/
def enterSettle (n : SupplyNo) (s : State) : State :=
  modSlot n (fun t =>
    { t with phase := .settle, phaseTimer := some (s.ms + (s.supply n).timing.settleTime * 1000), excursion := false }) s

/-- R48: entry to SYNC_WAIT: the sync timer starts and a channel is asked for. -/
def enterSyncWait (n : SupplyNo) (s : State) : State :=
  requestChannel n (modSlot n (fun t =>
    { t with phase := .syncWait, syncTimer := some (s.ms + s.syn.limits.timeout * 1000) }) s)

/-- R47: the target re-check. -/
def targetRecheck (s : State) (n : SupplyNo) (t : Transfer) : Bool :=
  let r := s.source t.targetSource
  (s.input n t.target).voltage && r.state == .running && !r.stale && !r.implausible

/-- Closed input and source of record, as XFR writes them (R30). -/
def feedFrom (n : SupplyNo) (closed : Option Input) (record : Option SourceNo) (s : State) : State :=
  modSupply n (fun r => { r with closed := closed, record := record }) s

/-! ## Tickets (R40) -/

def ticketInFlight (s : State) (k : Nat) : Bool :=
  (indices 12).any fun n => match inFlight s n with
    | some t => t.ticket == k
    | none => false

/-- The number after a ticket, from 65,535 back to 1. -/
def ticketAfter (k : Nat) : Nat := if 65535 ≤ k then 1 else k + 1

/-- R40: past every value that is the ticket of a transfer in flight; twelve transfers at most are, so thirteen tries
are enough. -/
def nextTicket (s : State) : Nat → Nat → Nat
  | 0, k => k
  | tries + 1, k => if ticketInFlight s k then nextTicket s tries (ticketAfter k) else k

/-- R40: the counter's value is drawn and the counter advances. -/
def drawTicket (s : State) : State := setCounter (nextTicket s 13 (ticketAfter s.xfr.counter)) s

/-! ## Admission (R41 to R45) -/

/-- A request for a transfer, from a station or from inside the part (R41). A target of none is BEST. -/
structure Ask where
  supply : SupplyNo
  target : Option Input
  mode : ModeReq
  priority : Nat
  originator : Originator
  deriving DecidableEq, Repr

/-- What the checks chose: the drawn ticket, the target input and the target source. -/
structure Chosen where
  ticket : Nat
  target : Input
  source : SourceNo
  deriving DecidableEq, Repr

/-- The answer to a request (R41). -/
inductive Answer where
  | accepted (ticket : Nat) (target : Input) (mode : ModeEff)
  | refused (why : Status)
  deriving DecidableEq, Repr

/-- A state and what came with it. -/
structure With (α : Type) where
  state : State
  val : α

/-- R43, BEST: what one input must meet. -/
def bestCandidate (pre : Option Nat) (q : Ask) (s : State) (x : Input) : Bool :=
  let r := s.input q.supply x
  (s.supply q.supply).closed != some x && !r.faulted && r.voltage &&
    match r.source with
    | some i => availableFor pre (s.source i) && (7 ≤ q.priority || withinCapacity s q.supply i)
    | none => false

/-- R43, step 6: the target input, or the answer. -/
def resolveTarget (pre : Option Nat) (q : Ask) (s : State) : Except Status Input :=
  match q.target with
  | some x =>
    if (s.input q.supply x).source == none || (s.input q.supply x).faulted || (s.supply q.supply).closed == some x then
      .error .state
    else .ok x
  | none =>
    match allInputs.find? (bestCandidate pre q s) with
    | some x => .ok x
    | none => .error .noAlternative

/-- R44: step 7's own check of the target input, step 8 (show hold) and step 9 (capacity), after a granted enquiry. -/
def lateRefusal (pre : Option Nat) (q : Ask) (s : State) (x : Input) (i : SourceNo) : Option Status :=
  if !(s.input q.supply x).voltage then some .noAlternative
  else if (s.supply q.supply).showHold && (pre.isSome || (s.supply q.supply).state == .live) && q.mode == .break &&
      q.priority < 7 then some .showHeld
  else if q.priority < 7 && !withinCapacity s q.supply i then some .overload
  else none

/-- R43, R44: steps 6 to 9. The ticket is drawn as the request reaches step 7. -/
def chooseTarget (pre : Option Nat) (q : Ask) (s : State) : With (Except Status Chosen) :=
  match resolveTarget pre q s with
  | .error e => ⟨s, .error e⟩
  | .ok x =>
    match (s.input q.supply x).source with
    | none => ⟨s, .error .state⟩
    | some i =>
      match claimAnswer pre (s.source i) with
      | some e => ⟨drawTicket s, .error e⟩
      | none =>
        match lateRefusal pre q s x i with
        | some e => ⟨drawTicket s, .error e⟩
        | none => ⟨drawTicket s, .ok { ticket := s.xfr.counter, target := x, source := i }⟩

/-- R45: the mode in effect, by the supply's state; a supply whose transfer is being pre-empted counts as LIVE. -/
def modeInEffect (st : SupplyState) (m : ModeReq) : ModeEff :=
  match st with
  | .dark => .closeOnly
  | .tripped => .break
  | _ => if m == .break then .break else .closed

/-- R45: the slot as an admission writes it, before its first phase is entered. `trip` is a trip report that XFR has
not yet taken: none, but at a pre-emption, where the report that waits for the pre-empted transfer stands (R59, log
entry 15). -/
def admittedSlot (q : Ask) (k : Chosen) (trip : Option Input) (s : State) : Transfer :=
  let r := s.supply q.supply
  { ticket := k.ticket, origin := r.closed, originSource := closedSource s q.supply,
    originTripped := r.state == .tripped, target := k.target, targetSource := k.source, modeReq := q.mode,
    mode := modeInEffect r.state q.mode, priority := q.priority, originator := q.originator, phase := .syncWait,
    phaseTimer := none, syncTimer := none, syncChannel := none, overlapExpired := false, abortRequested := false,
    pendingResult := none, excursion := false, startTime := s.clock, endTime := none, result := none,
    tripReport := trip }

/-- R45, by the table: the first phase. -/
def enterFirst (n : SupplyNo) (m : ModeEff) (s : State) : State :=
  match m with
  | .closeOnly => enterClosing n s
  | .break => enterOpening n s
  | .closed => enterSyncWait n s

/-- R45, R29: the slot is written, SUP sets the supply to TRANSFER with the new ticket and clears restore waiting, and
the first phase is entered. -/
def beginTransfer (q : Ask) (k : Chosen) (trip : Option Input) (s : State) : State :=
  let t := admittedSlot q k trip s
  enterFirst q.supply t.mode
    (modSupply q.supply (fun r => { r with state := .transfer, ticket := some k.ticket, restoreWaiting := false,
                                            lastRestore := none })
      (setSlot q.supply (some t) s))

/-- R14: a granted claim request sets the claim. -/
def setClaim (k : Chosen) (s : State) : State := modSource k.source (fun r => { r with claim := some k.ticket }) s

/-- R45, step 10 for a request that pre-empts nothing. -/
def claimAndBegin (q : Ask) (k : Chosen) (s : State) : With Answer :=
  match claimAnswer none (s.source k.source) with
  | some e => ⟨s, .refused e⟩
  | none => ⟨beginTransfer q k none (setClaim k s),
      .accepted k.ticket k.target (modeInEffect (s.supply q.supply).state q.mode)⟩

/-- R42, steps 3 to 5 for a request that finds no transfer it may pre-empt. -/
def earlyRefusal (q : Ask) (s : State) : Option Status :=
  if !(s.supply q.supply).defined then some .unknown
  else if (s.supply q.supply).state == .fault then some .state
  else if (inFlight s q.supply).isSome then some .busy
  else none

/-- R42 to R44: steps 3 to 9 of a request that finds no transfer it may pre-empt. -/
def judge (q : Ask) (s : State) : With (Except Status Chosen) :=
  match earlyRefusal q s with
  | some e => ⟨s, .error e⟩
  | none => chooseTarget none q s

/-- R41 to R45: the admission of a request that finds no transfer it may pre-empt. Machine/Preempt.lean's
`admitOrPreempt` is the admission of every request but SUPPLY's, which R35 has made only with no transfer in flight. -/
def admission (q : Ask) (s : State) : With Answer :=
  match judge q s with
  | ⟨s1, .error e⟩ => ⟨s1, .refused e⟩
  | ⟨s1, .ok k⟩ => claimAndBegin q k s1

/-! ## Auto-restore (R35, R36) -/

/-- R35: the restoring request of a supply. -/
def restoreAsk (n : SupplyNo) : Ask :=
  { supply := n, target := none, mode := .auto, priority := 7, originator := .supply }

/-- R35: a refusal sets restore waiting and is kept. -/
def restoreRefused (n : SupplyNo) (e : Status) (s : State) : State :=
  modSupply n (fun r => { r with restoreWaiting := true, lastRestore := some e }) s

/-- R35, the part up to the claim: the request's checks, answered in `val`. -/
def judgeRestores (ns : List SupplyNo) (s : State) : With (List (SupplyNo × Except Status Chosen)) :=
  ns.foldl (fun acc n =>
    let v := judge (restoreAsk n) acc.state
    ⟨v.state, acc.val ++ [(n, v.val)]⟩) ⟨s, []⟩

/-- R35: the claim of one judged restore request, and what SUP does with its answer. -/
def takeRestore (s : State) (v : SupplyNo × Except Status Chosen) : State :=
  match v.2 with
  | .error e => restoreRefused v.1 e s
  | .ok k =>
    match claimAndBegin (restoreAsk v.1) k s with
    | ⟨s1, .refused e⟩ => restoreRefused v.1 e s1
    | ⟨s1, .accepted _ _ _⟩ => s1

/-- R35, R36: the supplies request at once, and SRC's claim arbiter gives a shared standby to one of them, the lowest
number first; the others are refused LOST (log entry 11). -/
def restoreRequests (ns : List SupplyNo) (s : State) : State :=
  let j := judgeRestores ns s
  j.val.foldl takeRestore j.state

def restoreRequest (n : SupplyNo) (s : State) : State := restoreRequests [n] s

/-- R36: an input through which a waiting supply may retry. -/
def retryInput (s : State) (n : SupplyNo) (x : Input) : Bool :=
  !(s.input n x).faulted && (s.supply n).closed != some x && (s.input n x).voltage

/-- R36: a waiting supply that an available source concerns. A supply in FAULT makes no restore request. -/
def restoresOnto (s : State) (i : SourceNo) (n : SupplyNo) : Bool :=
  (s.supply n).restoreWaiting && ((s.supply n).state == .tripped || (s.supply n).state == .dark) &&
    allInputs.any fun x => (s.input n x).source == some i && retryInput s n x

/-- R13, R36: SRC reports a source available to SUP. -/
def reportAvailable (i : SourceNo) (s : State) : State :=
  restoreRequests ((indices 12).filter (restoresOnto s i)) s

/-- R13: SRC changes a source record, and reports the source available where the change turned it so. -/
def changeSource (i : SourceNo) (f : Source → Source) (s : State) : State :=
  let s1 := modSource i f s
  if !available (s.source i) && available (s1.source i) then reportAvailable i s1 else s1

end Sys2Proof.Machine
end

