-- ==== Sys2Proof/Machine/Moves.lean ====
section
/-! DEFINITION. Machine/Moves.lean: the lists DLV keeps of the supplies it asks to move: the unload and moved lists of
a delivery (R89, R93 to R95) and the return list (R104, R105), with the writes that make no request. -/

namespace Sys2Proof.Machine

/-- A list with the entry that `same` names replaced in its place, or added at the end (R89, R104). -/
def putEntry {α : Type} (same : α → Bool) (x : α) (l : List α) : List α :=
  if l.any same then l.map fun y => if same y then x else y else l ++ [x]

/-- A delivery is active in ARMED, WAITING_UNLOAD, OPEN and FILLED (R89); a slot holds only active ones. -/
def activeOn (s : State) (i : SourceNo) : Option SlotNo :=
  (indices 8).find? fun d => match s.delivery d with
    | some r => r.source == i
    | none => false

/-- The lowest-numbered free slot (R91, R96). -/
def freeSlot (s : State) : Option SlotNo := (indices 8).find? fun d => (s.delivery d).isNone

/-- R93: whether a delivery is unloading. -/
def unloading (s : State) (d : Delivery) : Bool :=
  d.state == .waitingUnload ||
    (d.state == .opened && d.fillWhileLoaded && (s.source d.source).state != .refuel)

/-- A supply LIVE or TRIPPED with its closed input assigned to the source (R93). -/
def fedBy (s : State) (n : SupplyNo) (i : SourceNo) : Bool :=
  ((s.supply n).state == .live || (s.supply n).state == .tripped) && closedSource s n == some i

/-! ## The unload list -/

/-- R95: the first block of a delivery is logged and raised. -/
def reportBlock (d : SlotNo) (n : SupplyNo) (why : StatusOrResult) (s : State) : State :=
  match s.delivery d with
  | some r =>
    if r.blockedReported then s
    else
      raise (.delivery r.source r.reference .blocked) toFuelAndConsole
        (logAppend .unloadBlocked (num r.source) (num n) (some (outcomeCode why))
          (modDelivery d (fun r => { r with blockedReported := true }) s))
  | none => s

/-- The unload list of a delivery with one supply's entry written. -/
def putUnload (n : SupplyNo) (st : UnloadStatus) (r : Delivery) : Delivery :=
  { r with unloads := putEntry (fun e => e.supply == n) { supply := n, status := st } r.unloads }

def dropUnload (n : SupplyNo) (r : Delivery) : Delivery :=
  { r with unloads := r.unloads.filter fun e => e.supply != n }

def hasInFlight (r : Delivery) (n : SupplyNo) : Bool :=
  r.unloads.any fun e => e.supply == n && match e.status with
    | .inFlight _ => true
    | .blocked _ => false

/-- The unload entry in flight that carries a ticket. -/
def unloadCarrying (ticket : Nat) (r : Delivery) : Option UnloadEntry :=
  r.unloads.find? fun e => e.status == .inFlight ticket

/-- The active delivery whose unload list carries a ticket in flight. -/
def deliveryCarrying (s : State) (ticket : Nat) : Option SlotNo :=
  (indices 8).find? fun d => match s.delivery d with
    | some r => (unloadCarrying ticket r).isSome
    | none => false

/-- The source whose last-ended record carries a ticket in flight. -/
def lastEndedCarrying (s : State) (ticket : Nat) : Option SourceNo :=
  (indices 16).find? fun i => match s.lastEnded i with
    | some r => (unloadCarrying ticket r).isSome
    | none => false

/-! ## The moved list and the return list -/

/-- R94: the moved-list entry of a finished unload. -/
def movedEntry (n : SupplyNo) (t : Transfer) : MovedEntry :=
  { supply := n, fromInput := t.origin.getD t.target, toInput := t.target }

/-- R89: the moved list holds at most one entry per supply. -/
def putMoved (m : MovedEntry) (r : Delivery) : Delivery :=
  { r with moved := putEntry (fun e => e.supply == m.supply) m r.moved }

def returnEntryOf (s : State) (n : SupplyNo) : Option ReturnEntry := s.dlv.returns.find? fun e => e.supply == n

def putReturn (e : ReturnEntry) (s : State) : State :=
  setReturns (putEntry (fun f => f.supply == e.supply) e s.dlv.returns) s

def dropReturn (n : SupplyNo) (s : State) : State := setReturns (s.dlv.returns.filter fun e => e.supply != n) s

/-- R105: an entry is abandoned. -/
def abandonReturn (e : ReturnEntry) (s : State) : State :=
  raise (.returnAbandoned e.supply) toFuelAndConsole
    (logAppend .returnAbandoned (num e.supply) (some (inputCode e.fromInput)) (e.last.map outcomeCode)
      (dropReturn e.supply s))

/-! ## A move that did not complete -/

/-- R94: an unload of an active delivery has ended otherwise than DONE or DONE_UNSTABLE. -/
def unloadFailed (d : SlotNo) (n : SupplyNo) (result : Result) (s : State) : State :=
  reportBlock d n (.result result) (modDelivery d (putUnload n (.blocked (.result result))) s)

/-- R94: the end of an UNLOAD transfer that did not complete, at the entry that carries its ticket: of an active
delivery, or of a last-ended record, whose entry is dropped (R103). -/
def tellUnloadFailed (n : SupplyNo) (t : Transfer) (result : Result) (s : State) : State :=
  match deliveryCarrying s t.ticket with
  | some d => unloadFailed d n result s
  | none =>
    match lastEndedCarrying s t.ticket with
    | some i => setLastEnded i ((s.lastEnded i).map (dropUnload n)) s
    | none => s

/-- The return-list entry that carries a ticket. -/
def returnCarrying (s : State) (ticket : Nat) : Option ReturnEntry :=
  s.dlv.returns.find? fun e => e.ticket == some ticket

/-- R105: the end of a RETURN transfer that did not complete: the attempts go on, or the entry is abandoned. -/
def tellReturnFailed (t : Transfer) (result : Result) (s : State) : State :=
  match returnCarrying s t.ticket with
  | some e =>
    let e1 : ReturnEntry := { e with ticket := none, last := some (.result result),
                                     attempt := some (s.ms + Config.attemptMs) }
    if e.window.isSome then putReturn e1 s else abandonReturn e1 s
  | none => s

end Sys2Proof.Machine
end

