-- ==== Sys2Proof/Machine/Preempt.lean ====
section
/-! DEFINITION. Machine/Preempt.lean: the steps of a transfer's end that every end takes (R62 steps 1 to 4, 6 to 8), what
the originating block does with a result that completes nothing, and the admission of a request that may pre-empt (R42
step 5, R46): a station's TRANSFER, an UNLOAD, a RETURN and a watch entry's. -/

namespace Sys2Proof.Machine

/-! ## The end's common steps (R62, R63) -/

/-- R62 step 1. -/
def endedSlot (result : Result) (time : Nat) (t : Transfer) : Transfer :=
  { t with phaseTimer := none, syncTimer := none, result := some result, endTime := some time, tripReport := none }

/-- R62 step 3: the confirm windows of a supply are closed; pulses run on. -/
def closeWindows (n : SupplyNo) (s : State) : State :=
  modSupply n (fun r => { r with inputs := r.inputs.map fun i => { i with window := none } }) s

/-- R15: the release clears the claim when the claim holds the ending ticket. -/
def releaseClaim (ticket : Nat) (r : Source) : Source := if r.claim == some ticket then { r with claim := none } else r

/-- R62, steps 1 to 4: the slot, the sync channel or queue place, the confirm windows and the claim. -/
def releaseSteps (n : SupplyNo) (t : Transfer) (result : Result) (s : State) : State :=
  let s1 := modSlot n (endedSlot result s.clock) s
  let s2 := releaseChannel t.ticket s1
  let s3 := modSlot n (fun t => { t with syncChannel := none }) s2
  changeSource t.targetSource (releaseClaim t.ticket) (closeWindows n s3)

/-- R63: the stations told of the end of a transfer. -/
def endedAudience (s : State) (o : Originator) (result : Result) (n : StationNo) (st : Station) : Bool :=
  match o with
  | .station m gone => (n == m && !gone) || (st.role == .console && result != .done)
  | .watch w => (s.watch w).mask.getLsbD (roleBit st.role)
  | .supply => st.role == .console
  | .unload _ => st.role == .fuel || st.role == .console
  | .returnHome _ => st.role == .fuel || st.role == .console

/-- R62 steps 6 and 7: TRANSFER_END and TRANSFER_ENDED. -/
def reportEnd (n : SupplyNo) (t : Transfer) (result : Result) (s : State) : State :=
  raise (.transferEnded t.ticket n result) (endedAudience s t.originator result)
    (logAppend .transferEnd (some t.ticket) (num n) (some (resultCode result)) s)

/-- R146: WCH takes the end of a transfer of one of its entries. -/
def tellWatch (w : WatchNo) (t : Transfer) (result : Result) (s : State) : State :=
  modWatch w (fun r => if r.ticket == some t.ticket then { r with lastStatus := some (.result result) } else r) s

/-- R62 step 8 for a result other than DONE and DONE_UNSTABLE. -/
def tellFailed (n : SupplyNo) (t : Transfer) (result : Result) (s : State) : State :=
  match t.originator with
  | .station _ _ => s
  | .supply => s
  | .unload _ => tellUnloadFailed n t result s
  | .returnHome _ => tellReturnFailed t result s
  | .watch w => tellWatch w t result s

/-! ## Pre-emption (R42 step 5, R46) -/

/-- R46: the end of a pre-empted transfer: ABORTED, with the supply kept in TRANSFER. -/
def endPreempted (n : SupplyNo) (s : State) : State :=
  match inFlight s n with
  | some t => tellFailed n t .aborted (reportEnd n t .aborted (releaseSteps n t .aborted s))
  | none => s

/-- R42 step 5: whether a request may pre-empt the transfer in flight. -/
def mayPreempt (q : Ask) (t : Transfer) : Bool := (t.phase == .syncWait || t.phase == .sync) && t.priority < q.priority

/-- R45, R46: steps 6 to 10 for a prospective pre-emption of `t`. Any failure is answered BUSY; granted, the claim
passes first, the pre-empted transfer then ends ABORTED with the supply kept in TRANSFER, and the new one begins; a trip
report that XFR has not yet taken stands for it (R59, log entry 15). -/
def preempt (q : Ask) (t : Transfer) (s : State) : With Answer :=
  match chooseTarget (some t.ticket) q s with
  | ⟨s1, .error _⟩ => ⟨s1, .refused .busy⟩
  | ⟨s1, .ok k⟩ =>
    match claimAnswer (some t.ticket) (s1.source k.source) with
    | some _ => ⟨s1, .refused .busy⟩
    | none =>
      ⟨beginTransfer q k t.tripReport (endPreempted q.supply (setClaim k s1)),
       .accepted k.ticket k.target (modeInEffect .live q.mode)⟩

/-- R42, steps 3 and 4. -/
def definitionRefusal (q : Ask) (s : State) : Option Status :=
  if !(s.supply q.supply).defined then some .unknown
  else if (s.supply q.supply).state == .fault then some .state
  else none

/-- R42 to R46: the admission of a request, steps 3 to 10. -/
def admitOrPreempt (q : Ask) (s : State) : With Answer :=
  match definitionRefusal q s with
  | some e => ⟨s, .refused e⟩
  | none =>
    match inFlight s q.supply with
    | some t => if mayPreempt q t then preempt q t s else ⟨s, .refused .busy⟩
    | none => admission q s

end Sys2Proof.Machine
end

