-- ==== Sys2Proof/Machine/Delivery.lean ====
section
/-! DEFINITION. Machine/Delivery.lean: what DLV does inside the steps of others: unload surveys (R93 to R95), return
attempts (R104), the end of a delivery (R103) and an uncommanded close onto a set in refuel (R98). -/

namespace Sys2Proof.Machine

/-! ## The unload survey -/

/-- R11: whether SRC grants REFUEL to a reserved source. -/
def refuelGranted (s : State) (i : SourceNo) : Bool :=
  let r := s.source i
  (r.state == .stopped || r.state == .running) && r.reservation != none && r.claim == none && !anyClosedOnto s i

/-- R93 step 1: the REFUEL request; granted, unloading ends. -/
def surveyStepOne (d : SlotNo) (s : State) : With Bool :=
  match s.delivery d with
  | some r =>
    if refuelGranted s r.source then
      ⟨modDelivery d (fun r => { r with surveyTimer := none,
                                        state := if r.state == .waitingUnload then .armed else r.state })
        (modSource r.source (fun r => { r with state := .refuel }) s), true⟩
    else ⟨s, false⟩
  | none => ⟨s, false⟩

/-- R93 step 2. -/
def clearBlocked (d : SlotNo) (s : State) : State :=
  modDelivery d (fun r =>
    { r with unloads := r.unloads.filter fun e => match e.status with
        | .inFlight _ => true
        | .blocked _ => fedBy s e.supply r.source }) s

/-- R41, R93 step 3: the UNLOAD request. -/
def unloadAsk (d : SlotNo) (n : SupplyNo) : Ask :=
  { supply := n, target := none, mode := .auto, priority := 4, originator := .unload d }

/-- R93 step 3 for one supply. -/
def requestUnload (d : SlotNo) (s : State) (n : SupplyNo) : State :=
  match s.delivery d with
  | some r =>
    if fedBy s n r.source && !hasInFlight r n then
      match admitOrPreempt (unloadAsk d n) s with
      | ⟨s1, .accepted k _ _⟩ => modDelivery d (putUnload n (.inFlight k)) s1
      | ⟨s1, .refused e⟩ => reportBlock d n (.status e) (modDelivery d (putUnload n (.blocked (.status e))) s1)
    else s
  | none => s

/-- R93: an unload survey. The supplies are asked for in rising number (log entry 11). -/
def survey (d : SlotNo) (s : State) : State :=
  match surveyStepOne d s with
  | ⟨s1, true⟩ => s1
  | ⟨s1, false⟩ => (indices 12).foldl (requestUnload d) (clearBlocked d s1)

/-- R92: the survey timer runs 10 s. -/
def startSurveyTimer (d : SlotNo) (s : State) : State :=
  modDelivery d (fun r => { r with surveyTimer := some (s.ms + Config.surveyMs) }) s

/-! ## Return home -/

/-- R41, R104: the RETURN request. -/
def returnAsk (e : ReturnEntry) : Ask :=
  { supply := e.supply, target := some e.fromInput, mode := .closed, priority := 3, originator := .returnHome e.slot }

/-- R104: a return attempt for the entry of a supply that holds no ticket. -/
def returnAttempt (n : SupplyNo) (s : State) : State :=
  match returnEntryOf s n with
  | some e =>
    if e.ticket != none then s
    else if (s.supply n).state == .live && (s.supply n).closed == some e.toInput then
      match admitOrPreempt (returnAsk e) s with
      | ⟨s1, .accepted k _ _⟩ => putReturn { e with ticket := some k, attempt := none } s1
      | ⟨s1, .refused w⟩ => putReturn { e with last := some (.status w), attempt := some (s.ms + Config.attemptMs) } s1
    else dropReturn n s
  | none => s

/-- R103 step 4, R104: a moved-list entry of a supply with return-home becomes a return-list entry, attempted at once. -/
def makeReturn (i : SourceNo) (d : SlotNo) (s : State) (m : MovedEntry) : State :=
  if (s.supply m.supply).returnHome then
    returnAttempt m.supply
      (putReturn { supply := m.supply, fromInput := m.fromInput, toInput := m.toInput, source := i, slot := d,
                   window := some (s.ms + Config.windowMs), deadline := s.clock + Config.windowMs / 1000,
                   attempt := some (s.ms + Config.attemptMs), ticket := none, last := none } s)
  else s

/-! ## The end of a delivery -/

/-- R83: TNK takes a credit. -/
def tankCredit (i : SourceNo) (credit : Nat) (s : State) : State :=
  let k := s.tank i
  match k.set && credit != 0, k.capacity, k.book with
  | true, some c, some b =>
    setTankRec i { k with book := some (min c (b + credit)), overfill := k.overfill || decide (c < b + credit) } s
  | _, _, _ => s

/-- R171: the end state in bits 0 to 7, the flags in bits 8 to 11. -/
def deliveryEndCode (d : Delivery) : Nat :=
  deliveryCode d.state + (if d.unarmed then 256 else 0) + (if d.fillWhileLoaded then 512 else 0) +
    (if d.autoClosed then 1024 else 0) + (if d.unchecked then 2048 else 0)

/-- R103: whether an end state hands its credit to TNK. -/
def credits (st : DeliveryState) : Bool := st == .closed || st == .disputed || st == .closedUnarmed

/-- R12: the end of a cold delivery at SRC. -/
def leaveRefuelAtEnd (r : Source) : Source :=
  { r with state := if r.state == .refuel then afterRefuel r else r.state, reservation := none }

/-- R103: the end of the delivery in a slot, with its end state and credit. The moved-list entries become return-list
entries, and make their first attempts, in the order of the moved list (DESIGN CHOICE, log entry 11); the deadline of a
timer that stops here is kept (DESIGN CHOICE, log entry 43). -/
def endDelivery (d : SlotNo) (st : DeliveryState) (credit : Nat) (s : State) : State :=
  match s.delivery d with
  | some r =>
    let r1 : Delivery := { r with state := st, credit := some credit, endTime := some s.clock, armTimer := none,
                                  finishTimer := none, surveyTimer := none }
    let s1 := setDelivery d (some r1) s
    let s2 := if credits st then tankCredit r.source credit s1 else s1
    let s3 := if r.cold then changeSource r.source leaveRefuelAtEnd s2 else s2
    let s4 := r1.moved.foldl (makeReturn r.source d) s3
    let s5 := setDelivery d none (setLastEnded r.source (some r1) s4)
    raise (.delivery r.source r.reference (.ended st)) toFuelAndConsole
      (logAppend .deliveryEnd (num r.source) (some (deliveryEndCode r1)) (some credit) s5)
  | none => s

/-! ## An uncommanded close onto a set in refuel (R98) -/

/-- R96, R98: a loaded fill is raised. -/
def raiseLoaded (d : SlotNo) (s : State) : State :=
  match s.delivery d with
  | some r => raise (.delivery r.source r.reference .loadedFill) toFuelAndConsole s
  | none => s

/-- R98: DLV is told of an uncommanded close onto an input of the source. -/
def loadedByHand (i : SourceNo) (s : State) : State :=
  match activeOn s i with
  | some d =>
    match s.delivery d with
    | some r =>
      if r.state == .armed then
        survey d (startSurveyTimer d (modDelivery d (fun r => { r with state := .waitingUnload }) s))
      else if r.state == .opened then
        survey d (startSurveyTimer d (raiseLoaded d (modDelivery d (fun r => { r with fillWhileLoaded := true }) s)))
      else s
    | none => s
  | none => s

end Sys2Proof.Machine
end

