-- ==== Sys2Proof/Machine/Panel.lean ====
section
/-! DEFINITION. Machine/Panel.lean: SUP's derivation of a supply's state (R26), its trip (R27) and its handling of an
uncommanded change (R32), but for the transfer in flight, which Machine/TransferEnd.lean ends. -/

namespace Sys2Proof.Machine

/-- R25: an input is marked FAULTED on XFR's word, and INPUT_FAULT is logged. -/
def markFaulted (n : SupplyNo) (x : Input) (dir : Dir) (s : State) : State :=
  logAppend .inputFault (num n) (some (inputCode x)) (some (dirCode dir))
    (modInput n x (fun r => { r with faulted := true }) s)

/-- R35: restore waiting is cleared, and the last restore status with it. -/
def clearWaiting (n : SupplyNo) (s : State) : State :=
  modSupply n (fun r => { r with restoreWaiting := false, lastRestore := none }) s

/-- The state of a supply with its closed input and source of record. -/
def derived (n : SupplyNo) (st : SupplyState) (closed : Option Input) (record : Option SourceNo) (s : State) : State :=
  modSupply n (fun r => { r with state := st, closed := closed, record := record }) s

/-- R27: SUPPLY_TRIP is logged and raised. -/
def reportTrip (n : SupplyNo) (x : Input) (s : State) : State :=
  raise (.supplyTrip n) (toConsoleAndStage n)
    (logAppend .supplyTrip (num n) (some (inputCode x)) ((s.input n x).source.map numberOf) s)

/-- R35: a supply with auto-restore that is TRIPPED or DARK with no transfer in flight asks to be restored. -/
def restoreIfSet (n : SupplyNo) (s : State) : State :=
  if (s.supply n).autoRestore && (inFlight s n).isNone then restoreRequest n s else s

/-- R26, R27: voltage absent since at least the trip confirm time ago. -/
def tripDue (s : State) (n : SupplyNo) (x : Input) : Bool :=
  !(s.input n x).voltage &&
    match (s.input n x).absentSince with
    | some t => t + (s.supply n).timing.tripConfirm ≤ s.ms
    | none => false

/-- R32 steps 3 to 5: the supply goes to FAULT, the change is raised, and a close onto a source in REFUEL is reported
to SRC, which leaves REFUEL with the reservation kept (R12), and to DLV (R98). -/
def panelFault (n : SupplyNo) (x : Input) (closed : Bool) (s : State) : State :=
  let s1 := raise (.transferFault n (some x)) (toConsoleAndStage n) (derived n .fault none none s)
  match closed, (s.input n x).source with
  | true, some i =>
    if (s1.source i).state == .refuel then
      loadedByHand i (changeSource i (fun r => { r with state := afterRefuel r }) s1)
    else s1
  | _, _ => s1

/-- R32 step 1. -/
def logUncommanded (n : SupplyNo) (x : Input) (closed : Bool) (s : State) : State :=
  logAppend .uncommanded (num n) (some (inputCode x)) (some (positionCode closed)) s

/-- R26: a derivation that gives FAULT from a resting line position (log entry 12 for its detail). -/
def deriveFault (n : SupplyNo) (s : State) : State :=
  raise (.transferFault n none) (toConsoleAndStage n) (clearWaiting n (derived n .fault none none s))

/-- R26: the row for one aux-closed input. -/
def deriveOne (n : SupplyNo) (x : Input) (s : State) : State :=
  match (s.input n x).source with
  | none => deriveFault n s
  | some i =>
    if (s.source i).state == .refuel then panelFault n x true (clearWaiting n (logUncommanded n x true s))
    else if tripDue s n x then restoreIfSet n (reportTrip n x (derived n .tripped (some x) none s))
    else clearWaiting n (derived n .live (some x) (some i) s)

/-- R26: the state of a defined supply from its lines. -/
def derive (n : SupplyNo) (s : State) : State :=
  match closedInputs s n with
  | [] => restoreIfSet n (derived n .dark none none s)
  | [x] => deriveOne n x s
  | _ => deriveFault n s

end Sys2Proof.Machine
end

