-- ==== Sys2Proof/Machine/TransferEnd.lean ====
section
/-! DEFINITION. Machine/TransferEnd.lean: the end of a transfer (R62) and what DLV does with a move that has completed
(R94, R105). -/

namespace Sys2Proof.Machine

/-- DONE or DONE_UNSTABLE. -/
def completed (r : Result) : Bool := r == .done || r == .doneUnstable

/-! ## The originating block -/

/-- R94: an unload of an active delivery is DONE or DONE_UNSTABLE. -/
def unloadDone (d : SlotNo) (n : SupplyNo) (t : Transfer) (s : State) : State :=
  let s1 := modDelivery d (fun r => putMoved (movedEntry n t) (dropUnload n r)) s
  match s1.delivery d with
  | some r => if unloading s1 r then (surveyStepOne d s1).state else s1
  | none => s1

/-- R94, R103 for a last-ended record: a move completed after the delivery's end. -/
def lateUnloadDone (i : SourceNo) (r : Delivery) (n : SupplyNo) (t : Transfer) (s : State) : State :=
  makeReturn i r.slot (setLastEnded i (some (putMoved (movedEntry n t) (dropUnload n r))) s) (movedEntry n t)

/-- R94: DLV takes the completion of a transfer with an UNLOAD originator. -/
def tellUnloadDone (n : SupplyNo) (t : Transfer) (s : State) : State :=
  match deliveryCarrying s t.ticket with
  | some d => unloadDone d n t s
  | none =>
    match lastEndedCarrying s t.ticket with
    | some i =>
      match s.lastEnded i with
      | some r => lateUnloadDone i r n t s
      | none => s
    | none => s

/-- R105: DLV takes the completion of a transfer with a RETURN originator. -/
def tellReturnDone (t : Transfer) (s : State) : State :=
  match returnCarrying s t.ticket with
  | some e => dropReturn e.supply s
  | none => s

/-- R62 step 8 for DONE and DONE_UNSTABLE. -/
def tellCompleted (n : SupplyNo) (t : Transfer) (result : Result) (s : State) : State :=
  match t.originator with
  | .station _ _ => s
  | .supply => s
  | .unload _ => tellUnloadDone n t s
  | .returnHome _ => tellReturnDone t s
  | .watch w => tellWatch w t result s

/-- R62 step 8. -/
def tellOriginator (n : SupplyNo) (t : Transfer) (result : Result) (s : State) : State :=
  if completed result then tellCompleted n t result s else tellFailed n t result s

/-! ## The end (R62) -/

/-- What SUP does at the end of a transfer (R29): derive the state, or leave the supply in FAULT. Only a pre-emption
keeps it in TRANSFER (`endPreempted`). -/
inductive After where
  | derives | faults
  deriving DecidableEq, Repr

/-- R29, R62 step 5. -/
def afterEnd (a : After) (n : SupplyNo) (s : State) : State :=
  match a with
  | .derives => derive n s
  | .faults => derived n .fault none none s

/-- R53, R57: TRANSFER_FAULT for a transfer that ends FAIL_BOTH at a confirm timeout of an input. -/
def raiseFault (n : SupplyNo) (x : Option Input) (s : State) : State :=
  match x with
  | some x => raise (.transferFault n (some x)) (toConsoleAndStage n) s
  | none => s

/-- R62: the end of the transfer in flight on a supply, in the order of its steps. `fault` is the input that R53 or
R57 raises. -/
def endWith (a : After) (fault : Option Input) (n : SupplyNo) (result : Result) (s : State) : State :=
  match inFlight s n with
  | some t =>
    tellOriginator n t result
      (raiseFault n fault (reportEnd n t result (afterEnd a n (releaseSteps n t result s))))
  | none => s

/-- R29, R62: a transfer ends; FAIL_BOTH leaves the supply in FAULT. -/
def endTransfer (n : SupplyNo) (result : Result) (s : State) : State :=
  endWith (if result == .failBoth then .faults else .derives) none n result s

/-- R53, R57: a transfer ends FAIL_BOTH at a confirm timeout. -/
def endBoth (n : SupplyNo) (x : Input) (s : State) : State := endWith .faults (some x) n .failBoth s

/-- R24, R32: an uncommanded change on an input of a defined supply, whole. -/
def uncommanded (n : SupplyNo) (x : Input) (closed : Bool) (s : State) : State :=
  panelFault n x closed (endTransfer n .failBoth (logUncommanded n x closed s))

end Sys2Proof.Machine
end

