-- ==== Sys2Proof/Machine/Requests.lean ====
section
/-! DEFINITION. Machine/Requests.lean: how a request is judged by STN (R157) and answered (R152, R161). Every request
row is `request` with its kind, what a STAGE station may name, and the owning block's answer. -/

namespace Sys2Proof.Machine

/-- What the owning block makes of a request: the state after it, the status and the reply's body. -/
structure Done where
  state : State
  status : Status
  body : Body

/-- A refusal leaves the state as it was and carries no body (R166). -/
def refuse (e : Status) (s : State) : Done := ⟨s, e, .empty⟩

/-- The listed station on a port at a link address (R157 check 1); no two share both (R156). -/
def stationAt (s : State) (p : PortNo) (addr : Nat) : Option StationNo :=
  (indices 32).find? fun n => match s.station n with
    | some st => st.port == p && st.addr == addr
    | none => false

/-- R157: the request sets its station's last-request time. -/
def touch (n : StationNo) (s : State) : State := modStation n (fun st => { st with lastRequest := s.ms }) s

/-- R161: the attention indication of a reply to a station, false where it is not listed. -/
def indication (s : State) (n : Option StationNo) : Bool :=
  match n.bind s.station with
  | some st => attentionOf st
  | none => false

/-- R152: LNK forms the reply on the port the request came from, which serves until the reply has been sent. -/
def answer (rq : Request) (code : Nat) (n : Option StationNo) (status : Status) (body : Body) (s : State) : State :=
  modPort rq.port (fun p =>
    { p with serving := true,
             reply := some { dest := rq.addr, src := p.current.address, kind := code + 0x80, status := status,
                             attention := indication s n, body := body } }) s

/-- R157 check 5. -/
def holdRefusal (k : Kind) (n : StationNo) (s : State) : Option (Status × Body) :=
  if k.hold then
    match s.stn.hold with
    | none => some (.noHold, .empty)
    | some m => if m = n then none else some (.held, .held m)
  else none

/-- R157 checks 3 to 5, in order. `scope` says whether a STAGE station names its own object. -/
def requestRefusal (rq : Request) (k : Kind) (scope : Station → State → Bool) (n : StationNo) (st : Station)
    (s : State) : Option (Status × Body) :=
  if rq.len ≠ k.len then some (.badLength, .empty)
  else if !k.roles.contains st.role || (st.role == .stage && !scope st s) then some (.denied, .empty)
  else holdRefusal k n s

/-- R150: an enabled port takes characters; nothing reaches STN through a disabled one. -/
def enabled (s : State) (p : PortNo) : Bool := (s.port p).current.enabled

/-! ## Port error flags (R151, R155) -/

def flagSet (f : PortFlags) : PortFlag → Bool
  | .parity => f.parity | .framing => f.framing | .crc => f.crc | .overrun => f.overrun | .runt => f.runt
  | .badBroadcast => f.badBroadcast

def withPortFlag (f : PortFlags) : PortFlag → PortFlags
  | .parity => { f with parity := true }
  | .framing => { f with framing := true }
  | .crc => { f with crc := true }
  | .overrun => { f with overrun := true }
  | .runt => { f with runt := true }
  | .badBroadcast => { f with badBroadcast := true }

/-- R151: a flag is set; one that newly sets is logged and raised to every CONSOLE station. The flags of a disabled
port stay clear (R150). -/
def setPortFlag (p : PortNo) (f : PortFlag) (s : State) : State :=
  if flagSet (s.port p).flags f || !enabled s p then s
  else
    raise (.linkFault p f) toConsole
      (logAppend .linkFault (some p.1) (some (portFlagCode f)) none
        (modPort p (fun r => { r with flags := withPortFlag r.flags f }) s))

/-! ## Taking a request (R152, R157) -/

/-- R157 checks 3 to 5, and the owner's answer, for a request of the listed station `n`. -/
def judged (rq : Request) (k : Kind) (scope : Station → State → Bool) (owner : StationNo → Station → State → Done)
    (n : StationNo) (st : Station) (s : State) : State :=
  match requestRefusal rq k scope n st s with
  | some (e, b) => answer rq k.code (some n) e b s
  | none => answer rq k.code (some n) (owner n st s).status (owner n st s).body (owner n st s).state

/-- R152, R157: a request is taken: judged by STN, handed to its owner, and answered. One that arrives while its port
serves is discarded with OVERRUN, and the request being served is not disturbed. -/
def request (rq : Request) (k : Kind) (scope : Station → State → Bool) (owner : StationNo → Station → State → Done)
    (s : State) : State :=
  let s0 := advanceTo rq.t s
  if !enabled s0 rq.port then s0
  else if (s0.port rq.port).serving then setPortFlag rq.port .overrun s0
  else
    match stationAt s0 rq.port rq.addr with
    | none => answer rq k.code none .denied .empty s0
    | some n =>
      match (touch n s0).station n with
      | none => answer rq k.code none .denied .empty s0
      | some st => judged rq k scope owner n st (touch n s0)

/-- Kinds whose objects a STAGE station may name freely. -/
def anyObject (_ : Station) (_ : State) : Bool := true

/-- R157: a STAGE station names its own supply; a number outside 1 to 12 passes to the owning block, which answers it
RANGE. -/
def ownSupply (k : Nat) (st : Station) (_ : State) : Bool :=
  match number? 12 k with
  | some n => st.bound == some n
  | none => true

/-- R34, R157: as `ownSupply`, but 0 names every supply and is denied to a STAGE station. -/
def ownSupplyNotAll (k : Nat) (st : Station) (s : State) : Bool := k != 0 && ownSupply k st s

/-- R117: a channel whose supply is the station's; a number outside 0 to 23 passes. -/
def ownChannel (k : Nat) (st : Station) (s : State) : Bool :=
  match index? 24 k with
  | some c => (s.chan c).defined && (s.chan c).supply != none && (s.chan c).supply == st.bound
  | none => true

/-- R133: an account that a defined channel on the station's supply names; a number outside 0 to 47 passes. -/
def ownAccount (k : Nat) (st : Station) (s : State) : Bool :=
  match index? 48 k with
  | some a => (indices 24).any fun c =>
      (s.chan c).defined && (s.chan c).account == some a && (s.chan c).supply != none && (s.chan c).supply == st.bound
  | none => true

/-! ## Broadcasts (R153) -/

/-- R153: a broadcast of a kind that may be taken, from `rq`'s station. It is discarded with OVERRUN while the port
serves; taken, it counts as a request of its station and gets no reply; otherwise BAD_BROADCAST is set. -/
def broadcast (rq : Request) (k : Kind) (fits : Bool) (effect : State → State) (s : State) : State :=
  let s0 := advanceTo rq.t s
  if !enabled s0 rq.port then s0
  else if (s0.port rq.port).serving then setPortFlag rq.port .overrun s0
  else
    match stationAt s0 rq.port rq.addr with
    | none => setPortFlag rq.port .badBroadcast s0
    | some n =>
      match s0.station n with
      | some st =>
        if st.role == .console && rq.len == k.len && fits then effect (touch n s0)
        else setPortFlag rq.port .badBroadcast s0
      | none => setPortFlag rq.port .badBroadcast s0

end Sys2Proof.Machine
end

