-- ==== Sys2Proof/Machine/Boundary.lean ====
section
/-! DEFINITION. Machine/Boundary.lean: an interval boundary (R120) with the closing of every block's figures (R17,
R31, R82, R116, R123), the blocks' per-second work (R16, R31, R79 to R81, R113, R119), and settlement (R127 to R131). -/

namespace Sys2Proof.Machine

/-! ## Closing figures at a boundary -/

/-- R17: the closed hire and the carry. -/
def closeHireRec (r : Source) : Source :=
  { r with hireAcc := r.hireAcc - 3600 * (r.hireAcc / 3600), lastClosed := r.hireAcc / 3600 }

/-- R17: SRC closes hire; the figure set is every source's closed hire. -/
def closeHire (s : State) : With (Vector Nat 16) :=
  ⟨{ s with src := tab fun i => closeHireRec (s.source i) }, tab fun i => (s.source i).hireAcc / 3600⟩

/-- R82 steps 1 to 5 for one tank. A closed burn above R76's range is not held: neither rule says that it is (DESIGN
CHOICE, log entry 42). -/
def closeBurnRec (k : Tank) : Tank :=
  let f := k.acc / 3600
  let k1 := { k with acc := k.acc - 3600 * f, closedBurn := f, lastEstimated := k.estimated, estimated := false }
  match k.set, k.book with
  | true, some b => { k1 with book := some (b - f), dry := k.dry || decide (b < f) }
  | _, _ => k1

/-- R82: DRY newly set is raised to every CONSOLE and every FUEL station. -/
def raiseDry (before : State) (s : State) (i : SourceNo) : State :=
  if !(before.tank i).dry && (s.tank i).dry then raise (.sourceAlert i .dry) toFuelAndConsole s else s

/-- R82: TNK closes burn. -/
def closeBurn (s : State) : With (Vector Nat 16) :=
  let s1 := { s with tnk := { s.tnk with tanks := tab fun i => closeBurnRec (s.tank i) } }
  ⟨(indices 16).foldl (raiseDry s) s1, tab fun i => (s.tank i).acc / 3600⟩

/-- R116: MTR hands over the matrix, clears it and closes every channel's interval energy. -/
def closeMatrix (s : State) : With Matrix :=
  ⟨{ s with mtr :=
      { channels := tab fun c => { s.chan c with energy := 0, lastEnergy := (s.chan c).energy },
        matrix := Vector.replicate 48 (Vector.replicate 17 0) } }, s.mtr.matrix⟩

/-- R31: SUP closes dark seconds; an UNDEFINED supply hands 0. -/
def closeDark (s : State) : With (Vector Nat 12) :=
  ⟨{ s with sup := tab fun n => { s.supply n with dark := 0 } },
   tab fun n => if (s.supply n).defined then (s.supply n).dark else 0⟩

/-- A figure set is written into the record of its serial (R123). -/
def fileInto (serial : Nat) (f : SettleRec → SettleRec) (s : State) : State :=
  setRecords (s.stl.records.map fun r => if r.serial == serial then f r else r) s

/-- R17, R123. -/
def announceHire (serial : Nat) (s : State) : State :=
  let h := closeHire s
  fileInto serial (fun r => { r with hire := some h.val }) h.state

/-- R82, R123. -/
def announceBurn (serial : Nat) (s : State) : State :=
  let h := closeBurn s
  fileInto serial (fun r => { r with burn := some h.val }) h.state

/-- R116, R123. -/
def announceMatrix (serial : Nat) (s : State) : State :=
  let h := closeMatrix s
  fileInto serial (fun r => { r with matrix := some h.val }) h.state

/-- R31, R123. -/
def announceDark (serial : Nat) (s : State) : State :=
  let h := closeDark s
  fileInto serial (fun r => { r with dark := some h.val }) h.state

/-- R120 step 4: the end of the interval with a serial is announced to SRC, TNK, MTR and SUP. -/
def announce (serial : Nat) (s : State) : State :=
  announceDark serial (announceMatrix serial (announceBurn serial (announceHire serial s)))

/-- R120 step 1: the record of the interval that ends. -/
def endingRecord (c : Clock) (endTime : Nat) : SettleRec :=
  { index := c.index, serial := c.serial, start := c.start, endTime := endTime, ticks := c.ticks, hire := none,
    burn := none, matrix := none, dark := none }

/-- R119: the serial advances by one at every boundary; past its range the manual states no value (log entry 22). -/
def serialAfter (n : Nat) : Nat := if n < max32 then n + 1 else Config.serialAfterLast n

/-- R120 steps 2 and 3. -/
def nextInterval (c : Clock) : Clock :=
  let minutes := c.pendingMinutes.getD c.minutes
  let index := c.time / (minutes * 60)
  { c with minutes := minutes, pendingMinutes := none, index := index, serial := serialAfter c.serial,
           start := c.time, nextBoundary := (index + 1) * (minutes * 60), ticks := 0 }

/-- R120: a boundary, whole; the clock already stands at its new time. -/
def takeBoundary (endTime : Nat) (s : State) : State :=
  announce s.stl.clock.serial
    (setClock (nextInterval s.stl.clock)
      (setRecords (s.stl.records ++ [endingRecord s.stl.clock endTime]) s))

/-! ## The one-second tick -/

/-- R16. -/
def tickSourceRec (r : Source) : Source :=
  if onHire r then
    { r with runSeconds := if runningBit r then hold32 (r.runSeconds + 1) else r.runSeconds,
             hireAcc := r.hireAcc + (hireOf r).rate }
  else r

def tickSources (s : State) : State := { s with src := tab fun i => tickSourceRec (s.source i) }

/-- R31. -/
def tickSupplyRec (r : Supply) : Supply :=
  if r.defined && r.record == none then { r with dark := hold32 (r.dark + 1) } else r

def tickSupplies (s : State) : State := { s with sup := tab fun n => tickSupplyRec (s.supply n) }

/-- R79: whether a source is sampled. -/
def sampled (r : Source) : Bool := r.state == .running || (r.state == .refuel && runningBit r)

/-- R79: the load of a sampled source: reported, or estimated where it is stale. -/
def burnLoad (s : State) (i : SourceNo) : Nat :=
  if (s.source i).stale then demandOn s i
  else match (s.source i).telemetry with
    | some t => t.load
    | none => 0

/-- R79 to R81 for one source, the tick taken whole. -/
def tickTankRec (s : State) (i : SourceNo) : Tank :=
  let k := s.tank i
  if sampled (s.source i) then
    let rate := burnRate (hireOf (s.source i)).curve (hireOf (s.source i)).rating (burnLoad s i)
    { k with acc := k.acc + rate, mark := k.mark + rate, lastRate := rate, lastLoad := some (burnLoad s i),
             loadKind := some (if (s.source i).stale then .estimated else .reported),
             estimated := k.estimated || (s.source i).stale }
  else { k with lastRate := 0, lastLoad := none, loadKind := none }

def tickTanks (s : State) : State := { s with tnk := { s.tnk with tanks := tab fun i => tickTankRec s i } }

/-- R113: the bins of a defined channel move one place. -/
def tickChanRec (c : Chan) : Chan := if c.defined then { c with bins := 0 :: c.bins.take 59 } else c

def tickChannels (s : State) : State :=
  { s with mtr := { s.mtr with channels := tab fun c => tickChanRec (s.chan c) } }

/-- R119 steps 1 and 2. -/
def tickClockRec (c : Clock) : Clock := { c with time := hold32 (c.time + 1), ticks := hold32 (c.ticks + 1) }

def tickClock (s : State) : State := setClock (tickClockRec s.stl.clock) s

/-- The tick at SRC, SUP, TNK and MTR (R16, R31, R79, R113). Whether MTR moves its bins before TNK reads demand is the
order's (log entry 10). -/
def tickOwners (order : TickOrder) (s : State) : State :=
  let s1 := tickSupplies (tickSources s)
  if order.meterFirst then tickTanks (tickChannels s1) else tickChannels (tickTanks s1)

/-- R119: the tick at STL and at the blocks that accrue, with the boundary it brings. -/
def tickBlocks (order : TickOrder) (s : State) : State :=
  let s1 := tickOwners order (tickClock s)
  if s1.stl.clock.time = s1.stl.clock.nextBoundary then takeBoundary s1.stl.clock.time s1 else s1

/-! ## Settlement -/

/-- R127: the exact cost of a source, and the cost held at 2^32 - 1. -/
def exactCost (price burn hire : Nat) : Nat := burn * price + hire

def cost (price burn hire : Nat) : Nat := hold32 (exactCost price burn hire)

/-- A cell of a matrix. -/
def cell (m : Matrix) (a : AccountNo) (col : Fin 17) : Nat := look (look m a) col

/-- The column of a source and the UNSOURCED column (R115). -/
def sourceColumn (i : SourceNo) : Fin 17 := i.castSucc
def unsourcedColumn : Fin 17 := 16

/-- R128 step 1: a cell with those of undefined accounts folded into account 0's. -/
def foldedCell (defined : AccountNo → Bool) (m : Matrix) (a : AccountNo) (col : Fin 17) : Nat :=
  if a = 0 then cell m 0 col + total fun b : AccountNo => if b ≠ 0 ∧ ¬ defined b then cell m b col else 0
  else if defined a then cell m a col else 0

/-- R128 step 2: E_s. -/
def sourceEnergy (defined : AccountNo → Bool) (m : Matrix) (i : SourceNo) : Nat :=
  total fun a : AccountNo => foldedCell defined m a (sourceColumn i)

/-- R128 step 4: the share of an account in a source's cost, before the residue. -/
def share (cost energy mine : Nat) : Nat := if energy = 0 then 0 else cost * mine / energy

/-- R128 step 5: R_s; there is none where no account drew. -/
def residue (defined : AccountNo → Bool) (m : Matrix) (c : Nat) (i : SourceNo) : Nat :=
  if sourceEnergy defined m i = 0 then 0
  else c - total fun a : AccountNo => share c (sourceEnergy defined m i) (foldedCell defined m a (sourceColumn i))

/-- R128 steps 3 to 5: what an account receives of a source's cost. -/
def receives (defined : AccountNo → Bool) (m : Matrix) (c : Nat) (i : SourceNo) (a : AccountNo) : Nat :=
  let e := sourceEnergy defined m i
  if e = 0 then (if a = 0 then c else 0)
  else share c e (foldedCell defined m a (sourceColumn i)) + (if a = 0 then residue defined m c i else 0)

/-- R128: an account's interval charge, energy and unsourced energy. -/
def intervalCharge (defined : AccountNo → Bool) (m : Matrix) (costs : SourceNo → Nat) (a : AccountNo) : Nat :=
  total fun i : SourceNo => receives defined m (costs i) i a

def intervalEnergy (defined : AccountNo → Bool) (m : Matrix) (a : AccountNo) : Nat :=
  total fun i : SourceNo => foldedCell defined m a (sourceColumn i)

def intervalUnsourced (defined : AccountNo → Bool) (m : Matrix) (a : AccountNo) : Nat :=
  foldedCell defined m a unsourcedColumn

/-- R129: the dark seconds of an account: those of each supply that a defined channel of the account names, once. -/
def intervalDark (s : State) (dark : Vector Nat 12) (a : AccountNo) : Nat :=
  total fun n : SupplyNo =>
    if (indices 24).any fun c => (s.chan c).defined && (s.chan c).account == some a && (s.chan c).supply == some n then
      look dark n
    else 0

/-- R129: the interval count advances by 1; past its range the manual states no value (log entry 22). -/
def intervalsAfter (n : Nat) : Nat := if n < max32 then n + 1 else Config.countAfterLast n

/-- R129: an addition into a bank, each figure held at 2^32 - 1. -/
def addToBank (energy unsourced charge dark : Nat) (b : BankRec) : BankRec :=
  { energy := hold32 (b.energy + energy), unsourced := hold32 (b.unsourced + unsourced),
    charge := hold32 (b.charge + charge), dark := hold32 (b.dark + dark), count := intervalsAfter b.count,
    saturated := b.saturated || decide (max32 < b.energy + energy) || decide (max32 < b.unsourced + unsourced) ||
      decide (max32 < b.charge + charge) || decide (max32 < b.dark + dark) }

def setBank (k : Bank) (x : BankRec) (r : Account) : Account :=
  match k with
  | .a => { r with bankA := x }
  | .b => { r with bankB := x }

/-- R129 for one account. -/
def settleAccount (s : State) (m : Matrix) (costs : SourceNo → Nat) (dark : Vector Nat 12) (a : AccountNo) : Account :=
  let r := s.account a
  let defined := fun b => (s.account b).defined
  if r.defined then
    let energy := intervalEnergy defined m a
    let unsourced := intervalUnsourced defined m a
    let charge := intervalCharge defined m costs a
    let darks := intervalDark s dark a
    setBank (activeBank s) (addToBank energy unsourced charge darks (bankOf r (activeBank s)))
      { r with lastEnergy := energy, lastUnsourced := unsourced, lastCharge := charge, lastDark := darks }
  else r

/-- A settlement record with all four figure sets (R123). -/
structure Complete where
  record : SettleRec
  hire : Vector Nat 16
  burn : Vector Nat 16
  matrix : Matrix
  dark : Vector Nat 12

/-- R123: a record is complete when all four figure sets are present. -/
def complete (r : SettleRec) : Option Complete :=
  match r.hire, r.burn, r.matrix, r.dark with
  | some h, some b, some m, some d => some ⟨r, h, b, m, d⟩
  | _, _, _, _ => none

/-- R127: the cost of each source of a record at the price in force. -/
def costOf (s : State) (c : Complete) (i : SourceNo) : Nat := cost s.tnk.price (look c.burn i) (look c.hire i)

/-- R129: what READ SETTLEMENT shows of one source. -/
def sourceFigures (s : State) (c : Complete) (i : SourceNo) : SourceFigures :=
  let defined := fun b => (s.account b).defined
  { burn := look c.burn i, hire := look c.hire i, cost := costOf s c i,
    energy := sourceEnergy defined c.matrix i, residue := residue defined c.matrix (costOf s c i) i,
    costSaturated := decide (max32 < exactCost s.tnk.price (look c.burn i) (look c.hire i)) }

/-- R129: the last-settled figures. -/
def settledFigures (s : State) (c : Complete) : Settled :=
  let defined := fun b => (s.account b).defined
  { index := c.record.index, serial := c.record.serial, start := c.record.start, endTime := c.record.endTime,
    ticks := c.record.ticks, price := s.tnk.price, sources := tab (sourceFigures s c),
    totalCost := total (costOf s c),
    totalEnergy := total (sourceEnergy defined c.matrix),
    totalUnsourced := total fun a : AccountNo => foldedCell defined c.matrix a unsourcedColumn,
    totalResidue := total fun i => residue defined c.matrix (costOf s c i) i,
    dark := c.dark }

/-- R171: INTERVAL_SETTLED marks COST_SATURATED in bit 31 of its second value. -/
def settledMark (s : State) (c : Complete) : Nat :=
  if (indices 16).any fun i => (sourceFigures s c i).costSaturated then 2147483648 else 0

/-- R129: the additions of a settlement, its figures and its log record. -/
def settleRecord (c : Complete) (s : State) : State :=
  let fig := settledFigures s c
  logAppend .intervalSettled (some c.record.index) (some (hold32 fig.totalCost))
    (some (hold32 fig.totalResidue + settledMark s c))
    { s with stl := { s.stl with
        accounts := tab fun a => settleAccount s c.matrix (costOf s c) c.dark a
        settled := some fig
        records := s.stl.records.drop 1 } }

/-- A bank header's state and times, written. -/
def setHeader (k : Bank) (h : BankHeader) (s : State) : State :=
  match k with
  | .a => { s with stl := { s.stl with bankA := h } }
  | .b => { s with stl := { s.stl with bankB := h } }

/-- R131: a pending close, taken with the settlement of an interval that ended at `endTime`. -/
def takeClose (endTime : Nat) (s : State) : State :=
  if s.stl.closePending then
    let k := activeBank s
    let h := bankHeader s k
    let s1 := setHeader k { h with state := .frozen, ends := some endTime } s
    let s2 := setHeader (otherBank k) { state := .active, start := some endTime, ends := none } s1
    raise (.periodClosed k endTime) toConsole
      (logAppend .periodClosed (some (bankCode k)) h.start (some endTime)
        { s2 with stl := { s2.stl with closePending := false } })
  else s

/-- R123, R127 to R131: STL settles the earliest open record, once it holds all four figure sets. -/
def settle (s : State) : State :=
  match s.stl.records with
  | r :: _ =>
    match complete r with
    | some c => takeClose r.endTime (settleRecord c s)
    | none => s
  | [] => s

end Sys2Proof.Machine
end

