-- ==== Sys2Proof/Machine/Watches.lean ====
section
/-! DEFINITION. Machine/Watches.lean: WCH's sample of every armed entry (R140, R143 to R145) and its requests (R138,
R147, R148). -/

namespace Sys2Proof.Machine

/-! ## Sampling -/

/-- R144: WATCH_FIRED is logged with the value sampled and a second value. -/
def logWatchFired (w : WatchNo) (v : Word) (second : Nat) (s : State) : State :=
  logAppend .watchFired (some w.1) (some v.toNat) (some second) s

/-- R144: a NOTIFY entry fires. -/
def fireNotify (w : WatchNo) (v : Word) (s : State) : State :=
  let r := s.watch w
  modWatch w (fun r => { r with state := .fired })
    (logWatchFired w v r.threshold.toNat (raise (.watchFired w v .ok) (toMask r.mask) s))

/-- R145: the request of a TRANSFER entry. -/
def watchAsk (w : WatchNo) (n : SupplyNo) (priority : Nat) : Ask :=
  { supply := n, target := none, mode := .auto, priority := priority, originator := .watch w }

/-- R145, any refusal: raised once a firing. -/
def watchRefused (w : WatchNo) (v : Word) (e : Status) (s : State) : State :=
  let r := s.watch w
  let s1 := if r.refusalReported then s else raise (.watchFired w v e) (toMask r.mask) s
  modWatch w (fun r => { r with lastStatus := some (.status e), state := .retry, counter := 0,
                                refusalReported := true }) s1

/-- R145: a TRANSFER entry asks for its transfer, at its firing and at each retry; a retry sets the counter to 0. -/
def askTransfer (w : WatchNo) (v : Word) (retry : Bool) (s : State) : State :=
  match (s.watch w).supply, (s.watch w).priority with
  | some n, some p =>
    match admitOrPreempt (watchAsk w n p) s with
    | ⟨s1, .accepted k _ _⟩ =>
      modWatch w (fun r => { r with ticket := some k, lastStatus := some (.status .accepted), state := .fired,
                                    counter := if retry then 0 else r.counter })
        (logWatchFired w v (statusCode .accepted) s1)
    | ⟨s1, .refused e⟩ => watchRefused w v e (logWatchFired w v (statusCode e) s1)
  | _, _ => s

/-- R144, R145: an entry fires on the value sampled. -/
def fire (w : WatchNo) (v : Word) (s : State) : State :=
  match (s.watch w).action with
  | .notify => fireNotify w v s
  | .transfer => askTransfer w v false s

/-- R143: the entry back in IDLE. -/
def idleWatch (r : Watch) : Watch := { r with state := .idle, counter := 0, refusalReported := false }

/-- R143: a true sample in IDLE or PENDING, the first or a further one, with the value sampled. -/
def countTrue (w : WatchNo) (v : Word) (s : State) : State :=
  let s1 := modWatch w (fun r => { r with counter := if r.state == .idle then 1 else r.counter + 1, state := .pending }) s
  if (s1.watch w).persistence ≤ (s1.watch w).counter then fire w v s1 else s1

/-- R143, R145: a sample in RETRY whose release test is false. -/
def countRetry (w : WatchNo) (v : Option Word) (s : State) : State :=
  let s1 := modWatch w (fun r => { r with counter := min 10 (r.counter + 1) }) s
  match v with
  | some v => if (s1.watch w).counter = 10 && (s1.watch w).lastCond then askTransfer w v true s1 else s1
  | none => s1

/-- R143: the move of an armed entry by its state, the condition and the release test. -/
def moveWatch (w : WatchNo) (v : Option Word) (s : State) : State :=
  let r := s.watch w
  match r.state with
  | .idle | .pending =>
    match r.lastCond, v with
    | true, some v => countTrue w v s
    | _, _ => modWatch w (fun r => { r with state := .idle, counter := 0 }) s
  | .fired => if released r v then modWatch w idleWatch s else s
  | .retry => if released r v then modWatch w idleWatch s else countRetry w v s

/-- R140: the sample of one entry, whole. -/
def sampleWatch (s : State) (w : WatchNo) : State :=
  let r := s.watch w
  if r.armed then
    let v := watchValue s r
    moveWatch w v (modWatch w (fun r => { r with lastValue := v, lastCond := condition r v }) s)
  else s

/-- R140: WCH takes a tick; the entries are sampled in rising number (log entry 11). -/
def sampleAll (s : State) : State := (indices 32).foldl sampleWatch s

/-! ## DEFINE WATCH (R138) -/

/-- The entry with what DEFINE WATCH always resets. -/
def resetWatch (r : Watch) : Watch :=
  { r with armed := false, state := .idle, counter := 0, refusalReported := false, lastValue := none,
           lastCond := false }

/-- R138, operand none. -/
def undefineWatch (r : Watch) : Watch :=
  { resetWatch r with defined := false, operand := none, supply := none, priority := none, mask := 0 }

/-- R138, R137: the transfer fields, none for NOTIFY; no answer where TRANSFER carries one out of range. -/
def watchTransfer (a : WatchAction) (supply priority : Nat) : Option (Option SupplyNo × Option Nat) :=
  match a with
  | .notify => some (none, none)
  | .transfer => if priority ≤ 6 then (number? 12 supply).map fun n => (some n, some priority) else none

/-- R138, operand given: the definition fields, or none where one is out of range. -/
def defineFields (kind : Nat) (f : WatchReq) : Option (Watch → Watch) :=
  match operandOf? kind f.index, condOf? f.cond, actionOf? f.action with
  | some o, some c, some a =>
    match watchTransfer a f.supply f.priority with
    | some (n, p) =>
      if f.persistence ≤ 3600 then
        some fun r => { resetWatch r with
          defined := true, operand := some o, cond := c, threshold := f.threshold, hysteresis := f.hysteresis,
          persistence := f.persistence, action := a, supply := n, priority := p, mask := f.mask &&& 15 }
      else none
    | none => none
  | _, _, _ => none

/-- R138: what a request does to its entry, or none where it is answered RANGE. -/
def watchChange (f : WatchReq) : Option (Watch → Watch) :=
  match f.kind with
  | none => some undefineWatch
  | some kind => defineFields kind f

/-- R138, DEFINE WATCH. -/
def ownerDefineWatch (entry : Nat) (f : WatchReq) (_ : StationNo) (_ : Station) (s : State) : Done :=
  match index? 32 entry, watchChange f with
  | some w, some g => ⟨modWatch w g s, .ok, .empty⟩
  | _, _ => refuse .range s

def execDefineWatch (rq : Request) (entry : Nat) (f : WatchReq) (s : State) : Host.Outcome State Fault Refusal :=
  .next (request rq kindDefineWatch anyObject (ownerDefineWatch entry f) s)

/-! ## Arming (R147) -/

/-- R147: one entry armed. -/
def armWatch (r : Watch) : Watch := if r.defined && !r.armed then { idleWatch r with armed := true } else r

/-- R147: one entry disarmed. -/
def disarmWatch (r : Watch) : Watch := { idleWatch r with armed := false }

/-- R147: every entry that a mask names, changed. -/
def eachWatch (mask : Word) (f : Watch → Watch) (s : State) : State :=
  { s with wch := tab fun w => if mask.getLsbD w.1 then f (s.watch w) else s.watch w }

/-- R147: the mask of armed entries. -/
def armedMask (s : State) : Word := statusWord ((indices 32).map fun w => (w.1, (s.watch w).armed))

def ownerArm (mask : Word) (f : Watch → Watch) (_ : StationNo) (_ : Station) (s : State) : Done :=
  let s1 := eachWatch mask f s
  ⟨s1, .ok, .armedWatches (armedMask s1)⟩

def execArmWatches (rq : Request) (mask : Word) (s : State) : Host.Outcome State Fault Refusal :=
  .next (request rq kindArmWatches anyObject (ownerArm mask armWatch) s)

def execDisarmWatches (rq : Request) (mask : Word) (s : State) : Host.Outcome State Fault Refusal :=
  .next (request rq kindDisarmWatches anyObject (ownerArm mask disarmWatch) s)

/-- R148, READ WATCH. An undefined entry carries no operand value: the field is absent (log entry 51). -/
def ownerReadWatch (entry : Nat) (_ : StationNo) (_ : Station) (s : State) : Done :=
  match index? 32 entry with
  | none => refuse .range s
  | some w => ⟨s, .ok, .watch (s.watch w) (if (s.watch w).defined then watchValue s (s.watch w) else none)⟩

def execReadWatch (rq : Request) (entry : Nat) (s : State) : Host.Outcome State Fault Refusal :=
  .next (request rq kindReadWatch anyObject (ownerReadWatch entry) s)

end Sys2Proof.Machine
end

