-- ==== Sys2Proof/Machine/Billing.lean ====
section
/-! DEFINITION. Machine/Billing.lean: the one-second tick, settlement, and STL's requests (R119 to R134). -/

namespace Sys2Proof.Machine

/-! ## The tick and settlement -/

/-- R119, R140: the tick at every block. Whether WCH samples before or after the owners is the order's (log entry
10). -/
def secondTick (order : TickOrder) (s : State) : State :=
  if order.watchFirst then tickBlocks order (sampleAll s) else sampleAll (tickBlocks order s)

def execSecondTick (order : TickOrder) (t : Nat) (s : State) : Host.Outcome State Fault Refusal :=
  .next (secondTick order (advanceTo t s))

def execSettlement (s : State) : Host.Outcome State Fault Refusal := .next (settle s)

/-! ## SET TIME and SET INTERVAL (R121, R122) -/

/-- R121, t before B. -/
def movedClock (time : Nat) (c : Clock) : Clock :=
  { c with time := time, nextBoundary := (time / (c.minutes * 60) + 1) * (c.minutes * 60) }

/-- R121: the clock takes a new time, with the boundary where it is at or past the next one, and TIME_SET is logged after
it, so that the record's own site time is the new one (DESIGN CHOICE, log entry 49). -/
def takeTime (time : Nat) (s : State) : State :=
  let c := s.stl.clock
  let s1 := if c.nextBoundary ≤ time then takeBoundary c.time (setClock { c with time := time } s)
    else setClock (movedClock time c) s
  logAppend .timeSet none (some c.time) (some time) s1

/-- R121, SET TIME. -/
def ownerSetTime (time : Nat) (_ : StationNo) (_ : Station) (s : State) : Done :=
  let s1 := takeTime time s
  ⟨s1, .ok, .time s.clock time (s.stl.clock.nextBoundary ≤ time) s1.stl.clock.index s1.stl.clock.nextBoundary⟩

/-- R121: SET TIME by request, or by broadcast (R153). -/
def execSetTime (rq : Request) (isBroadcast : Bool) (time : Nat) (s : State) : Host.Outcome State Fault Refusal :=
  .next (if isBroadcast then broadcast rq kindSetTime true (takeTime time) s
    else request rq kindSetTime anyObject (ownerSetTime time) s)

/-- R122: a length an interval may have, in minutes. -/
def intervalLength (m : Nat) : Bool := [5, 10, 15, 20, 30, 60].contains m

/-- R122, SET INTERVAL. -/
def ownerSetInterval (minutes : Nat) (_ : StationNo) (_ : Station) (s : State) : Done :=
  let c := s.stl.clock
  if intervalLength minutes then
    let p := if minutes = c.minutes then none else some minutes
    ⟨setClock { c with pendingMinutes := p } s, .ok, .interval c.minutes p⟩
  else refuse .range s

def execSetInterval (rq : Request) (minutes : Nat) (s : State) : Host.Outcome State Fault Refusal :=
  .next (request rq kindSetInterval anyObject (ownerSetInterval minutes) s)

/-! ## Accounts (R125, R126) -/

/-- R125: an account defined, or given its reference where it already was. -/
def defineAccountRec (reference : Option Nat) (r : Account) : Account :=
  if r.defined then { r with reference := reference }
  else { r with defined := true, reference := reference, lastEnergy := 0, lastUnsourced := 0, lastCharge := 0,
                lastDark := 0 }

/-- R124, R125: the reference that a request carries: none, or a 32-bit number behind its presence byte. -/
def referenceOf (present reference : Nat) : Option (Option Nat) :=
  match present with
  | 0 => some none
  | 1 => some (some reference)
  | _ => none

/-- R125, DEFINE ACCOUNT. A presence byte that is not 0 or 1 is out of its range (R166). -/
def ownerDefineAccount (account present reference : Nat) (_ : StationNo) (_ : Station) (s : State) : Done :=
  match index? 48 account, referenceOf present reference with
  | some a, some ref => ⟨setAccount a (defineAccountRec ref (s.account a)) s, .ok, .empty⟩
  | _, _ => refuse .range s

def execDefineAccount (rq : Request) (account present reference : Nat) (s : State) :
    Host.Outcome State Fault Refusal :=
  .next (request rq kindDefineAccount anyObject (ownerDefineAccount account present reference) s)

/-- R126: a defined channel names the account. -/
def channelNames (s : State) (a : AccountNo) : Bool :=
  (indices 24).any fun c => (s.chan c).defined && (s.chan c).account == some a

/-- R126: a bank whose four figures are not all 0. -/
def bankHolds (b : BankRec) : Bool := b.energy != 0 || b.unsourced != 0 || b.charge != 0 || b.dark != 0

/-- R126: the account as a removal leaves it. -/
def removedAccount (r : Account) : Account :=
  { r with defined := false, reference := none, lastEnergy := 0, lastUnsourced := 0, lastCharge := 0, lastDark := 0,
           bankA := { r.bankA with count := 0, saturated := false },
           bankB := { r.bankB with count := 0, saturated := false } }

/-- R126, REMOVE ACCOUNT. -/
def ownerRemoveAccount (account : Nat) (_ : StationNo) (_ : Station) (s : State) : Done :=
  match index? 48 account with
  | none => refuse .range s
  | some a =>
    if a = 0 then refuse .state s
    else if !(s.account a).defined then refuse .unknown s
    else if channelNames s a then refuse .state s
    else if bankHolds (s.account a).bankA || bankHolds (s.account a).bankB then refuse .state s
    else ⟨setAccount a (removedAccount (s.account a)) s, .ok, .empty⟩

def execRemoveAccount (rq : Request) (account : Nat) (s : State) : Host.Outcome State Fault Refusal :=
  .next (request rq kindRemoveAccount anyObject (ownerRemoveAccount account) s)

/-! ## Billing periods (R130, R132) -/

def setClosePending (k : Bool) (s : State) : State := { s with stl := { s.stl with closePending := k } }

/-- R130, CLOSE PERIOD. -/
def ownerClosePeriod (_ : StationNo) (_ : Station) (s : State) : Done :=
  if (bankHeader s (otherBank (activeBank s))).state == .frozen then refuse .bankFull s
  else ⟨setClosePending true s, .ok, .period (activeBank s) true⟩

def execClosePeriod (rq : Request) (s : State) : Host.Outcome State Fault Refusal :=
  .next (request rq kindClosePeriod anyObject ownerClosePeriod s)

/-- R132: a bank of every account emptied. -/
def emptyBank (k : Bank) (s : State) : State :=
  { s with stl := { s.stl with accounts := tab fun a => setBank k BankRec.zero (s.account a) } }

/-- R132: the FROZEN bank is released. -/
def releaseBank (k : Bank) (s : State) : State :=
  let h := bankHeader s k
  logAppend .periodReleased (some (bankCode k)) h.start h.ends
    (setHeader k { state := .released, start := none, ends := none } (emptyBank k s))

/-- R132, RELEASE PERIOD. -/
def ownerReleasePeriod (_ : StationNo) (_ : Station) (s : State) : Done :=
  match frozenBank s with
  | none => refuse .state s
  | some k => ⟨releaseBank k s, .ok, .empty⟩

def execReleasePeriod (rq : Request) (s : State) : Host.Outcome State Fault Refusal :=
  .next (request rq kindReleasePeriod anyObject ownerReleasePeriod s)

/-! ## Reading (R133, R134) -/

/-- R133: what READ ACCOUNT carries of a bank of an account. -/
def accountBody (a : AccountNo) (k : Bank) (s : State) : Body :=
  let r := s.account a
  .account r.reference k (bankHeader s k).start (bankHeader s k).ends (bankOf r k) r.lastEnergy r.lastUnsourced
    r.lastCharge r.lastDark s.stl.clock.index s.stl.clock.serial s.stl.closePending

/-- R133, READ ACCOUNT; bank 0 is ACTIVE, 1 FROZEN (R167). R133's table has no place for a bank code above 1, which R166
answers RANGE: it is answered with the account's own range, before UNKNOWN (DESIGN CHOICE, log entry 46). -/
def ownerReadAccount (account bank : Nat) (_ : StationNo) (_ : Station) (s : State) : Done :=
  match index? 48 account with
  | none => refuse .range s
  | some a =>
    if 1 < bank then refuse .range s
    else if !(s.account a).defined then refuse .unknown s
    else if bank = 0 then ⟨s, .ok, accountBody a (activeBank s) s⟩
    else
      match frozenBank s with
      | none => refuse .state s
      | some k => ⟨s, .ok, accountBody a k s⟩

def execReadAccount (rq : Request) (account bank : Nat) (s : State) : Host.Outcome State Fault Refusal :=
  .next (request rq kindReadAccount (ownAccount account) (ownerReadAccount account bank) s)

/-- R134: what READ SETTLEMENT says of an open record. -/
def openRecord (r : SettleRec) : OpenRecord :=
  { serial := r.serial, index := r.index, hire := r.hire.isSome, burn := r.burn.isSome, matrix := r.matrix.isSome,
    dark := r.dark.isSome }

/-- R134, READ SETTLEMENT. -/
def ownerReadSettlement (_ : StationNo) (_ : Station) (s : State) : Done :=
  ⟨s, .ok, .settlement s.stl.clock s.stl.bankA s.stl.bankB s.stl.closePending (s.stl.records.map openRecord)
    s.stl.settled⟩

def execReadSettlement (rq : Request) (s : State) : Host.Outcome State Fault Refusal :=
  .next (request rq kindReadSettlement anyObject ownerReadSettlement s)

end Sys2Proof.Machine
end

