-- ==== Sys2Proof/Machine/Transfers.lean ====
section
/-! DEFINITION. Machine/Transfers.lean: XFR's requests (R42, R61, R64), what it does with SYN's and SUP's reports and
with its own timers (R48 to R60), and SYN's limits (R73). -/

namespace Sys2Proof.Machine

/-! ## TRANSFER (R41, R42) -/

/-- R42 step 1: a STAGE station's priority is lowered to 5. -/
def stationPriority (st : Station) (priority : Nat) : Nat :=
  if st.role == .stage then min priority 5 else priority

/-- R42 step 2: the fields in range, as a request with its originator. -/
def stationAsk (supply target mode priority : Nat) (n : StationNo) : Option Ask :=
  match number? 12 supply, targetOf? target, modeReqOf? mode with
  | some k, some x, some m =>
    if priority ≤ 7 then
      some { supply := k, target := x, mode := m, priority := priority, originator := .station n false }
    else none
  | _, _, _ => none

/-- R41 to R46, TRANSFER. -/
def ownerTransfer (supply target mode priority : Nat) (n : StationNo) (st : Station) (s : State) : Done :=
  match stationAsk supply target mode (stationPriority st priority) n with
  | none => refuse .range s
  | some q =>
    match admitOrPreempt q s with
    | ⟨s1, .accepted k x m⟩ => ⟨s1, .accepted, .accepted k x m⟩
    | ⟨s1, .refused e⟩ => refuse e s1

def execTransfer (rq : Request) (supply target mode priority : Nat) (s : State) : Host.Outcome State Fault Refusal :=
  .next (request rq kindTransfer (ownSupply supply) (ownerTransfer supply target mode priority) s)

/-! ## SYNC_WAIT and SYNC (R48 to R51) -/

/-- A transfer in flight on a supply in one of two phases. -/
def inPhases (s : State) (n : SupplyNo) (p q : Phase) : Option Transfer :=
  (inFlight s n).bind fun t => if t.phase == p || t.phase == q then some t else none

/-- A transfer in flight on a supply in one phase. -/
def inPhase (s : State) (n : SupplyNo) (p : Phase) : Option Transfer := inPhases s n p p

/-- R48: XFR takes a grant that SYN made at a release. -/
def takeGrant (n : SupplyNo) (s : State) : State :=
  match inPhase s n .syncWait with
  | some t =>
    match servingChannel s t.ticket with
    | some c => modSlot n (fun t => { t with phase := .sync, syncChannel := some c }) s
    | none => s
  | none => s

def execChannelGrant (n : SupplyNo) (s : State) : Host.Outcome State Fault Refusal := .next (takeGrant n s)

/-- R49, R50, R51: the channel or the queue place is released, the sync channel becomes none and the sync timer
stops. -/
def leaveSync (n : SupplyNo) (t : Transfer) (s : State) : State :=
  modSlot n (fun t => { t with syncChannel := none, syncTimer := none }) (releaseChannel t.ticket s)

/-- R49: XFR takes the in-step report of a supply's transfer. -/
def takeInStep (n : SupplyNo) (t : Transfer) (s : State) : State :=
  let s1 := leaveSync n t s
  if targetRecheck s1 n t then enterParallelClose n s1 else endTransfer n .noTarget s1

/-- R49: an in-step report is acted on for the transfer in SYNC that its channel serves. -/
def inStep (c : SyncNo) (s : State) : State :=
  match (s.sync c).state, (s.sync c).supply with
  | .inStep, some n =>
    match inPhase s n .sync with
    | some t => if (s.sync c).ticket == some t.ticket then takeInStep n t s else s
    | none => s
  | _, _ => s

def execInStepReport (c : SyncNo) (s : State) : Host.Outcome State Fault Refusal := .next (inStep c s)

/-- R50: whether a transfer falls back to a break at its sync timeout. -/
def fallsBack (t : Transfer) (showHold : Bool) : Bool :=
  t.modeReq == .auto && (!showHold || t.priority == 7)

/-- R50: the sync timer runs out. -/
def syncTimeout (n : SupplyNo) (s : State) : State :=
  match inPhases s n .syncWait .sync with
  | some t =>
    match t.syncTimer with
    | some due =>
      let s1 := leaveSync n t (advanceToMs due s)
      if fallsBack t (s.supply n).showHold then enterOpening n (modSlot n (fun t => { t with mode := .break }) s1)
      else endTransfer n .syncTimeout s1
    | none => s
  | none => s

def execSyncTimeout (n : SupplyNo) (s : State) : Host.Outcome State Fault Refusal := .next (syncTimeout n s)

/-- R51: a transfer in SYNC_WAIT or SYNC is converted to a break. -/
def convertToBreak (n : SupplyNo) (t : Transfer) (s : State) : State :=
  enterOpening n
    (modSlot n (fun t => { t with mode := .break, priority := 7, originTripped := true }) (leaveSync n t s))

/-- R51, R58, R59: XFR's handling of a trip of input `x`, by the phase. -/
def handleTrip (n : SupplyNo) (t : Transfer) (x : Input) (s : State) : State :=
  match t.phase with
  | .syncWait | .sync => if t.origin == some x then convertToBreak n t s else s
  | .parallelClose | .parallelOpen | .opening =>
    if t.origin == some x then modSlot n (fun t => { t with originTripped := true }) s else s
  | .settle => if t.target == x then endTransfer n .doneUnstable s else s
  | .dead | .closing | .reclose => s

/-- R59: XFR takes SUP's trip report (log entry 15). -/
def takeTripReport (n : SupplyNo) (s : State) : State :=
  match inFlight s n with
  | some t =>
    match t.tripReport with
    | some x => handleTrip n t x (modSlot n (fun t => { t with tripReport := none }) s)
    | none => s
  | none => s

def execTripReport (n : SupplyNo) (s : State) : Host.Outcome State Fault Refusal := .next (takeTripReport n s)

/-! ## Confirmations (R52 to R57) -/

/-- R54: after the origin-open confirmation in OPENING, by the first row that applies. -/
def afterOpening (n : SupplyNo) (t : Transfer) (s : State) : State :=
  if t.abortRequested then
    if t.originTripped then endTransfer n .aborted s else enterReclose n .aborted s
  else if t.originTripped then
    if targetRecheck s n t then enterClosing n s else endTransfer n .noTarget s
  else if (s.supply n).timing.deadTime = 0 then
    if targetRecheck s n t then enterClosing n s else enterReclose n .noTarget s
  else enterDead n s

/-- R53: the origin-open confirmation in PARALLEL_OPEN. -/
def originOpened (n : SupplyNo) (t : Transfer) (s : State) : State :=
  if t.overlapExpired then feedFrom n none none s
  else enterSettle n (feedFrom n (some t.target) (some t.targetSource) s)

/-- R52 to R57: SUP's report of a confirmed change of input `x`, by the phase of the transfer in flight. -/
def confirmed (n : SupplyNo) (x : Input) (closed : Bool) (s : State) : State :=
  match inFlight s n with
  | some t =>
    match t.phase, closed with
    | .parallelClose, true => if t.target == x then enterParallelOpen n s else s
    | .parallelOpen, false =>
      if t.origin == some x then originOpened n t s
      else if t.target == x && t.overlapExpired then endTransfer n .failOpen s
      else s
    | .opening, false => if t.origin == some x then afterOpening n t (feedFrom n none none s) else s
    | .closing, true =>
      if t.target == x then enterSettle n (feedFrom n (some x) (some t.targetSource) s) else s
    | .reclose, true =>
      if t.origin == some x then endTransfer n (t.pendingResult.getD .aborted) (feedFrom n (some x) t.originSource s)
      else s
    | _, _ => s
  | none => s

/-- R56: the confirm timeout of the target close in CLOSING. -/
def closingTimedOut (n : SupplyNo) (t : Transfer) (s : State) : State :=
  let s1 := markFaulted n t.target .toClose s
  if t.origin.isSome && !t.originTripped then enterReclose n .failClose s1 else endTransfer n .failClose s1

/-- R52 to R57: SUP's report of a confirm timeout of input `x`, by the phase of the transfer in flight (log entry 13
for the origin in PARALLEL_OPEN). -/
def timedOut (n : SupplyNo) (x : Input) (dir : Dir) (s : State) : State :=
  match inFlight s n with
  | some t =>
    match t.phase, dir with
    | .parallelClose, .toClose =>
      if t.target == x then endTransfer n .failClose (markFaulted n x dir s) else s
    | .parallelOpen, .toOpen => if t.target == x && t.overlapExpired then endBoth n x s else s
    | .opening, .toOpen => if t.origin == some x then endTransfer n .failOpen (markFaulted n x dir s) else s
    | .closing, .toClose => if t.target == x then closingTimedOut n t s else s
    | .reclose, .toClose => if t.origin == some x then endBoth n x (markFaulted n x dir s) else s
    | _, _ => s
  | none => s

/-! ## Phase timers (R53, R55, R58) -/

/-- R53: the overlap limit runs out. -/
def overlapExpiry (n : SupplyNo) (s : State) : State :=
  match inPhase s n .parallelOpen with
  | some t =>
    match t.phaseTimer, t.origin with
    | some due, some x =>
      startPulse n t.target .toOpen false
        (markFaulted n x .toOpen
          (modSlot n (fun t => { t with overlapExpired := true, phaseTimer := none }) (advanceToMs due s)))
    | _, _ => s
  | none => s

def execOverlapExpiry (n : SupplyNo) (s : State) : Host.Outcome State Fault Refusal := .next (overlapExpiry n s)

/-- R55: the dead time runs out. -/
def deadTimeExpiry (n : SupplyNo) (s : State) : State :=
  match inPhase s n .dead with
  | some t =>
    match t.phaseTimer with
    | some due =>
      let s1 := advanceToMs due s
      if targetRecheck s1 n t then enterClosing n s1 else enterReclose n .noTarget s1
    | none => s
  | none => s

def execDeadTimeExpiry (n : SupplyNo) (s : State) : Host.Outcome State Fault Refusal := .next (deadTimeExpiry n s)

/-- R58: the settle time runs out. -/
def settleTimeExpiry (n : SupplyNo) (s : State) : State :=
  match inPhase s n .settle with
  | some t =>
    match t.phaseTimer with
    | some due => endTransfer n (if t.excursion then .doneUnstable else .done) (advanceToMs due s)
    | none => s
  | none => s

def execSettleTimeExpiry (n : SupplyNo) (s : State) : Host.Outcome State Fault Refusal := .next (settleTimeExpiry n s)

/-! ## ABORT TRANSFER (R61) -/

/-- R61 case 4: the originating station, or a CONSOLE station. -/
def mayAbort (t : Transfer) (n : StationNo) (st : Station) : Bool :=
  st.role == .console || t.originator == .station n false

/-- R61 case 5: the effect and the answer by the phase. -/
def abortEffect (n : SupplyNo) (t : Transfer) (s : State) : Done :=
  match t.phase with
  | .syncWait | .sync => ⟨endTransfer n .aborted s, .ok, .empty⟩
  | .opening => ⟨modSlot n (fun t => { t with abortRequested := true }) s, .ok, .empty⟩
  | .dead => ⟨enterReclose n .aborted s, .ok, .empty⟩
  | .parallelClose | .parallelOpen | .closing | .reclose | .settle => refuse .late s

/-- R61, ABORT TRANSFER. -/
def ownerAbort (supply ticket : Nat) (m : StationNo) (st : Station) (s : State) : Done :=
  match number? 12 supply with
  | none => refuse .range s
  | some n =>
    if ticket = 0 then refuse .range s
    else if !(s.supply n).defined then refuse .unknown s
    else
      match inFlight s n with
      | none => refuse .state s
      | some t =>
        if t.ticket ≠ ticket then refuse .state s
        else if mayAbort t m st then abortEffect n t s
        else refuse .denied s

def execAbortTransfer (rq : Request) (supply ticket : Nat) (s : State) : Host.Outcome State Fault Refusal :=
  .next (request rq kindAbortTransfer (ownSupply supply) (ownerAbort supply ticket) s)

/-! ## READ TRANSFER (R64, R74) -/

/-- The time left on a timer. -/
def timeLeft (s : State) (timer : Option Nat) : Option Nat := timer.map fun due => due - s.ms

/-- R74: the channel that a transfer in SYNC reads of. -/
def channelRead (s : State) (t : Transfer) : Option SyncChan :=
  if t.result == none && t.phase == .sync then t.syncChannel.map s.sync else none

/-- R74: the queue position that a transfer in SYNC_WAIT reads of. Between SYN's grant at a release and XFR's
CHANNEL_GRANT the slot is still in SYNC_WAIT and the queue no longer holds its entry: it reads no position and no
channel (DESIGN CHOICE, log entry 14). -/
def positionRead (s : State) (t : Transfer) : Option Nat :=
  if t.result == none && t.phase == .syncWait then queuePosition s t.ticket else none

/-- R64, READ TRANSFER. -/
def ownerReadTransfer (supply : Nat) (_ : StationNo) (_ : Station) (s : State) : Done :=
  match number? 12 supply with
  | none => refuse .range s
  | some n =>
    match s.slot n with
    | none => refuse .unknown s
    | some t =>
      ⟨s, .ok, .slot n t (timeLeft s t.phaseTimer) (timeLeft s t.syncTimer) (positionRead s t) (channelRead s t)⟩

/-- R64: taken from stations of every role, whichever supply is named (log entry 37). -/
def execReadTransfer (rq : Request) (supply : Nat) (s : State) : Host.Outcome State Fault Refusal :=
  .next (request rq kindReadTransfer anyObject (ownerReadTransfer supply) s)

/-! ## SET SYNC LIMITS (R73) -/

/-- R73: a carried setting is none, or lies in its range. -/
def settingOk (low high : Nat) : Option Nat → Bool
  | none => true
  | some v => low ≤ v && v ≤ high

/-- R73: the settings after a request. -/
def newLimits (slip phase volts timeout : Option Nat) (l : SyncLimits) : SyncLimits :=
  { slip := slip.getD l.slip, phase := phase.getD l.phase, volts := volts.getD l.volts,
    timeout := timeout.getD l.timeout }

/-- R73: a limit of the in-step test differs. -/
def limitsDiffer (l m : SyncLimits) : Bool := l.slip != m.slip || l.phase != m.phase || l.volts != m.volts

/-- R73: every MEASURING channel sets its run to 0. -/
def resetRuns (s : State) : State :=
  { s with syn := { s.syn with channels := tab fun c =>
      if (s.sync c).state == .measuring then { s.sync c with run := 0 } else s.sync c } }

/-- R73, SET SYNC LIMITS. -/
def ownerSetLimits (slip phase volts timeout : Option Nat) (_ : StationNo) (_ : Station) (s : State) : Done :=
  if settingOk 50 500 slip && settingOk 20 200 phase && settingOk 10 100 volts && settingOk 5 120 timeout then
    let l := newLimits slip phase volts timeout s.syn.limits
    ⟨setLimits l (if limitsDiffer s.syn.limits l then resetRuns s else s), .ok, .limits l⟩
  else refuse .range s

def execSetSyncLimits (rq : Request) (slip phase volts timeout : Option Nat) (s : State) :
    Host.Outcome State Fault Refusal :=
  .next (request rq kindSetSyncLimits anyObject (ownerSetLimits slip phase volts timeout) s)

end Sys2Proof.Machine
end

