-- ==== Sys2Proof/Machine/Supplies.lean ====
section
/-! DEFINITION. Machine/Supplies.lean: SUP's requests (R21, R22, R33, R34, R37), its panel lines (R23 to R28, R38) and
their timers. -/

namespace Sys2Proof.Machine

/-! ## DEFINE SUPPLY (R21, R22) -/

/-- What a DEFINE SUPPLY in range writes. -/
structure SupplyFields where
  sources : Abc (Option SourceNo)
  home : Option Input
  autoRestore : Bool
  returnHome : Bool
  timing : Timing
  deriving DecidableEq, Repr

/-- A setting that a request carries, or its default, in its range. -/
def setting (low high default : Nat) (carried : Option Nat) : Option Nat :=
  let v := carried.getD default
  if low ≤ v ∧ v ≤ high then some v else none

/-- R21 check 1: the timing settings. -/
def timingFields (q : TimingReq) : Option Timing :=
  match setting 0 10000 Config.deadTime q.deadTime, setting 100 2000 Config.confirmTime q.confirm,
    setting 100 2000 Config.tripConfirm q.tripConfirm, setting 40 500 Config.overlapLimit q.overlap,
    setting 2 30 Config.settleTime q.settleTime, setting 200 5000 Config.settleWindow q.settleWindow with
  | some d, some c, some t, some o, some st, some w =>
    some { deadTime := d, confirm := c, tripConfirm := t, overlap := o, settleTime := st, settleWindow := w }
  | _, _, _, _, _, _ => none

/-- A source that an input carries, or none. -/
def sourceField : Option Nat → Option (Option SourceNo)
  | none => some none
  | some k => (number? 16 k).map some

/-- R21 check 1: the three assigned sources. -/
def sourceFields (q : Abc (Option Nat)) : Option (Abc (Option SourceNo)) :=
  match sourceField q.a, sourceField q.b, sourceField q.c with
  | some a, some b, some c => some ⟨a, b, c⟩
  | _, _, _ => none

/-- R21 check 1: the home input, an input that carries a source, or none. -/
def homeField (sources : Abc (Option SourceNo)) : Option Nat → Option (Option Input)
  | none => some none
  | some k => (inputOf? k).bind fun x => if (sources.get x).isSome then some (some x) else none

/-- R21 check 1: every field of a definition in range. -/
def supplyFields (sources : Abc (Option Nat)) (home : Option Nat) (autoRestore returnHome : Bool)
    (timing : TimingReq) : Option SupplyFields :=
  match sourceFields sources, timingFields timing with
  | some q, some t =>
    (homeField q home).map fun h =>
      { sources := q, home := h, autoRestore := autoRestore, returnHome := returnHome, timing := t }
  | _, _ => none

/-- R21 check 3: one source on two inputs. -/
def doubled (q : Abc (Option SourceNo)) : Bool :=
  (q.a.isSome && (q.a == q.b || q.a == q.c)) || (q.b.isSome && q.b == q.c)

/-- R21 check 4 for one input: aux-closed, and its source would change, or would be left as none. -/
def closedChanges (r : InputRec) (q : Option SourceNo) : Bool :=
  r.aux && if r.source.isSome then q != r.source else q == none

/-- R21 checks 2 to 4. -/
def defineRefusal (n : SupplyNo) (f : SupplyFields) (s : State) : Option Status :=
  if (s.supply n).state == .transfer then some .busy
  else if doubled f.sources then some .state
  else if allInputs.any fun x => closedChanges (s.input n x) (f.sources.get x) then some .state
  else none

/-- R22: every carried field, written. -/
def writeFields (f : SupplyFields) (r : Supply) : Supply :=
  { r with
    defined := true, home := f.home, autoRestore := f.autoRestore, returnHome := f.returnHome, timing := f.timing,
    inputs := { a := { r.inputs.a with source := f.sources.a }, b := { r.inputs.b with source := f.sources.b },
                c := { r.inputs.c with source := f.sources.c } } }

/-- R22: what follows the writing: a first definition derives; a redefinition that newly sets auto-restore may ask to be
restored; one that leaves it clear clears restore waiting. -/
def afterDefine (n : SupplyNo) (before : Supply) (s : State) : State :=
  if !before.defined then derive n s
  else if !(s.supply n).autoRestore then clearWaiting n s
  else if !before.autoRestore && ((s.supply n).state == .dark || (s.supply n).state == .tripped) then restoreIfSet n s
  else s

/-- R21, R22, DEFINE SUPPLY. -/
def ownerDefineSupply (supply : Nat) (fields : Option SupplyFields) (_ : StationNo) (_ : Station) (s : State) : Done :=
  match number? 12 supply, fields with
  | some n, some f =>
    match defineRefusal n f s with
    | some e => refuse e s
    | none => ⟨afterDefine n (s.supply n) (modSupply n (writeFields f) s), .ok, .empty⟩
  | _, _ => refuse .range s

def execDefineSupply (rq : Request) (supply : Nat) (sources : Abc (Option Nat)) (home : Option Nat)
    (autoRestore returnHome : Bool) (timing : TimingReq) (s : State) : Host.Outcome State Fault Refusal :=
  .next (request rq kindDefineSupply anyObject
    (ownerDefineSupply supply (supplyFields sources home autoRestore returnHome timing)) s)

/-! ## Sense lines (R23, R27, R28) -/

/-- R23: the period measured at a crossing at `time`. -/
def periodAt (r : InputRec) (time : Nat) : Nat :=
  match r.lastCrossing with
  | some t => min 65535 (time - t)
  | none => 65535

/-- R23: absent since, after voltage-present has become `now` at millisecond reading `ms`. -/
def absentAfter (r : InputRec) (now : Bool) (ms : Nat) : Option Nat :=
  if now then none else if r.voltage then some ms else r.absentSince

/-- R23: an input after a crossing at `time` (in microseconds). -/
def crossed (time : Nat) (r : InputRec) : InputRec :=
  let p := periodAt r time
  { r with lastCrossing := some time, period := some p, voltage := qualified p,
           absentSince := absentAfter r (qualified p) (time / 1000) }

/-- R58: a frequency outside the settle window. -/
def outsideWindow (window freq : Nat) : Bool := freq < 50000 - window || 50000 + window < freq

/-- R58: whether an input as it now stands is an excursion, its voltage-present having been `before`. -/
def isExcursion (window : Nat) (before : Bool) (r : InputRec) : Bool :=
  match inputFreq r with
  | some f => outsideWindow window f
  | none => before

/-- R58: the settle excursion is set where the input is the target of a transfer in SETTLE. -/
def watchSettle (n : SupplyNo) (x : Input) (before : Bool) (s : State) : State :=
  match inPhase s n .settle with
  | some t =>
    if t.target == x && isExcursion (s.supply n).timing.settleWindow before (s.input n x) then
      modSlot n (fun t => { t with excursion := true }) s
    else s
  | none => s

/-- R28: a TRIPPED supply whose closed input has regained voltage. -/
def restored (n : SupplyNo) (x : Input) (s : State) : State :=
  let i := (s.input n x).source
  logAppend .supplyRestored (num n) (some (inputCode x)) (i.map numberOf)
    (clearWaiting n (derived n .live (some x) i s))

/-- R28, R36: what SUP does when an input gains voltage. -/
def gained (n : SupplyNo) (x : Input) (s : State) : State :=
  let r := s.supply n
  if r.state == .tripped && r.closed == some x then restored n x s
  else
    match (s.input n x).source with
    | some i => if available (s.source i) && restoresOnto s i n && retryInput s n x then restoreRequest n s else s
    | none => s

/-- R23: a crossing at the present reading, taken by SUP, SYN (R69) and XFR (R58). -/
def senseCrossing (n : SupplyNo) (x : Input) (s : State) : State :=
  let before := s.input n x
  let s1 := syncCrossing n x s.now (periodAt before s.now) (modInput n x (crossed s.now) s)
  if (s.supply n).defined then
    let s2 := watchSettle n x before.voltage s1
    if !before.voltage && (s1.input n x).voltage then gained n x s2 else s2
  else s1

def execSenseCrossing (n : SupplyNo) (x : Input) (t : Nat) (s : State) : Host.Outcome State Fault Refusal :=
  .next (senseCrossing n x (advanceTo t s))

/-- R23: an input without voltage from millisecond reading `ms`, its period kept. -/
def lostVoltage (ms : Nat) (r : InputRec) : InputRec := { r with voltage := false, absentSince := some ms }

/-- R23: 60 ms without a crossing. With voltage-present already no, nothing changes. -/
def voltageLoss (n : SupplyNo) (x : Input) (s : State) : State :=
  match (s.input n x).voltage, (s.input n x).lastCrossing with
  | true, some c =>
    let s1 := advanceTo (c + Config.voltageLossMs * 1000) s
    watchSettle n x true (modInput n x (lostVoltage s1.ms) s1)
  | _, _ => s

def execVoltageLossTimeout (n : SupplyNo) (x : Input) (s : State) : Host.Outcome State Fault Refusal :=
  .next (voltageLoss n x s)

/-- R27, R29: the reading at which the trip confirm time of an input without voltage runs out, by the setting in force
as the expiry is taken: where a DEFINE SUPPLY changes the setting during the watch, the manual is silent (DESIGN CHOICE,
log entry 39). -/
def tripAt (s : State) (n : SupplyNo) (x : Input) : Option Nat :=
  if (s.input n x).voltage then none else (s.input n x).absentSince.map fun t => t + (s.supply n).timing.tripConfirm

/-- R27: a LIVE supply is tripped. -/
def tripLive (n : SupplyNo) (x : Input) (s : State) : State :=
  restoreIfSet n (reportTrip n x (derived n .tripped (some x) none s))

/-- R29: a trip in TRANSFER: the source of record becomes none, and XFR is told. -/
def tripInTransfer (n : SupplyNo) (x : Input) (s : State) : State :=
  modSlot n (fun t => { t with tripReport := some x })
    (reportTrip n x (modSupply n (fun r => { r with record := none }) s))

/-- R27, R29: the input whose trip watch runs: the closed input of a LIVE supply, the feeding input of one in
TRANSFER. -/
def watchedInput (s : State) (n : SupplyNo) : Option Input :=
  match (s.supply n).state with
  | .live => (s.supply n).closed
  | .transfer => feedingInput s n
  | _ => none

/-- R27, R29: the trip confirm time runs out. -/
def supplyTrip (n : SupplyNo) (s : State) : State :=
  match watchedInput s n with
  | some x =>
    match tripAt s n x with
    | some due =>
      let s1 := advanceToMs due s
      if (s.supply n).state == .live then tripLive n x s1 else tripInTransfer n x s1
    | none => s
  | none => s

def execSupplyTrip (n : SupplyNo) (s : State) : Host.Outcome State Fault Refusal := .next (supplyTrip n s)

/-! ## Contactors (R24, R25, R38) -/

/-- R24: whether a window is open for a change to `closed`. -/
def windowMatches (closed : Bool) (w : Window) : Bool :=
  match w.dir with
  | .toClose => closed
  | .toOpen => !closed

def closeWindow (n : SupplyNo) (x : Input) (s : State) : State := modInput n x (fun r => { r with window := none }) s

/-- R24: a qualified change judged against the pulses of the part. `w` is the window open on the input. -/
def judgeChange (n : SupplyNo) (x : Input) (closed : Bool) (w : Option Window) (s : State) : State :=
  match w with
  | some w =>
    if windowMatches closed w then
      if w.restart then derive n (closeWindow n x s) else confirmed n x closed (closeWindow n x s)
    else uncommanded n x closed s
  | none => uncommanded n x closed s

/-- R24: an aux-closed line is taken as changed. On an undefined supply it is only read (R20). -/
def auxChange (n : SupplyNo) (x : Input) (closed : Bool) (s : State) : State :=
  if (s.input n x).aux == closed then s
  else
    let s1 := modInput n x (fun r => { r with aux := closed }) s
    if (s.supply n).defined then judgeChange n x closed (s.input n x).window s1 else s1

def execAuxChange (n : SupplyNo) (x : Input) (closed : Bool) (t : Nat) (s : State) : Host.Outcome State Fault Refusal :=
  .next (auxChange n x closed (advanceTo t s))

/-- R38: the confirm timeout of a restart open. R38 names the stations told; the cause carries the supply and the target
input (DESIGN CHOICE, log entry 12). -/
def restartTimedOut (n : SupplyNo) (x : Input) (dir : Dir) (s : State) : State :=
  raise (.transferFault n (some x)) (toConsoleAndStage n) (markFaulted n x dir s)

/-- R25, R38: a confirm window reaches its end. -/
def confirmTimeout (n : SupplyNo) (x : Input) (s : State) : State :=
  match (s.input n x).window with
  | some w =>
    let s1 := closeWindow n x (advanceToMs w.ends s)
    if w.restart then restartTimedOut n x w.dir s1 else timedOut n x w.dir s1
  | none => s

def execConfirmTimeout (n : SupplyNo) (x : Input) (s : State) : Host.Outcome State Fault Refusal :=
  .next (confirmTimeout n x s)

/-- R25: a pulse output is released at the end of its 100 ms. -/
def pulseEnd (n : SupplyNo) (x : Input) (dir : Dir) (s : State) : State :=
  match dir with
  | .toClose =>
    match (s.input n x).closePulse with
    | some due => modInput n x (fun r => { r with closePulse := none }) (advanceToMs due s)
    | none => s
  | .toOpen =>
    match (s.input n x).openPulse with
    | some due => modInput n x (fun r => { r with openPulse := none }) (advanceToMs due s)
    | none => s

def execPulseEnd (n : SupplyNo) (x : Input) (dir : Dir) (s : State) : Host.Outcome State Fault Refusal :=
  .next (pulseEnd n x dir s)

/-! ## CLEAR FAULT (R33) -/

/-- R33: FAULTED cleared on all three inputs. -/
def clearFaulted (n : SupplyNo) (s : State) : State :=
  modSupply n (fun r => { r with inputs := r.inputs.map fun i => { i with faulted := false } }) s

/-- R33: a panel that cannot be resolved. -/
def unresolved (s : State) (n : SupplyNo) : Bool :=
  match closedInputs s n with
  | [] => false
  | [x] => (s.input n x).source == none
  | _ => true

/-- R33, CLEAR FAULT. -/
def ownerClearFault (supply : Nat) (_ : StationNo) (_ : Station) (s : State) : Done :=
  match number? 12 supply with
  | none => refuse .range s
  | some n =>
    if !(s.supply n).defined then refuse .unknown s
    else if (s.supply n).state == .transfer then refuse .state s
    else if unresolved s n then refuse .state s
    else ⟨derive n (clearFaulted n s), .ok, .empty⟩

def execClearFault (rq : Request) (supply : Nat) (s : State) : Host.Outcome State Fault Refusal :=
  .next (request rq kindClearFault anyObject (ownerClearFault supply) s)

/-! ## Show hold (R34) -/

/-- R34: the show hold of every defined supply. -/
def showHoldAll (value : Bool) (s : State) : State :=
  { s with sup := tab fun n => if (s.supply n).defined then { s.supply n with showHold := value } else s.supply n }

/-- R34; supply 0 names all (R167). -/
def ownerShowHold (value : Bool) (supply : Nat) (_ : StationNo) (_ : Station) (s : State) : Done :=
  if supply = 0 then ⟨showHoldAll value s, .ok, .empty⟩
  else
    match number? 12 supply with
    | none => refuse .range s
    | some n =>
      if (s.supply n).defined then ⟨modSupply n (fun r => { r with showHold := value }) s, .ok, .empty⟩
      else refuse .unknown s

/-- R34: SET SHOW HOLD by request, or by broadcast for all (R153). -/
def execSetShowHold (rq : Request) (isBroadcast : Bool) (supply : Nat) (s : State) : Host.Outcome State Fault Refusal :=
  .next (if isBroadcast then broadcast rq kindSetShowHold (supply == 0) (showHoldAll true) s
    else request rq kindSetShowHold (ownSupplyNotAll supply) (ownerShowHold true supply) s)

def execClearShowHold (rq : Request) (supply : Nat) (s : State) : Host.Outcome State Fault Refusal :=
  .next (request rq kindClearShowHold (ownSupplyNotAll supply) (ownerShowHold false supply) s)

/-! ## READ SUPPLY (R37) -/

/-- R37: the line readings of an input. The manual does not list them; the fields of R20 that follow the lines, and the
frequency of R23, are taken (DESIGN CHOICE, log entry 40). -/
def lineReading (r : InputRec) : LineReading :=
  { aux := r.aux, voltage := r.voltage, period := r.period, absentSince := r.absentSince, freq := inputFreq r }

/-- R37, READ SUPPLY. R37 gives an UNDEFINED supply's reply the state and the line readings, and says of the status word
that READ SUPPLY also returns it, not for which supplies: the reply for an UNDEFINED one has no status word (DESIGN CHOICE,
log entry 40). -/
def ownerReadSupply (supply : Nat) (_ : StationNo) (_ : Station) (s : State) : Done :=
  match number? 12 supply with
  | none => refuse .range s
  | some n =>
    let r := s.supply n
    ⟨s, .ok, if r.defined then .supply r (supplyDemand s n) (r.inputs.map inputFreq) (supplyWord r)
      else .undefinedSupply (r.inputs.map lineReading)⟩

def execReadSupply (rq : Request) (supply : Nat) (s : State) : Host.Outcome State Fault Refusal :=
  .next (request rq kindReadSupply (ownSupply supply) (ownerReadSupply supply) s)

end Sys2Proof.Machine
end

