-- ==== Sys2Proof/Machine/Link.lean ====
section
/-! DEFINITION. Machine/Link.lean: LNK's checks of a frame, its discards and its sent replies (R151, R152), its port
settings (R154, R155) and a request of a kind that chapter 12 does not list (R157, R167). -/

namespace Sys2Proof.Machine

/-! ## The CRC (R151) -/

/-- One bit of the CRC: the register shifted left, with x^12 + x^5 + 1 added where bit 15 leaves it. -/
def crcBit (r : BitVec 16) : BitVec 16 := if r.msb then (r <<< 1) ^^^ 0x1021#16 else r <<< 1

/-- One character, most significant bit first. -/
def crcByte (r : BitVec 16) (c : Byte) : BitVec 16 :=
  crcBit (crcBit (crcBit (crcBit (crcBit (crcBit (crcBit (crcBit (r ^^^ (c.setWidth 16 <<< 8)))))))))

/-- R151: x^16 + x^12 + x^5 + 1, from 0xFFFF, not inverted at the end. -/
def crc (cs : List Byte) : BitVec 16 := cs.foldl crcByte 0xFFFF#16

/-! ## Assembly (R151) -/

def setRx (p : PortNo) (rx : Rx) (s : State) : State := modPort p (fun r => { r with rx := rx }) s

/-- R151: the frame is discarded with one flag, and the port waits for a quiet line. -/
def discardFrame (p : PortNo) (f : PortFlag) (s : State) : State := setPortFlag p f (setRx p .waitingQuiet s)

/-- R151: the frame in the characters from the destination to the CRC, when they are complete. -/
inductive Assembly where
  | more
  | tooLong
  | badCrc
  | sound (f : Frame)
  deriving DecidableEq, Repr

/-- R151: whether a complete frame's CRC matches. -/
def checkFrame (got : List Byte) (f : Frame) : Assembly :=
  match got.drop (4 + f.payload.length) with
  | [h, l] => if crc (got.take (4 + f.payload.length)) = h ++ l then .sound f else .badCrc
  | _ => .more

/-- R151: what the characters so far amount to. -/
def assemble (got : List Byte) : Assembly :=
  match got with
  | dest :: src :: kind :: len :: rest =>
    if 200 < len.toNat then .tooLong
    else if rest.length < len.toNat + 2 then .more
    else checkFrame got { dest := dest, src := src, kind := kind, payload := rest.take len.toNat }
  | _ => .more

/-- R151: a gap of more than 2 character times inside a frame. -/
def characterGap (p : PortNo) (s : State) : State :=
  if !enabled s p then s
  else match (s.port p).rx with
  | .assembling _ => discardFrame p .runt s
  | _ => s

def execCharacterGapTimeout (p : PortNo) (t : Nat) (s : State) : Host.Outcome State Fault Refusal :=
  .next (characterGap p (advanceTo t s))

/-- R151: the line has been quiet after a discard. -/
def lineQuiet (p : PortNo) (s : State) : State :=
  match (s.port p).rx with
  | .waitingQuiet => setRx p .hunting s
  | _ => s

def execLineQuiet (p : PortNo) (t : Nat) (s : State) : Host.Outcome State Fault Refusal :=
  .next (lineQuiet p (advanceTo t s))

/-! ## Replies and restarts of ports (R152, R154) -/

/-- R154: a port restarted. -/
def restartedPort (r : Port) : Port :=
  { r with current := r.pending, flags := PortFlags.clear, buffer := none, rx := .hunting, restartWaits := false }

/-- R154: the named port is restarted, or waits until its own reply has been sent. -/
def restartNamed (q : PortNo) (s : State) : State :=
  if (s.port q).serving then modPort q (fun r => { r with restartWaits := true }) s else modPort q restartedPort s

/-- R152: the port's reply has been sent. -/
def servedPort (r : Port) : Port :=
  { r with serving := false, buffer := none, reply := none, rx := .hunting, restartNext := none }

/-- R154: the restart that waited for this port's reply. -/
def takeWaiting (p : PortNo) (waits : Bool) (s : State) : State := if waits then modPort p restartedPort s else s

/-- R154: the restart that the reply just sent was the answer to. -/
def takeNamed (q : Option PortNo) (s : State) : State :=
  match q with
  | some q => restartNamed q s
  | none => s

/-- R152, R154: the last character of a reply has been sent. -/
def replySent (p : PortNo) (s : State) : State :=
  let r := s.port p
  if r.reply.isSome then takeNamed r.restartNext (takeWaiting p r.restartWaits (modPort p servedPort s)) else s

def execReplySent (p : PortNo) (t : Nat) (s : State) : Host.Outcome State Fault Refusal :=
  .next (replySent p (advanceTo t s))

/-! ## Port requests (R154, R155) -/

/-- R154: the settings a SET PORT carries, in range. R154 does not name the enabled byte: above 1 it is answered RANGE with
the others (DESIGN CHOICE, log entry 47). -/
def portFields (rate address enabled : Nat) : Option PortSettings :=
  match rateOf? rate, flagOf? enabled with
  | some r, some e =>
    if 32 ≤ address ∧ address ≤ 47 then some { rate := r, address := address, enabled := e } else none
  | _, _ => none

/-- R154: a port that lists a CONSOLE station. -/
def listsConsole (s : State) (p : PortNo) : Bool :=
  (indices 32).any fun n => match s.station n with
    | some st => st.port == p && st.role == .console
    | none => false

/-- R154: no port that lists a CONSOLE station would stay enabled. -/
def silencesConsoles (p : PortNo) (f : PortSettings) (s : State) : Bool :=
  (indices 4).all fun q => !listsConsole s q || !(if q = p then f.enabled else (s.port q).pending.enabled)

/-- R154, SET PORT. -/
def ownerSetPort (port : Nat) (fields : Option PortSettings) (_ : StationNo) (_ : Station) (s : State) : Done :=
  match index? 4 port, fields with
  | some p, some f =>
    if silencesConsoles p f s then refuse .state s
    else ⟨modPort p (fun r => { r with pending := f }) s, .ok, .empty⟩
  | _, _ => refuse .range s

def execSetPort (rq : Request) (port rate address enabled : Nat) (s : State) : Host.Outcome State Fault Refusal :=
  .next (request rq kindSetPort anyObject (ownerSetPort port (portFields rate address enabled)) s)

/-- R154, RESTART PORT: the port `arrived`, on which the request came, remembers the named one until its reply has
been sent. -/
def ownerRestartPort (arrived : PortNo) (port : Nat) (_ : StationNo) (_ : Station) (s : State) : Done :=
  match index? 4 port with
  | some q => ⟨modPort arrived (fun r => { r with restartNext := some q }) s, .ok, .empty⟩
  | none => refuse .range s

def execRestartPort (rq : Request) (port : Nat) (s : State) : Host.Outcome State Fault Refusal :=
  .next (request rq kindRestartPort anyObject (ownerRestartPort rq.port port) s)

/-- R155, READ PORT. -/
def ownerReadPort (port : Nat) (_ : StationNo) (_ : Station) (s : State) : Done :=
  match index? 4 port with
  | some p =>
    let r := s.port p
    ⟨modPort p (fun r => { r with flags := PortFlags.clear }) s, .ok, .port r.current r.pending r.flags⟩
  | none => refuse .range s

def execReadPort (rq : Request) (port : Nat) (s : State) : Host.Outcome State Fault Refusal :=
  .next (request rq kindReadPort anyObject (ownerReadPort port) s)

/-! ## A kind that chapter 12 does not list (R157, R167) -/

/-- R152, R157 checks 1 and 2. -/
def badKind (rq : Request) (kind : Nat) (s : State) : State :=
  let s0 := advanceTo rq.t s
  if !enabled s0 rq.port then s0
  else if (s0.port rq.port).serving then setPortFlag rq.port .overrun s0
  else
    match stationAt s0 rq.port rq.addr with
    | none => answer rq kind none .denied .empty s0
    | some n => answer rq kind (some n) .badKind .empty (touch n s0)

/-- R167: only a kind below 0x80 that the table does not list is one (log entry 3). -/
def execUnlistedKind (rq : Request) (kind : Nat) (s : State) : Host.Outcome State Fault Refusal :=
  .next (if 0x80 ≤ kind || listedKind kind then s else badKind rq kind s)

end Sys2Proof.Machine
end

