-- ==== Sys2Proof/Machine/Frames.lean ====
section
/-! DEFINITION. Machine/Frames.lean: the request that a frame carries (R166, R167, R170). Field orders that chapter 12
does not give are DEDUCED (log entry 5). The bytes of a reply stand in Machine/Replies.lean. -/

namespace Sys2Proof.Machine

/-! ## Reading fields (R166) -/

/-- The byte at a position of a payload; positions past its end are not read by any request of the right length. -/
def u8 (pl : List Byte) (i : Nat) : Nat := (pl.getD i 0).toNat
def u16 (pl : List Byte) (i : Nat) : Nat := u8 pl i * 256 + u8 pl (i + 1)
def u24 (pl : List Byte) (i : Nat) : Nat := u16 pl i * 256 + u8 pl (i + 2)
def u32 (pl : List Byte) (i : Nat) : Nat := u16 pl i * 65536 + u16 pl (i + 2)

/-- R166: a field whose all-ones value is none. -/
def orNone (ones v : Nat) : Option Nat := if v = ones then none else some v
def opt8 (pl : List Byte) (i : Nat) : Option Nat := orNone 0xFF (u8 pl i)
def opt16 (pl : List Byte) (i : Nat) : Option Nat := orNone 0xFFFF (u16 pl i)
def bits8 (pl : List Byte) (i : Nat) : BitVec 8 := BitVec.ofNat 8 (u8 pl i)
def bits16 (pl : List Byte) (i : Nat) : BitVec 16 := BitVec.ofNat 16 (u16 pl i)
def bits32 (pl : List Byte) (i : Nat) : BitVec 32 := BitVec.ofNat 32 (u32 pl i)

/-- R170: DEFINE SUPPLY; auto-restore is bit 0 and return-home bit 1 of the flags. The manual says nothing of bits 2
to 7, which are ignored (DESIGN CHOICE, log entry 5). -/
def readDefineSupply (rq : Request) (pl : List Byte) : Instr :=
  .defineSupply rq (u8 pl 0) ⟨opt8 pl 1, opt8 pl 2, opt8 pl 3⟩ (opt8 pl 4) ((bits8 pl 5).getLsbD 0)
    ((bits8 pl 5).getLsbD 1)
    { deadTime := opt16 pl 6, confirm := opt16 pl 8, tripConfirm := opt16 pl 10, overlap := opt16 pl 12,
      settleTime := opt8 pl 14, settleWindow := opt16 pl 15 }

/-- R4: the fields in the order the rule lists them (log entry 5). -/
def readHireSource (rq : Request) (pl : List Byte) : Instr :=
  .hireSource rq (u8 pl 0) (u16 pl 1) ⟨u16 pl 3, u16 pl 5, u16 pl 7, u16 pl 9, u16 pl 11⟩ (u24 pl 13) (u8 pl 16)
    (u16 pl 17) (u8 pl 19)

/-- R138, R137: chapter 12 does not lay this payload out. R138 lists the notify mask before the supply and the priority,
R137's table of fields after them: the model reads them in the table's order, supply, priority, mask (DESIGN CHOICE, log
entry 5). -/
def readDefineWatch (rq : Request) (pl : List Byte) : Instr :=
  .defineWatch rq (u8 pl 0)
    { kind := opt8 pl 1, index := u8 pl 2, cond := u8 pl 3, threshold := bits32 pl 4, hysteresis := u32 pl 8,
      persistence := u16 pl 12, action := u8 pl 14, supply := u8 pl 15, priority := u8 pl 16, mask := bits8 pl 17 }

/-- R167: the request of a kind below 0x80, from its payload. -/
def readRequest (rq : Request) (kind : Nat) (pl : List Byte) : Instr :=
  match kind with
  | 0x01 => .ping rq
  | 0x02 => .takeHold rq
  | 0x03 => .releaseHold rq
  | 0x04 => .forceRelease rq
  | 0x05 => .enrolStation rq (u8 pl 0) (u8 pl 1) (u8 pl 2) (opt8 pl 3)
  | 0x06 => .removeStation rq (u8 pl 0)
  | 0x07 => .setEnables rq (bits16 pl 0)
  | 0x08 => .clearEnables rq (bits16 pl 0)
  | 0x09 => .clearCauses rq (bits16 pl 0)
  | 0x0A => .queryAttention rq
  | 0x0B => .readLog rq (u8 pl 0)
  | 0x0C => .seekLog rq (u8 pl 0)
  | 0x0D => .setTime rq false (u32 pl 0)
  | 0x0E => .setPort rq (u8 pl 0) (u8 pl 1) (u8 pl 2) (u8 pl 3)
  | 0x0F => .restartPort rq (u8 pl 0)
  | 0x10 => .readPort rq (u8 pl 0)
  | 0x20 => readHireSource rq pl
  | 0x21 => .offHireSource rq (u8 pl 0)
  | 0x22 => .sourceReport rq (u8 pl 0) (u8 pl 1) (u16 pl 2) (u16 pl 4) (u24 pl 6) (u16 pl 9) (bits8 pl 11)
  | 0x23 => .readSource rq (u8 pl 0)
  | 0x30 => readDefineSupply rq pl
  | 0x31 => .transfer rq (u8 pl 0) (u8 pl 1) (u8 pl 2) (u8 pl 3)
  | 0x32 => .abortTransfer rq (u8 pl 0) (u16 pl 1)
  | 0x33 => .setShowHold rq false (u8 pl 0)
  | 0x34 => .clearShowHold rq (u8 pl 0)
  | 0x35 => .clearFault rq (u8 pl 0)
  | 0x36 => .readSupply rq (u8 pl 0)
  | 0x37 => .readTransfer rq (u8 pl 0)
  | 0x38 => .setSyncLimits rq (opt16 pl 0) (opt8 pl 2) (opt8 pl 3) (opt8 pl 4)
  | 0x40 => .setTank rq (u8 pl 0) (u32 pl 1) (u32 pl 5) (u32 pl 9)
  | 0x41 => .setFuelPrice rq (u16 pl 0)
  | 0x42 => .armDelivery rq (u8 pl 0) (u32 pl 1) (u24 pl 5) (u32 pl 8) (opt8 pl 12) (opt8 pl 13) (opt8 pl 14)
  | 0x43 => .meterReading rq (u32 pl 0) (u32 pl 4)
  | 0x44 => .closeDelivery rq (u32 pl 0) (u32 pl 4)
  | 0x45 => .cancelDelivery rq (u32 pl 0)
  | 0x46 => .readTank rq (u8 pl 0)
  | 0x47 => .readDelivery rq (u8 pl 0)
  | 0x50 => .defineChannel rq (u8 pl 0) (opt8 pl 1) (opt8 pl 2) (u16 pl 3) (opt8 pl 5)
  | 0x51 => .defineAccount rq (u8 pl 0) (u8 pl 1) (u32 pl 2)
  | 0x52 => .removeAccount rq (u8 pl 0)
  | 0x53 => .setInterval rq (u8 pl 0)
  | 0x54 => .closePeriod rq
  | 0x55 => .releasePeriod rq
  | 0x56 => .readAccount rq (u8 pl 0) (u8 pl 1)
  | 0x57 => .readChannel rq (u8 pl 0)
  | 0x58 => .readSettlement rq
  | 0x60 => readDefineWatch rq pl
  | 0x61 => .armWatches rq (bits32 pl 0)
  | 0x62 => .disarmWatches rq (bits32 pl 0)
  | 0x63 => .readWatch rq (u8 pl 0)
  | _ => .unlistedKind rq kind

/-- The request that the frame in a port's buffer carries (R152), taken at reading `t`. -/
def frameCommand (p : PortNo) (t : Nat) (f : Frame) : Instr :=
  readRequest { port := p, addr := f.src.toNat, len := f.payload.length, t := t } f.kind.toNat f.payload

end Sys2Proof.Machine
end

