-- ==== Sys2Proof/Machine/Fuel.lean ====
section
/-! DEFINITION. Machine/Fuel.lean: TNK's requests (R77, R78, R86, R87), and DLV's requests, fill points and timers
(R91, R92, R96 to R107). -/

namespace Sys2Proof.Machine

/-! ## Tanks (R77, R78, R86, R87) -/

/-- R78: the book level before it is held at the capacity. -/
def bookFor (level : Nat) (k : Tank) : Nat := level + openBurn k

/-- R78: the tank as SET TANK writes it. -/
def setTankFields (capacity floor level : Nat) (k : Tank) : Tank :=
  { k with set := true, capacity := some capacity, floor := some floor,
           book := some (min capacity (bookFor level k)), dry := false, overfill := false, estimated := false }

/-- R77, R78, SET TANK. -/
def ownerSetTank (source capacity floor level : Nat) (_ : StationNo) (_ : Station) (s : State) : Done :=
  match number? 16 source with
  | none => refuse .range s
  | some i =>
    if capacity < 10 ∨ 200000 < capacity ∨ capacity < floor then refuse .range s
    else if (s.source i).state == .unlisted then refuse .unknown s
    else if (activeOn s i).isSome then refuse .busy s
    else
      let k := setTankFields capacity floor level (s.tank i)
      ⟨setTankRec i k s, .ok,
       .tankSet (min capacity (bookFor level (s.tank i))) ((levelNow k).getD 0)
        (decide (capacity < bookFor level (s.tank i)))⟩

def execSetTank (rq : Request) (source capacity floor level : Nat) (s : State) : Host.Outcome State Fault Refusal :=
  .next (request rq kindSetTank anyObject (ownerSetTank source capacity floor level) s)

/-- R86, SET FUEL PRICE; the field's two bytes hold 0 to 65,535. -/
def ownerSetPrice (price : Nat) (_ : StationNo) (_ : Station) (s : State) : Done :=
  if 65535 < price then refuse .range s else ⟨setPrice price s, .ok, .price s.tnk.price price⟩

def execSetFuelPrice (rq : Request) (price : Nat) (s : State) : Host.Outcome State Fault Refusal :=
  .next (request rq kindSetFuelPrice anyObject (ownerSetPrice price) s)

/-- R87: what READ TANK carries. The last load and load kind of an OFF_HIRE source stand as they are until the next tick
(log entry 41). The stale mark is the source's STALE also where the gauge level is none (DESIGN CHOICE, log entry
48). -/
def tankBody (s : State) (i : SourceNo) : Body :=
  let k := tankAsRead (s.tank i) (s.source i)
  .tank k (levelNow k) (gaugeLevel k (s.source i)) (s.source i).stale (tankVariance k (s.source i)) (minutesToDry k)
    (openBurn k) (k.acc % 3600) s.tnk.price

/-- R87, READ TANK. -/
def ownerReadTank (source : Nat) (_ : StationNo) (_ : Station) (s : State) : Done :=
  match number? 16 source with
  | none => refuse .range s
  | some i => if (s.source i).state == .unlisted then refuse .unknown s else ⟨s, .ok, tankBody s i⟩

def execReadTank (rq : Request) (source : Nat) (s : State) : Host.Outcome State Fault Refusal :=
  .next (request rq kindReadTank anyObject (ownerReadTank source) s)

/-! ## Arming (R91, R92) -/

/-- What ARM DELIVERY carries, in range (R91 check 1). -/
structure ArmFields where
  source : SourceNo
  reference : Nat
  expected : Nat
  register : Nat
  expiry : Nat
  finish : Nat
  tolerance : Nat
  deriving DecidableEq, Repr

/-- R91 check 1, with the defaults that none selects. -/
def armFields (source reference expected register : Nat) (expiry finish tolerance : Option Nat) : Option ArmFields :=
  let e := expiry.getD Config.armExpiry
  let f := finish.getD Config.finishTime
  let p := tolerance.getD Config.tolerance
  if expected ≤ 200000 ∧ 1 ≤ e ∧ e ≤ 60 ∧ 1 ≤ f ∧ f ≤ 30 ∧ p ≤ 100 then
    (number? 16 source).map fun i =>
      { source := i, reference := reference, expected := expected, register := register, expiry := e, finish := f,
        tolerance := p }
  else none

/-- The active delivery that carries a reference. -/
def activeReference (s : State) (reference : Nat) : Option SlotNo :=
  (indices 8).find? fun d => match s.delivery d with
    | some r => r.reference == some reference
    | none => false

/-- R91 checks 2 to 6: the slot of the new delivery, or the answer. -/
def armSlot (f : ArmFields) (s : State) : Except Status SlotNo :=
  if (activeOn s f.source).isSome then .error .busy
  else if (s.source f.source).state != .stopped && (s.source f.source).state != .running then .error .state
  else if !(s.tank f.source).set then .error .state
  else if (activeReference s f.reference).isSome then .error .state
  else
    match freeSlot s with
    | some d => .ok d
    | none => .error .full

/-- A delivery record with every optional field absent. -/
def blankDelivery (d : SlotNo) (i : SourceNo) (st : DeliveryState) (time : Nat) : Delivery :=
  { slot := d, reference := none, source := i, cold := false, state := st, unarmed := false, fillWhileLoaded := false,
    autoClosed := false, unchecked := false, expected := 0, armMinutes := Config.armExpiry,
    finishMinutes := Config.finishTime, tolerancePm := Config.tolerance, registerAtArm := 0, latestRegister := 0,
    gaugeAtOpen := none, gaugeAtClose := none, markAtOpen := none, markAtClose := none, metered := none,
    burnDuring := none, gaugeRise := none, variance := none, tolerance := none, credit := none, unloads := [],
    blockedReported := false, moved := [], armTime := some time, openTime := none, endTime := none, deadline := none,
    armTimer := none, finishTimer := none, surveyTimer := none }

/-- R91: the armed delivery. A cold one starts as waiting; the survey of R92 makes it ARMED where REFUEL is granted. -/
def armedDelivery (d : SlotNo) (f : ArmFields) (s : State) : Delivery :=
  let cold := !(hireOf (s.source f.source)).hot
  { blankDelivery d f.source (if cold then .waitingUnload else .armed) s.clock with
    reference := some f.reference, cold := cold, expected := f.expected, armMinutes := f.expiry,
    finishMinutes := f.finish, tolerancePm := f.tolerance, registerAtArm := f.register, latestRegister := f.register,
    deadline := some (s.clock + f.expiry * 60), armTimer := some (s.ms + f.expiry * 60000) }

/-- R92, cold refuel: the reservation (R10), the survey, and its timer where REFUEL is refused. -/
def startCold (d : SlotNo) (i : SourceNo) (s : State) : State :=
  let s1 := survey d (modSource i (fun r => { r with reservation := some d }) s)
  match s1.delivery d with
  | some r => if r.state == .waitingUnload then startSurveyTimer d s1 else s1
  | none => s1

/-- R91, R92: the delivery is made, and DELIVERY_ARMED logged once its starting state has followed. -/
def arm (d : SlotNo) (f : ArmFields) (s : State) : State :=
  let r := armedDelivery d f s
  let s1 := setDelivery d (some r) s
  logAppend .deliveryArmed (num f.source) (some f.reference) (some f.expected)
    (if r.cold then startCold d f.source s1 else s1)

/-- R91: the room in a tank. -/
def room (k : Tank) : Nat := k.capacity.getD 0 - (levelNow k).getD 0

/-- The state of the delivery in a slot. -/
def stateIn (s : State) (d : SlotNo) : DeliveryState :=
  match s.delivery d with
  | some r => r.state
  | none => .armed

/-- R91, ARM DELIVERY. -/
def ownerArmDelivery (fields : Option ArmFields) (_ : StationNo) (_ : Station) (s : State) : Done :=
  match fields with
  | none => refuse .range s
  | some f =>
    match armSlot f s with
    | .error e => refuse e s
    | .ok d =>
      let s1 := arm d f s
      ⟨s1, .ok, .armed d (stateIn s1 d) (room (s.tank f.source)) (decide (room (s.tank f.source) < f.expected))⟩

def execArmDelivery (rq : Request) (source reference expected register : Nat) (expiry finish tolerance : Option Nat)
    (s : State) : Host.Outcome State Fault Refusal :=
  .next (request rq kindArmDelivery anyObject
    (ownerArmDelivery (armFields source reference expected register expiry finish tolerance)) s)

/-- R92, R93: the unload survey timer runs out; it restarts while the delivery is unloading. -/
def surveyExpiry (d : SlotNo) (s : State) : State :=
  match s.delivery d with
  | some r =>
    match r.surveyTimer with
    | some due =>
      let s1 := advanceToMs due s
      if unloading s1 r then survey d (startSurveyTimer d s1)
      else modDelivery d (fun r => { r with surveyTimer := none }) s1
    | none => s
  | none => s

def execUnloadSurveyTimer (d : SlotNo) (s : State) : Host.Outcome State Fault Refusal := .next (surveyExpiry d s)

/-! ## Fill points (R90, R96, R97, R107) -/

/-- R96: the delivery opened, with TNK's gauge level and total-burn mark. The deadline of the arm expiry timer that
stops here is kept (DESIGN CHOICE, log entry 43). -/
def openRec (s : State) (r : Delivery) : Delivery :=
  { r with state := .opened, gaugeAtOpen := some (gaugeForDelivery s r.source),
           markAtOpen := some (s.tank r.source).mark, openTime := some s.clock, armTimer := none }

/-- R96: ARMED or WAITING_UNLOAD, and a fill begun while loaded. -/
def openDelivery (d : SlotNo) (r : Delivery) (loaded : Bool) (s : State) : State :=
  let s1 := logAppend .deliveryOpen (num r.source) r.reference (gaugeForDelivery s r.source)
    (modDelivery d (fun r => { openRec s r with fillWhileLoaded := r.fillWhileLoaded || loaded }) s)
  if loaded then raiseLoaded d s1 else s1

/-- R96: FILLED, open again; the survey timer is not started (log entry 17), and the deadline of the finish timer that
stops here is kept (DESIGN CHOICE, log entry 43). -/
def reopen (d : SlotNo) (s : State) : State :=
  modDelivery d (fun r => { r with state := .opened, finishTimer := none }) s

/-- R96: UNARMED_FILL is logged, with the slot where a record is made, and raised (log entry 27). -/
def reportUnarmed (i : SourceNo) (slot : Option SlotNo) (s : State) : State :=
  raise (.delivery i none .unarmed) toFuelAndConsole
    (logAppend .unarmedFill (num i) (gaugeForDelivery s i) (slot.map fun d => d.1) s)

/-- R96: an unarmed fill. -/
def unarmedFill (d : SlotNo) (i : SourceNo) (s : State) : State :=
  reportUnarmed i (some d)
    (setDelivery d (some { openRec s (blankDelivery d i .opened s.clock) with unarmed := true }) s)

/-- R96: a close with no active delivery on the source. -/
def closeUnarmed (i : SourceNo) (s : State) : State :=
  match (s.source i).state with
  | .stopped | .running =>
    match freeSlot s with
    | some d => unarmedFill d i s
    | none => reportUnarmed i none s
  | .offHire => reportUnarmed i none s
  | .unlisted | .refuel => s

/-- R96: a fill-point close, by the state of the active delivery. -/
def fillClosed (i : SourceNo) (s : State) : State :=
  match activeOn s i with
  | some d =>
    match s.delivery d with
    | some r =>
      match r.state with
      | .armed => openDelivery d r false s
      | .waitingUnload => openDelivery d r true s
      | .filled => reopen d s
      | _ => s
    | none => s
  | none => closeUnarmed i s

/-- R90, R96: a qualified fill-point close. Until the line has been compared after a warm restart, or with the line
closed already, there is none to take (log entries 3, 24). -/
def fillPointClose (i : SourceNo) (s : State) : State :=
  if look s.dlv.fill i || look s.dlv.fillUnread i then s else fillClosed i (setFill i true s)

def execFillPointClose (i : SourceNo) (t : Nat) (s : State) : Host.Outcome State Fault Refusal :=
  .next (fillPointClose i (advanceTo t s))

/-- The whole decilitres burned between two marks (R97, R101). -/
def burnBetween (r : Delivery) (markAtClose : Nat) : Nat := (markAtClose - r.markAtOpen.getD 0) / 3600

/-- R97, R101: the figures taken at the close: gauge, mark, burn during, UNCHECKED and gauge rise. -/
def closeFigures (s : State) (r : Delivery) : Delivery :=
  let g := gaugeForDelivery s r.source
  let mark := (s.tank r.source).mark
  let r1 := { r with gaugeAtClose := some g, markAtClose := some mark, burnDuring := some (burnBetween r mark) }
  match r.gaugeAtOpen.join, g with
  | some o, some c => { r1 with gaugeRise := some ((c : Int) - (o : Int)) }
  | _, _ => { r1 with unchecked := true }

/-- R97: the credit of an unarmed fill, by its formula; a sum above R89's 200,000 dL is not held (DESIGN CHOICE, log
entry 44). -/
def unarmedCredit (r : Delivery) : Nat :=
  match r.gaugeRise with
  | some g => (g + (r.burnDuring.getD 0 : Int)).toNat
  | none => 0

/-- R97: the end of an unarmed fill. -/
def endUnarmed (d : SlotNo) (r : Delivery) (s : State) : State :=
  let r1 := closeFigures s r
  endDelivery d .closedUnarmed (unarmedCredit r1) (setDelivery d (some r1) s)

/-- R97: an armed delivery FILLED: the finish timer starts and unloading stops. -/
def fillDelivery (s : State) (r : Delivery) : Delivery :=
  { r with state := .filled, finishTimer := some (s.ms + r.finishMinutes * 60000),
           deadline := some (s.clock + r.finishMinutes * 60), surveyTimer := none }

/-- R97: a fill-point open, by the state of the active delivery. -/
def fillOpened (i : SourceNo) (s : State) : State :=
  match activeOn s i with
  | some d =>
    match s.delivery d with
    | some r =>
      if r.state == .opened then
        if r.unarmed then endUnarmed d r s else modDelivery d (fillDelivery s) s
      else s
    | none => s
  | none => s

/-- R90, R97: a qualified fill-point open. -/
def fillPointOpen (i : SourceNo) (s : State) : State :=
  if look s.dlv.fill i && !look s.dlv.fillUnread i then fillOpened i (setFill i false s) else s

def execFillPointOpen (i : SourceNo) (t : Nat) (s : State) : Host.Outcome State Fault Refusal :=
  .next (fillPointOpen i (advanceTo t s))

/-- R107: the level found after a warm restart, compared with the active delivery. -/
def compareFill (i : SourceNo) (closed : Bool) (s : State) : State :=
  match activeOn s i with
  | some d => if closed then (if stateIn s d == .opened then s else fillClosed i s) else fillOpened i s
  | none => s

/-- R107: once, after each warm restart. -/
def fillRestartCheck (i : SourceNo) (closed : Bool) (s : State) : State :=
  if look s.dlv.fillUnread i then compareFill i closed (setFill i closed (setFillUnread i false s)) else s

def execFillPointRestartCheck (i : SourceNo) (closed : Bool) (t : Nat) (s : State) :
    Host.Outcome State Fault Refusal :=
  .next (fillRestartCheck i closed (advanceTo t s))

/-! ## Readings, closing, cancelling and expiry (R99 to R102) -/

/-- R99: the active delivery that a reference names, or the answer. -/
def named (reference : Nat) (s : State) : Except Status SlotNo :=
  match activeReference s reference with
  | some d => .ok d
  | none =>
    if (indices 16).any fun i => match s.lastEnded i with
        | some r => r.reference == some reference
        | none => false then .error .late
    else .error .unknown

/-- R99, R101: the metered quantity, modulo 2^32. -/
def meteredOf (r : Delivery) : Nat := (r.latestRegister + 4294967296 - r.registerAtArm) % 4294967296

def withRegister (register : Nat) (r : Delivery) : Delivery := { r with latestRegister := register }

/-- R99, METER READING. -/
def ownerMeterReading (reference register : Nat) (_ : StationNo) (_ : Station) (s : State) : Done :=
  match named reference s with
  | .error e => refuse e s
  | .ok d =>
    match s.delivery d with
    | some r =>
      if r.state == .opened || r.state == .filled then
        ⟨setDelivery d (some (withRegister register r)) s, .ok, .metered (meteredOf (withRegister register r))⟩
      else refuse .state s
    | none => refuse .unknown s

def execMeterReading (rq : Request) (reference register : Nat) (s : State) : Host.Outcome State Fault Refusal :=
  .next (request rq kindMeterReading anyObject (ownerMeterReading reference register) s)

/-- R101 step 4: the variance and the tolerance, once the metered quantity stands. -/
def withVariance (m : Nat) (r : Delivery) : Delivery :=
  match r.gaugeRise with
  | some g => { r with variance := some (g - ((m : Int) - (r.burnDuring.getD 0 : Int))),
                       tolerance := some (20 + m * r.tolerancePm / 1000) }
  | none => r

/-- R101 step 5: the end state. -/
def judgeDelivery (held : Bool) (r : Delivery) : DeliveryState :=
  if held then .disputed
  else
    match r.variance, r.tolerance with
    | some v, some t => if v.natAbs ≤ t then .closed else .disputed
    | _, _ => .closed

/-- R101: the reconciled record, with its end state. -/
def reconcile (s : State) (r : Delivery) : Delivery × DeliveryState :=
  let capacity := (s.tank r.source).capacity.getD 0
  let m := min capacity (meteredOf r)
  let r1 := withVariance m { closeFigures s r with metered := some m }
  (r1, judgeDelivery (decide (capacity < meteredOf r)) r1)

/-- R100: a FILLED delivery is closed on its latest register. The credit is the metered quantity (R101). -/
def closeFilled (d : SlotNo) (r : Delivery) (s : State) : State :=
  let v := reconcile s r
  endDelivery d v.2 (v.1.metered.getD 0) (setDelivery d (some v.1) s)

/-- R100: what the reply to CLOSE DELIVERY carries, from the record as it ended. -/
def closedBody (s : State) (i : SourceNo) : Body :=
  match s.lastEnded i with
  | some r => .closed r.state r.unarmed r.fillWhileLoaded r.autoClosed r.unchecked r.metered r.variance r.tolerance
      r.credit
  | none => .empty

/-- R100, CLOSE DELIVERY. -/
def ownerCloseDelivery (reference register : Nat) (_ : StationNo) (_ : Station) (s : State) : Done :=
  match named reference s with
  | .error e => refuse e s
  | .ok d =>
    match s.delivery d with
    | some r =>
      if r.state == .filled then
        let s1 := closeFilled d (withRegister register r) s
        ⟨s1, .ok, closedBody s1 r.source⟩
      else refuse .state s
    | none => refuse .unknown s

def execCloseDelivery (rq : Request) (reference register : Nat) (s : State) : Host.Outcome State Fault Refusal :=
  .next (request rq kindCloseDelivery anyObject (ownerCloseDelivery reference register) s)

/-- R100: the finish timer runs out. -/
def finishExpiry (d : SlotNo) (s : State) : State :=
  match s.delivery d with
  | some r =>
    match r.finishTimer with
    | some due => if r.state == .filled then closeFilled d { r with autoClosed := true } (advanceToMs due s) else s
    | none => s
  | none => s

def execFinishTimerExpiry (d : SlotNo) (s : State) : Host.Outcome State Fault Refusal := .next (finishExpiry d s)

/-- R102: the states in which a delivery may be cancelled or expire. -/
def waitingToOpen (r : Delivery) : Bool := r.state == .armed || r.state == .waitingUnload

/-- R102, CANCEL DELIVERY. -/
def ownerCancel (reference : Nat) (_ : StationNo) (_ : Station) (s : State) : Done :=
  match named reference s with
  | .error e => refuse e s
  | .ok d =>
    match s.delivery d with
    | some r => if waitingToOpen r then ⟨endDelivery d .cancelled 0 s, .ok, .empty⟩ else refuse .state s
    | none => refuse .unknown s

def execCancelDelivery (rq : Request) (reference : Nat) (s : State) : Host.Outcome State Fault Refusal :=
  .next (request rq kindCancelDelivery anyObject (ownerCancel reference) s)

/-- R102: the arm expiry timer runs out. -/
def armExpiry (d : SlotNo) (s : State) : State :=
  match s.delivery d with
  | some r =>
    match r.armTimer with
    | some due => if waitingToOpen r then endDelivery d .expired 0 (advanceToMs due s) else s
    | none => s
  | none => s

def execArmExpiry (d : SlotNo) (s : State) : Host.Outcome State Fault Refusal := .next (armExpiry d s)

/-! ## Return home (R104, R105) -/

/-- R104: the attempt timer of an entry runs out. -/
def returnTimer (n : SupplyNo) (s : State) : State :=
  match returnEntryOf s n with
  | some e =>
    match e.attempt with
    | some due => if e.ticket == none then returnAttempt n (advanceToMs due s) else s
    | none => s
  | none => s

def execReturnAttemptTimer (n : SupplyNo) (s : State) : Host.Outcome State Fault Refusal := .next (returnTimer n s)

/-- R105: the window of an entry runs out. -/
def windowExpiry (n : SupplyNo) (s : State) : State :=
  match returnEntryOf s n with
  | some e =>
    match e.window with
    | some due =>
      let s1 := advanceToMs due s
      if e.ticket == none then abandonReturn e s1 else putReturn { e with window := none } s1
    | none => s
  | none => s

def execReturnWindowExpiry (n : SupplyNo) (s : State) : Host.Outcome State Fault Refusal := .next (windowExpiry n s)

/-! ## READ DELIVERY (R106) -/

/-- R106: the time left on a delivery's running timer, in milliseconds; the manual gives it no unit (DESIGN CHOICE, log
entry 50). -/
def deliveryTimeLeft (s : State) (r : Delivery) : Option Nat :=
  (r.armTimer.or r.finishTimer).map fun due => due - s.ms

/-- R106, READ DELIVERY. -/
def ownerReadDelivery (source : Nat) (_ : StationNo) (_ : Station) (s : State) : Done :=
  match number? 16 source with
  | none => refuse .range s
  | some i =>
    let a := (activeOn s i).bind s.delivery
    ⟨s, .ok, .delivery a (a.bind (deliveryTimeLeft s)) (s.lastEnded i) (s.dlv.returns.filter fun e => e.source == i)
      (look s.dlv.fill i)⟩

def execReadDelivery (rq : Request) (source : Nat) (s : State) : Host.Outcome State Fault Refusal :=
  .next (request rq kindReadDelivery anyObject (ownerReadDelivery source) s)

end Sys2Proof.Machine
end

