-- ==== Sys2Proof/Machine/Metering.lean ====
section
/-! DEFINITION. Machine/Metering.lean: MTR's channels (R109, R110, R117) and its pulses (R111, R112). -/

namespace Sys2Proof.Machine

/-! ## Pulses (R111, R112) -/

/-- R111: a rising edge at millisecond reading `ms` on a defined channel. -/
def riseChan (ms : Nat) (c : Chan) : Chan :=
  match c.lastFall with
  | some f =>
    if c.width ≤ ms - f then { c with line := true, pulseStart := some ms }
    else { c with line := true, pulseStart := none, discardMark := true }
  | none => { c with line := true, pulseStart := none }

/-- R111: a rising edge; an undefined channel only follows the line. A line that is high does not rise. -/
def risingEdge (k : ChannelNo) (s : State) : State :=
  if (s.chan k).line then s
  else modChan k (fun c => if c.defined then riseChan s.ms c else { c with line := true }) s

def execMeterRisingEdge (k : ChannelNo) (t : Nat) (s : State) : Host.Outcome State Fault Refusal :=
  .next (risingEdge k (advanceTo t s))

/-- R111: what a falling edge makes of the pulse before it. -/
inductive Pulse where
  | counted | discarded | nothing
  deriving DecidableEq, Repr

/-- R111: the judgment of a falling edge at millisecond reading `ms`. -/
def judgePulse (ms : Nat) (c : Chan) : Pulse :=
  match c.pulseStart with
  | some p =>
    if c.width ≤ ms - p && decide (ms - p ≤ Config.longestPulseMs) then .counted else .discarded
  | none => if c.discardMark then .discarded else .nothing

/-- R111: the channel after a fall, the pulse apart. -/
def fallChan (ms : Nat) (c : Chan) : Chan :=
  { c with line := false, lastFall := some ms, pulseStart := none, discardMark := false }

/-- R111: a discarded pulse. -/
def discardChan (c : Chan) : Chan := { c with noise := true, discarded := min 65535 (c.discarded + 1) }

/-- R112 steps 1 and 2, and SATURATED for either addition. -/
def countChan (cellBefore : Nat) (c : Chan) : Chan :=
  { c with bins := match c.bins with
             | b :: rest => min 65535 (b + 1) :: rest
             | [] => []
           energy := hold32 (c.energy + c.wh),
           saturated := c.saturated || decide (max32 < c.energy + c.wh) || decide (max32 < cellBefore + c.wh) }

/-- R112 step 3: the column of a channel's energy at this instant. -/
def columnOf (s : State) (c : Chan) : Fin 17 :=
  match c.supply.bind fun n => (s.supply n).record with
  | some i => sourceColumn i
  | none => unsourcedColumn

/-- R112 step 4: the matrix with an addition to one cell. -/
def addCell (m : Matrix) (a : AccountNo) (col : Fin 17) (w : Nat) : Matrix :=
  upd m a (upd (look m a) col (hold32 (cell m a col + w)))

/-- R112: a counted pulse of a channel of an account. -/
def countPulse (k : ChannelNo) (a : AccountNo) (s : State) : State :=
  let c := s.chan k
  let col := columnOf s c
  setMatrix (addCell s.mtr.matrix a col c.wh) (modChan k (countChan (cell s.mtr.matrix a col)) s)

/-- R111: the falling edge of a defined channel. A defined channel has an account (R109). -/
def fallDefined (k : ChannelNo) (s : State) : State :=
  let c := s.chan k
  let s1 := modChan k (fallChan s.ms) s
  match judgePulse s.ms c, c.account with
  | .counted, some a => countPulse k a s1
  | .discarded, _ => modChan k discardChan s1
  | _, _ => s1

/-- R111: a falling edge; an undefined channel only follows the line. A line that is low does not fall. -/
def fallingEdge (k : ChannelNo) (s : State) : State :=
  if (s.chan k).line then
    if (s.chan k).defined then fallDefined k s else modChan k (fun c => { c with line := false }) s
  else s

def execMeterFallingEdge (k : ChannelNo) (t : Nat) (s : State) : Host.Outcome State Fault Refusal :=
  .next (fallingEdge k (advanceTo t s))

/-! ## DEFINE CHANNEL (R109, R110) -/

/-- What DEFINE CHANNEL writes when an account is given. -/
structure ChanFields where
  supply : Option SupplyNo
  account : AccountNo
  wh : Nat
  width : Nat
  deriving DecidableEq, Repr

/-- A number or none, in range: none where a carried number is out of range. -/
def optionalNumber {n : Nat} (f : Nat → Option (Fin n)) : Option Nat → Option (Option (Fin n))
  | none => some none
  | some k => (f k).map some

/-- R109 check 1, the fields of a definition. -/
def channelFields (supply : Option Nat) (account wh : Nat) (width : Option Nat) : Option ChanFields :=
  match optionalNumber (number? 12) supply, index? 48 account with
  | some n, some a =>
    let w := width.getD Config.pulseWidth
    if 1 ≤ wh ∧ wh ≤ 1000 ∧ 5 ≤ w ∧ w ≤ 100 then some { supply := n, account := a, wh := wh, width := w } else none
  | _, _ => none

/-- R109 checks 2 and 3: both objects defined. -/
def channelObjects (f : ChanFields) (s : State) : Bool :=
  (s.account f.account).defined &&
    match f.supply with
    | some n => (s.supply n).defined
    | none => true

/-- R110, definition or redefinition at millisecond reading `ms`. -/
def definedChan (ms : Nat) (f : ChanFields) (c : Chan) : Chan :=
  { c with
    defined := true, supply := f.supply, account := some f.account, wh := f.wh, width := f.width,
    bins := if !c.defined || c.wh != f.wh then List.replicate 60 0 else c.bins,
    noise := false, saturated := false, discarded := 0,
    pulseStart := none, discardMark := false, lastFall := if c.line then none else some ms }

/-- R110, undefinition. NOISE, discarded and SATURATED are kept, and the reply shows them: R110 lists no clearing here,
though R111, R112 and R117 have a DEFINE CHANNEL clear them (DESIGN CHOICE, log entry 45). -/
def undefinedChan (c : Chan) : Chan :=
  { c with defined := false, supply := none, account := none, bins := List.replicate 60 0 }

/-- The reply to a DEFINE CHANNEL that passes. -/
def channelWritten (k : ChannelNo) (g : Chan → Chan) (s : State) : Done :=
  let s1 := modChan k g s
  ⟨s1, .ok, .channelSet (s1.chan k)⟩

/-- R109, R110, DEFINE CHANNEL. -/
def ownerDefineChannel (channel : Nat) (supply account : Option Nat) (wh : Nat) (width : Option Nat)
    (_ : StationNo) (_ : Station) (s : State) : Done :=
  match index? 24 channel, account with
  | none, _ => refuse .range s
  | some k, none => channelWritten k undefinedChan s
  | some k, some a =>
    match channelFields supply a wh width with
    | none => refuse .range s
    | some f => if channelObjects f s then channelWritten k (definedChan s.ms f) s else refuse .unknown s

def execDefineChannel (rq : Request) (channel : Nat) (supply account : Option Nat) (wh : Nat) (width : Option Nat)
    (s : State) : Host.Outcome State Fault Refusal :=
  .next (request rq kindDefineChannel anyObject (ownerDefineChannel channel supply account wh width) s)

/-! ## READ CHANNEL (R117) -/

/-- R117: the fields of a channel but its timer readings. -/
def withoutReadings (c : Chan) : Chan := { c with pulseStart := none, lastFall := none }

/-- R117 for a defined channel. -/
def channelBody (s : State) (c : Chan) : Body :=
  .channel (withoutReadings c) c.bins.sum (chanDemand c) (c.supply.bind fun n => (s.supply n).record)
    (match c.account with
      | some a => look s.mtr.matrix a
      | none => Vector.replicate 17 0)

/-- R117, READ CHANNEL. -/
def ownerReadChannel (channel : Nat) (_ : StationNo) (_ : Station) (s : State) : Done :=
  match index? 24 channel with
  | none => refuse .range s
  | some k =>
    let c := s.chan k
    ⟨s, .ok, if c.defined then channelBody s c else .undefinedChannel c.line c.energy c.lastEnergy⟩

def execReadChannel (rq : Request) (channel : Nat) (s : State) : Host.Outcome State Fault Refusal :=
  .next (request rq kindReadChannel (ownChannel channel) (ownerReadChannel channel) s)

end Sys2Proof.Machine
end

