-- ==== Sys2Proof/Machine/Sources.lean ====
section
/-! DEFINITION. Machine/Sources.lean: SRC's requests (R4 to R9) and the stale timer (R8). -/

namespace Sys2Proof.Machine

/-! ## Hiring (R4, R5) -/

/-- R4: no curve point lower than the point before it. -/
def nonDecreasing (c : Curve) : Bool := c.r0 ≤ c.r1 && c.r1 ≤ c.r2 && c.r2 ≤ c.r3 && c.r3 ≤ c.r4

/-- R4 check 1: the hired fields in range, with the defaults a 0 selects. R4 does not list the hot-refuel byte, which
R166 has answered RANGE above 1: it is judged here, before check 2 (DESIGN CHOICE, log entry 47). -/
def hireFields (rating : Nat) (curve : Curve) (rate hot loadingLimit staleTime : Nat) : Option Hire :=
  if 20 ≤ rating ∧ rating ≤ 2500 ∧ nonDecreasing curve ∧
      (loadingLimit = 0 ∨ (500 ≤ loadingLimit ∧ loadingLimit ≤ 1000)) ∧
      (staleTime = 0 ∨ (2 ≤ staleTime ∧ staleTime ≤ 60)) then
    (flagOf? hot).map fun h =>
      { rating := rating, curve := curve, rate := rate, hot := h,
        loadingLimit := if loadingLimit = 0 then Config.loadingLimit else loadingLimit,
        staleTime := if staleTime = 0 then Config.staleTime else staleTime }
  else none

/-- R4: the record as a hire writes it; the hire accumulator and the last closed hire are kept. -/
def hired (h : Hire) (r : Source) : Source :=
  { r with state := .stopped, hire := some h, telemetry := none, stale := true, implausible := false,
           staleTimer := none, runSeconds := 0, claim := none, reservation := none }

/-- R4, HIRE SOURCE. -/
def ownerHire (source : Nat) (fields : Option Hire) (_ : StationNo) (_ : Station) (s : State) : Done :=
  match number? 16 source, fields with
  | some i, some h =>
    if onHire (s.source i) then refuse .state s
    else ⟨logAppend .sourceHired (num i) (some h.rating) (some h.rate) (modSource i (hired h) s), .ok, .empty⟩
  | _, _ => refuse .range s

def execHireSource (rq : Request) (source rating : Nat) (curve : Curve)
    (hireRate hot loadingLimit staleTime : Nat) (s : State) : Host.Outcome State Fault Refusal :=
  .next (request rq kindHireSource anyObject
    (ownerHire source (hireFields rating curve hireRate hot loadingLimit staleTime)) s)

/-- R5 check 4: what keeps a source on hire. -/
def offHireBlocked (s : State) (i : SourceNo) : Bool :=
  anyClosedOnto s i || (s.source i).claim != none || (s.source i).reservation != none || (activeOn s i).isSome

/-- R5, OFF-HIRE SOURCE. The tank record stands as it is until the next tick (log entry 41). -/
def ownerOffHire (source : Nat) (_ : StationNo) (_ : Station) (s : State) : Done :=
  match number? 16 source with
  | none => refuse .range s
  | some i =>
    if (s.source i).state == .unlisted then refuse .unknown s
    else if (s.source i).state == .offHire then refuse .state s
    else if offHireBlocked s i then refuse .state s
    else
      ⟨logAppend .sourceOffHire (num i) (some (s.source i).runSeconds) (some (hireAccrued (s.source i)))
        (modSource i (fun r => { r with state := .offHire, staleTimer := none }) s), .ok, .empty⟩

def execOffHireSource (rq : Request) (source : Nat) (s : State) : Host.Outcome State Fault Refusal :=
  .next (request rq kindOffHireSource anyObject (ownerOffHire source) s)

/-! ## Telemetry (R6 to R8) -/

/-- R7: the clamped record. -/
def clampReport (rating : Nat) (running : Bool) (load voltage freq gauge : Nat) (alarms : BitVec 8) : Telemetry :=
  { running := running, load := min load (2 * rating), voltage := min voltage 500,
    freq := max 40000 (min freq 70000), gauge := min gauge 1000, alarms := alarms }

/-- R7: a frequency outside the accepted range. -/
def implausibleFreq (freq : Nat) : Bool := freq < 40000 || 70000 < freq

/-- R6 step 4: where the running bit moves the state. -/
def reportedState (st : SourceState) (running : Bool) : SourceState :=
  match st with
  | .stopped => if running then .running else .stopped
  | .running => if running then .running else .stopped
  | st => st

/-- R6, R7: the record after a report taken at millisecond reading `ms`. -/
def reported (ms : Nat) (t : Telemetry) (implausible : Bool) (r : Source) : Source :=
  { r with telemetry := some t, staleTimer := some (ms + (hireOf r).staleTime * 1000), stale := false,
           implausible := implausible, state := reportedState r.state t.running }

/-- R6 step 3: SOURCE_FRESH where STALE was set. -/
def logFresh (i : SourceNo) (wasStale : Bool) (t : Telemetry) (s : State) : State :=
  if wasStale then logAppend .sourceFresh (num i) (some t.load) (some t.freq) s else s

/-- R7: SOURCE_ALERT where a report newly sets IMPLAUSIBLE. -/
def alertImplausible (i : SourceNo) (newly : Bool) (s : State) : State :=
  if newly then raise (.sourceAlert i .implausible) toFleetAndConsole s else s

/-- R6: SRC takes a report whole, and reports the source available where it became so (R13). -/
def takeReport (i : SourceNo) (running : Bool) (load voltage freq gauge : Nat) (alarms : BitVec 8) (s : State) : State :=
  let r := s.source i
  let t := clampReport (hireOf r).rating running load voltage freq gauge alarms
  changeSource i (reported s.ms t (implausibleFreq freq))
    (alertImplausible i (implausibleFreq freq && !r.implausible) (logFresh i r.stale t s))

/-- R6, SOURCE REPORT. A running byte above 1, which R166 has answered RANGE, is judged with the source number, before
UNKNOWN (DESIGN CHOICE, log entry 47). -/
def ownerReport (source running load voltage freq gauge : Nat) (alarms : BitVec 8) (_ : StationNo) (_ : Station)
    (s : State) : Done :=
  match number? 16 source, flagOf? running with
  | some i, some run =>
    if onHire (s.source i) then
      ⟨takeReport i run load voltage freq gauge alarms s, .ok,
       .clamps (2 * (hireOf (s.source i)).rating < load) (500 < voltage) (implausibleFreq freq) (1000 < gauge)⟩
    else refuse .unknown s
  | _, _ => refuse .range s

def execSourceReport (rq : Request) (source running load voltage freq gauge : Nat) (alarms : BitVec 8) (s : State) :
    Host.Outcome State Fault Refusal :=
  .next (request rq kindSourceReport anyObject (ownerReport source running load voltage freq gauge alarms) s)

/-- R8: the stale timer runs out. With STALE already set, nothing is logged or raised. -/
def staleExpiry (i : SourceNo) (s : State) : State :=
  match (s.source i).staleTimer with
  | none => s
  | some due =>
    let s0 := advanceToMs due s
    let r := s0.source i
    if r.stale then modSource i (fun r => { r with staleTimer := none }) s0
    else
      raise (.sourceAlert i .stale) toFleetAndConsole
        (logAppend .sourceStale (num i) (r.telemetry.map (·.load)) (r.telemetry.map (·.freq))
          (modSource i (fun r => { r with staleTimer := none, stale := true }) s0))

def execSourceStale (i : SourceNo) (s : State) : Host.Outcome State Fault Refusal := .next (staleExpiry i s)

/-- R9, READ SOURCE. -/
def ownerReadSource (source : Nat) (_ : StationNo) (_ : Station) (s : State) : Done :=
  match number? 16 source with
  | none => refuse .range s
  | some i =>
    if (s.source i).state == .unlisted then refuse .unknown s
    else ⟨s, .ok, .source (s.source i) (available (s.source i)) (hireAccrued (s.source i)) (sourceWord s i)⟩

def execReadSource (rq : Request) (source : Nat) (s : State) : Host.Outcome State Fault Refusal :=
  .next (request rq kindReadSource anyObject (ownerReadSource source) s)

end Sys2Proof.Machine
end

