-- ==== Sys2Proof/Machine/Stations.lean ====
section
/-! DEFINITION. Machine/Stations.lean: requests on the station table, the map hold, attention and the log (R157 to
R164), and the lapse of the hold. -/

namespace Sys2Proof.Machine

/-- R157: PING. -/
def execPing (rq : Request) (s : State) : Host.Outcome State Fault Refusal :=
  .next (request rq kindPing anyObject (fun _ _ s => ⟨s, .ok, .empty⟩) s)

/-! ## The map hold (R159) -/

/-- R159, TAKE HOLD. -/
def ownerTakeHold (n : StationNo) (_ : Station) (s : State) : Done :=
  match s.stn.hold with
  | none => ⟨logAppend .holdTaken (some n.1) none none (setHold (some n) s), .ok, .empty⟩
  | some m => if m = n then ⟨s, .ok, .empty⟩ else ⟨s, .held, .held m⟩

def execTakeHold (rq : Request) (s : State) : Host.Outcome State Fault Refusal :=
  .next (request rq kindTakeHold anyObject ownerTakeHold s)

/-- R159, RELEASE HOLD. -/
def ownerReleaseHold (n : StationNo) (_ : Station) (s : State) : Done :=
  if s.stn.hold = some n then ⟨logAppend .holdReleased (some n.1) none none (setHold none s), .ok, .empty⟩
  else refuse .state s

def execReleaseHold (rq : Request) (s : State) : Host.Outcome State Fault Refusal :=
  .next (request rq kindReleaseHold anyObject ownerReleaseHold s)

/-- R159, FORCE RELEASE. -/
def ownerForceRelease (n : StationNo) (_ : Station) (s : State) : Done :=
  match s.stn.hold with
  | none => ⟨s, .ok, .empty⟩
  | some m =>
    ⟨raise (.holdLapsed .forced) (toStation m)
      (logAppend .holdReleased (some m.1) (some n.1) none (setHold none s)), .ok, .empty⟩

def execForceRelease (rq : Request) (s : State) : Host.Outcome State Fault Refusal :=
  .next (request rq kindForceRelease anyObject ownerForceRelease s)

/-- R159: the hold lapses 120 s after the holder's last request. With the hold free there is no lapse to take. -/
def holdLapse (s : State) : State :=
  match s.stn.hold with
  | none => s
  | some m =>
    let s0 := match s.station m with
      | some st => advanceToMs (st.lastRequest + Config.holdLapseMs) s
      | none => s
    raise (.holdLapsed .lapsed) (toStation m) (logAppend .holdLapsed (some m.1) none none (setHold none s0))

def execHoldLapsed (s : State) : Host.Outcome State Fault Refusal := .next (holdLapse s)

/-! ## The station table (R158) -/

/-- The lowest-numbered unlisted record. -/
def unlistedRecord (s : State) : Option StationNo := (indices 32).find? fun n => (s.station n).isNone

/-- R158: a newly listed station: flags clear, enables all set, its cursor the next record to be appended. -/
def newStation (p : PortNo) (addr : Nat) (role : Role) (bound : Option SupplyNo) (s : State) : Station :=
  { port := p, addr := addr, role := role, bound := bound, flags := Vector.replicate 11 none,
    enables := Vector.replicate 11 true, cursor := s.log.next, gapMark := false, lastRequest := s.ms }

/-- R158, ENROL STATION: the fields' range; the bound supply is that carried for STAGE, none for other roles. -/
def enrolFields (port address role : Nat) (supply : Option Nat) : Option (PortNo × Role × Option SupplyNo) :=
  if address = 0 ∨ 31 < address then none
  else
    match index? 4 port, roleOf? role with
    | some p, some .stage => (supply.bind (number? 12)).map fun n => (p, .stage, some n)
    | some p, some r => some (p, r, none)
    | _, _ => none

/-- R158, ENROL STATION. -/
def ownerEnrol (port address role : Nat) (supply : Option Nat) (_ : StationNo) (_ : Station) (s : State) : Done :=
  match enrolFields port address role supply with
  | none => refuse .range s
  | some (p, r, b) =>
    if (stationAt s p address).isSome then refuse .state s
    else if (match b with
        | some n => !(s.supply n).defined
        | none => false) then refuse .state s
    else
      match unlistedRecord s with
      | none => refuse .full s
      | some n => ⟨setStation n (some (newStation p address r b s)) s, .ok, .station n⟩

def execEnrolStation (rq : Request) (port address role : Nat) (supply : Option Nat) (s : State) :
    Host.Outcome State Fault Refusal :=
  .next (request rq kindEnrolStation anyObject (ownerEnrol port address role supply) s)

/-- R39, R158: the transfers in flight that a removed station asked for have their originator marked removed. -/
def markGone (m : StationNo) (t : Transfer) : Transfer :=
  if t.result == none && t.originator == .station m false then { t with originator := .station m true } else t

def markGoneAll (m : StationNo) (s : State) : State :=
  { s with xfr := { s.xfr with slots := tab fun n => (s.slot n).map (markGone m) } }

/-- R158: another CONSOLE station than this one is listed. -/
def anotherConsole (s : State) (m : StationNo) : Bool :=
  (indices 32).any fun n => n != m && match s.station n with
    | some st => st.role == .console
    | none => false

/-- R158: a held hold of the removed station becomes free. -/
def freeHoldOf (m : StationNo) (s : State) : State :=
  if s.stn.hold = some m then logAppend .holdReleased (some m.1) none none (setHold none s) else s

/-- R158, REMOVE STATION. -/
def ownerRemove (station : Nat) (_ : StationNo) (_ : Station) (s : State) : Done :=
  match index? 32 station with
  | none => refuse .range s
  | some m =>
    match s.station m with
    | none => refuse .unknown s
    | some st =>
      if st.role == .console && !anotherConsole s m then refuse .state s
      else ⟨freeHoldOf m (markGoneAll m (setStation m none s)), .ok, .empty⟩

def execRemoveStation (rq : Request) (station : Nat) (s : State) : Host.Outcome State Fault Refusal :=
  .next (request rq kindRemoveStation anyObject (ownerRemove station) s)

/-! ## Attention (R160, R161, R167) -/

/-- R167: bit i of a cause mask; bits 11 to 15 are ignored. -/
def enablesWith (mask : BitVec 16) (value : Bool) (e : Vector Bool 11) : Vector Bool 11 :=
  tab fun i => if mask.getLsbD i.1 then value else look e i

def ownerEnables (mask : BitVec 16) (value : Bool) (n : StationNo) (_ : Station) (s : State) : Done :=
  ⟨modStation n (fun st => { st with enables := enablesWith mask value st.enables }) s, .ok, .empty⟩

def execSetEnables (rq : Request) (mask : BitVec 16) (s : State) : Host.Outcome State Fault Refusal :=
  .next (request rq kindSetEnables anyObject (ownerEnables mask true) s)

def execClearEnables (rq : Request) (mask : BitVec 16) (s : State) : Host.Outcome State Fault Refusal :=
  .next (request rq kindClearEnables anyObject (ownerEnables mask false) s)

/-- R160, CLEAR CAUSES. -/
def ownerClearCauses (mask : BitVec 16) (n : StationNo) (_ : Station) (s : State) : Done :=
  ⟨modStation n (fun st => { st with flags := tab fun i => if mask.getLsbD i.1 then none else look st.flags i }) s,
   .ok, .empty⟩

def execClearCauses (rq : Request) (mask : BitVec 16) (s : State) : Host.Outcome State Fault Refusal :=
  .next (request rq kindClearCauses anyObject (ownerClearCauses mask) s)

/-- R161: the highest cause both set and enabled. -/
def highestCause (st : Station) : Option (Fin 11) :=
  (indices 11).reverse.find? fun i => (look st.flags i).isSome && look st.enables i

/-- R161: the set of flags still set, as a cause mask. -/
def flagMask (st : Station) : BitVec 16 :=
  (indices 11).foldl (fun m i => if (look st.flags i).isSome then m ||| (1#16 <<< i.1) else m) 0

/-- R161, QUERY ATTENTION. -/
def ownerQuery (n : StationNo) (st : Station) (s : State) : Done :=
  match highestCause st with
  | none => ⟨s, .ok, .attention none (flagMask st)⟩
  | some i =>
    let st1 := { st with flags := upd st.flags i none }
    ⟨setStation n (some st1) s, .ok, .attention (look st.flags i) (flagMask st1)⟩

def execQueryAttention (rq : Request) (s : State) : Host.Outcome State Fault Refusal :=
  .next (request rq kindQueryAttention anyObject ownerQuery s)

/-! ## Reading the log (R163, R164) -/

/-- R163: up to `count` records from a cursor on. -/
def recordsFrom (l : Log) (cursor count : Nat) : List LogRecord :=
  (l.ring.filter fun r => cursor ≤ r.seq).take count

/-- R163, R171: the requester's cursor moved to the oldest record where it is below it, the records, and the cursor
advanced past the last of them. A GAP reply holds at most 11. -/
def ownerReadLog (count : Nat) (n : StationNo) (st : Station) (s : State) : Done :=
  if 12 < count then refuse .range s
  else
    let asked := if count = 0 then 12 else count
    let oldest := oldestOf s.log
    let lost := oldest - st.cursor
    let first := max st.cursor oldest
    let rs := recordsFrom s.log first (if lost = 0 then asked else min asked 11)
    let cursor := first + rs.length
    ⟨setStation n (some { st with cursor := cursor, gapMark := false }) s,
     if lost = 0 then .ok else .gap,
     .log (if lost = 0 then none else some lost) first rs (cursor < s.log.next)⟩

def execReadLog (rq : Request) (count : Nat) (s : State) : Host.Outcome State Fault Refusal :=
  .next (request rq kindReadLog anyObject (ownerReadLog count) s)

/-- R164, SEEK LOG. -/
def ownerSeekLog (position : Nat) (n : StationNo) (st : Station) (s : State) : Done :=
  if 1 < position then refuse .range s
  else
    let cursor := if position = 0 then oldestOf s.log else s.log.next
    ⟨setStation n (some { st with cursor := cursor, gapMark := false }) s, .ok,
     .seek cursor (oldestOf s.log) s.log.next⟩

def execSeekLog (rq : Request) (position : Nat) (s : State) : Host.Outcome State Fault Refusal :=
  .next (request rq kindSeekLog anyObject (ownerSeekLog position) s)

end Sys2Proof.Machine
end

