-- ==== Sys2Proof/Machine/Receive.lean ====
section
/-! DEFINITION. Machine/Receive.lean: the characters of a frame (R151), and what a sound frame does (R152, R153): a
request passes to STN whole, by the meaning of the request it carries. -/

namespace Sys2Proof.Machine

/-- R153, R167: a broadcast frame: SET TIME, SET SHOW HOLD, or neither. -/
def takeBroadcast (p : PortNo) (f : Frame) (s : State) : State :=
  let rq : Request := { port := p, addr := f.src.toNat, len := f.payload.length, t := s.now }
  match f.kind.toNat, f.payload with
  | 0x0D, [a, b, c, d] => broadcast rq kindSetTime true (takeTime ((a ++ b ++ c ++ d : BitVec 32).toNat)) s
  | 0x33, [n] => broadcast rq kindSetShowHold (n == 0) (showHoldAll true) s
  | _, _ => broadcast rq kindSetTime false (fun s => s) s

/-- R157, R167: the meaning of a request, as `readRequest` reads one; no other command arrives in a frame. -/
def servePassed (i : Instr) (s : State) : Host.Outcome State Fault Refusal :=
  match i with
  | .unlistedKind rq kind => execUnlistedKind rq kind s
  | .ping rq => execPing rq s
  | .takeHold rq => execTakeHold rq s
  | .releaseHold rq => execReleaseHold rq s
  | .forceRelease rq => execForceRelease rq s
  | .enrolStation rq port address role supply => execEnrolStation rq port address role supply s
  | .removeStation rq station => execRemoveStation rq station s
  | .setEnables rq mask => execSetEnables rq mask s
  | .clearEnables rq mask => execClearEnables rq mask s
  | .clearCauses rq mask => execClearCauses rq mask s
  | .queryAttention rq => execQueryAttention rq s
  | .readLog rq count => execReadLog rq count s
  | .seekLog rq position => execSeekLog rq position s
  | .setTime rq isBroadcast time => execSetTime rq isBroadcast time s
  | .setPort rq port rate address enabled => execSetPort rq port rate address enabled s
  | .restartPort rq port => execRestartPort rq port s
  | .readPort rq port => execReadPort rq port s
  | .hireSource rq source rating curve hireRate hot loadingLimit staleTime =>
    execHireSource rq source rating curve hireRate hot loadingLimit staleTime s
  | .offHireSource rq source => execOffHireSource rq source s
  | .sourceReport rq source running load voltage freq gauge alarms =>
    execSourceReport rq source running load voltage freq gauge alarms s
  | .readSource rq source => execReadSource rq source s
  | .defineSupply rq supply sources home autoRestore returnHome timing =>
    execDefineSupply rq supply sources home autoRestore returnHome timing s
  | .clearFault rq supply => execClearFault rq supply s
  | .setShowHold rq isBroadcast supply => execSetShowHold rq isBroadcast supply s
  | .clearShowHold rq supply => execClearShowHold rq supply s
  | .readSupply rq supply => execReadSupply rq supply s
  | .transfer rq supply target mode priority => execTransfer rq supply target mode priority s
  | .abortTransfer rq supply ticket => execAbortTransfer rq supply ticket s
  | .readTransfer rq supply => execReadTransfer rq supply s
  | .setSyncLimits rq slip phase voltage timeout => execSetSyncLimits rq slip phase voltage timeout s
  | .setTank rq source capacity floor level => execSetTank rq source capacity floor level s
  | .setFuelPrice rq price => execSetFuelPrice rq price s
  | .readTank rq source => execReadTank rq source s
  | .armDelivery rq source reference expected register expiry finish tolerance =>
    execArmDelivery rq source reference expected register expiry finish tolerance s
  | .meterReading rq reference register => execMeterReading rq reference register s
  | .closeDelivery rq reference register => execCloseDelivery rq reference register s
  | .cancelDelivery rq reference => execCancelDelivery rq reference s
  | .readDelivery rq source => execReadDelivery rq source s
  | .defineChannel rq channel supply account wh width => execDefineChannel rq channel supply account wh width s
  | .readChannel rq channel => execReadChannel rq channel s
  | .defineAccount rq account present reference => execDefineAccount rq account present reference s
  | .removeAccount rq account => execRemoveAccount rq account s
  | .setInterval rq minutes => execSetInterval rq minutes s
  | .closePeriod rq => execClosePeriod rq s
  | .releasePeriod rq => execReleasePeriod rq s
  | .readAccount rq account bank => execReadAccount rq account bank s
  | .readSettlement rq => execReadSettlement rq s
  | .defineWatch rq entry fields => execDefineWatch rq entry fields s
  | .armWatches rq mask => execArmWatches rq mask s
  | .disarmWatches rq mask => execDisarmWatches rq mask s
  | .readWatch rq entry => execReadWatch rq entry s
  | _ => .next s

/-- R152: a sound request: discarded with OVERRUN while the port serves, and otherwise held in the buffer and passed to
STN, which takes it at the present reading. -/
def takeRequest (p : PortNo) (f : Frame) (s : State) : Host.Outcome State Fault Refusal :=
  if (s.port p).serving then .next (setPortFlag p .overrun s)
  else servePassed (frameCommand p s.now f) (modPort p (fun r => { r with buffer := some f }) s)

/-- R152: a sound frame judged by its destination and its kind. -/
def soundFrame (p : PortNo) (f : Frame) (s : State) : Host.Outcome State Fault Refusal :=
  if 0x80 ≤ f.kind.toNat then .next s
  else if f.dest = 0 then .next (takeBroadcast p f s)
  else if f.dest.toNat = (s.port p).current.address then takeRequest p f s
  else .next s

/-- R151: the characters of a frame with one more. -/
def assembled (p : PortNo) (got : List Byte) (s : State) : Host.Outcome State Fault Refusal :=
  match assemble got with
  | .more => .next (setRx p (.assembling got) s)
  | .tooLong => .next (discardFrame p .runt s)
  | .badCrc => .next (discardFrame p .crc s)
  | .sound f => soundFrame p f (setRx p .hunting s)

/-- R151: a hunting port takes the start character alone. -/
def huntChar (p : PortNo) (c : RxChar) (s : State) : State :=
  if c.byte = 0xA5 ∧ c.parityOk ∧ c.stopOk then setRx p (.assembling []) s else s

/-- R151: a character of a frame. -/
def frameChar (p : PortNo) (got : List Byte) (c : RxChar) (s : State) : Host.Outcome State Fault Refusal :=
  if !c.parityOk then .next (discardFrame p .parity s)
  else if !c.stopOk then .next (discardFrame p .framing s)
  else assembled p (got ++ [c.byte]) s

/-- R151: an enabled port receives a character. -/
def receiveChar (p : PortNo) (c : RxChar) (s : State) : Host.Outcome State Fault Refusal :=
  if enabled s p then
    match (s.port p).rx with
    | .hunting => .next (huntChar p c s)
    | .assembling got => frameChar p got c s
    | .waitingQuiet => .next s
  else .next s

/-- R151: the characters in the order they arrive. -/
def receiveChars (p : PortNo) : List RxChar → State → Host.Outcome State Fault Refusal
  | [], s => .next s
  | c :: cs, s =>
    match receiveChar p c s with
    | .next s1 => receiveChars p cs s1
    | o => o

/-- R151 to R153: the characters of one frame, or of part of one, at a port. -/
def execFrameReceived (p : PortNo) (t : Nat) (chars : List RxChar) (s : State) : Host.Outcome State Fault Refusal :=
  receiveChars p chars (advanceTo t s)

end Sys2Proof.Machine
end

