-- ==== Sys2Proof/Machine/Restart.lean ====
section
/-! DEFINITION. Machine/Restart.lean: the starts of the part (R1): the cold start, and the warm restart of every block
(R18, R38, R65, R75, R88, R107, R118, R136, R149, R150, R156, R159, R160, R165), in the order of log entry 19. -/

namespace Sys2Proof.Machine

/-- R1: the start that a cause brings, or none where nothing starts the part. -/
def startOf (c : StartCause) : Option Start :=
  if c.coldInput then some .cold
  else if c.powerUp || c.warmInput then some (if c.retainedKept then .warm else .cold)
  else none

/-- R1: COLD_START. The queue of waiting commands is not the part's and stands. -/
def execColdStart (cause : StartCause) (t : Nat) (found : Found) (s : State) : Host.Outcome State Fault Refusal :=
  .next (if startOf cause = some .cold then State.cold (max s.now t) found s.pending else s)

/-! ## LNK, STN and LOG -/

/-- R150. -/
def warmPort (r : Port) : Port :=
  { r with current := r.pending, flags := PortFlags.clear, serving := false, buffer := none, rx := .hunting,
           reply := none, restartNext := none, restartWaits := false }

def warmPorts (s : State) : State := { s with lnk := tab fun p => warmPort (s.port p) }

/-- R156, R160: flags cleared, then RESTARTED set, and the last-request time the moment of resume. -/
def warmStation (ms : Nat) (st : Station) : Station :=
  withFlag .restartedWarm { st with flags := Vector.replicate 11 none, lastRequest := ms }

/-- R165: the gap mark judged afresh against the oldest record. -/
def warmGap (oldest : Nat) (st : Station) : Station :=
  if st.cursor < oldest then withFlag (.logGap oldest (oldest - st.cursor)) { st with gapMark := true }
  else { st with gapMark := false }

/-- R156, R159, R160, R165: STN and the gap marks, and the map hold released. -/
def warmStations (s : State) : State :=
  setHold none (eachStation (fun _ st => warmGap (oldestOf s.log) (warmStation s.ms st)) s)

/-! ## SRC, SYN, TNK, MTR, WCH -/

/-- R18. -/
def warmSource (ms : Nat) (r : Source) : Source :=
  if onHire r then
    { r with stale := true, staleTimer := some (ms + (hireOf r).staleTime * 1000), claim := none }
  else { r with claim := none }

def warmSources (s : State) : State := { s with src := tab fun i => warmSource s.ms (s.source i) }

/-- R75. -/
def warmSyn (s : State) : State := { s with syn := { s.syn with channels := Vector.replicate 4 SyncChan.cold, queue := [] } }

/-- R88. -/
def warmTanks (s : State) : State :=
  { s with tnk := { s.tnk with tanks := tab fun i => { s.tank i with lastRate := 0, lastLoad := none, loadKind := none } } }

/-- R118: bins empty, and qualification restarted from the line as found. -/
def warmChan (ms : Nat) (line : Bool) (c : Chan) : Chan :=
  { c with line := line, bins := List.replicate 60 0, pulseStart := none, discardMark := false,
           lastFall := if line then none else some ms }

def warmChannels (found : Found) (s : State) : State :=
  { s with mtr := { s.mtr with channels := tab fun c => warmChan s.ms (look found.meter c) (s.chan c) } }

/-- R149. -/
def warmWatch (r : Watch) : Watch := { idleWatch r with lastValue := none, lastCond := false }

def warmWatches (s : State) : State := { s with wch := tab fun w => warmWatch (s.watch w) }

/-! ## DLV (R107) -/

/-- R107: the timers of an active delivery, restarted from full, and its unload list emptied. -/
def warmDelivery (ms time : Nat) (r : Delivery) : Delivery :=
  let r1 := { r with unloads := [], armTimer := none, finishTimer := none, surveyTimer := none }
  match r.state with
  | .armed | .waitingUnload =>
    { r1 with armTimer := some (ms + r.armMinutes * 60000), deadline := some (time + r.armMinutes * 60) }
  | .filled =>
    { r1 with finishTimer := some (ms + r.finishMinutes * 60000), deadline := some (time + r.finishMinutes * 60) }
  | _ => r1

/-- R107: a return entry's new window; its next attempt falls due 10 s on. -/
def warmReturn (ms time : Nat) (e : ReturnEntry) : ReturnEntry :=
  { e with window := some (ms + Config.windowMs), deadline := time + Config.windowMs / 1000, ticket := none,
           attempt := some (ms + Config.attemptMs) }

/-- R107: DLV before the interrupted transfers end, with the fill points to be compared once they have qualified. -/
def warmDeliveries (found : Found) (s : State) : State :=
  { s with dlv :=
      { slots := tab fun d => (s.delivery d).map (warmDelivery s.ms s.clock)
        lastEnded := tab fun i => (s.lastEnded i).map fun r => { r with unloads := [] }
        returns := s.dlv.returns.map (warmReturn s.ms s.clock)
        fill := found.fill
        fillUnread := Vector.replicate 16 true } }

/-- R107: every delivery that is unloading restarts its survey timer and makes a survey at once. -/
def warmSurvey (s : State) (d : SlotNo) : State :=
  match s.delivery d with
  | some r => if unloading s r then survey d (startSurveyTimer d s) else s
  | none => s

/-! ## XFR (R65) -/

/-- R65: a transfer in flight ends INTERRUPTED. -/
def interrupt (s : State) (n : SupplyNo) : State :=
  match inFlight s n with
  | some t =>
    tellOriginator n t .interrupted
      (reportEnd n t .interrupted
        (modSlot n (fun t => { endedSlot .interrupted s.clock t with syncChannel := none }) s))
  | none => s

/-! ## SUP (R38) -/

/-- R38: an input's line measurement restarted, its contact as found, its windows gone. -/
def warmInput (ms : Nat) (aux : Bool) (r : InputRec) : InputRec :=
  { r with aux := aux, voltage := false, absentSince := some ms, period := none, lastCrossing := none,
           closePulse := none, openPulse := none, window := none }

def warmInputs (ms : Nat) (aux : Abc Bool) (r : Abc InputRec) : Abc InputRec :=
  { a := warmInput ms aux.a r.a, b := warmInput ms aux.b r.b, c := warmInput ms aux.c r.c }

/-- R38: the lines of every supply, and restore waiting cleared. -/
def warmLines (found : Found) (s : State) : State :=
  { s with sup := tab fun n =>
      { s.supply n with inputs := warmInputs s.ms (look found.aux n) (s.supply n).inputs, restoreWaiting := false,
                        lastRestore := none } }

/-- R38: the restart open of a supply found in TRANSFER with two or more inputs closed. -/
def restartOpen (n : SupplyNo) (t : Transfer) (s : State) : State :=
  startPulse n t.target .toOpen true (derived n .fault none none s)

/-- R38 for one defined supply. -/
def warmSupply (s : State) (n : SupplyNo) : State :=
  if (s.supply n).defined then
    match s.slot n with
    | some t =>
      if (s.supply n).state == .transfer && decide (2 ≤ (closedInputs s n).length) then restartOpen n t s
      else derive n s
    | none => derive n s
  else s

/-! ## STL (R136) -/

/-- R136: the figure sets that an open record lacks, announced again. -/
def reannounce (s : State) (r : SettleRec) : State :=
  let s1 := if r.hire.isNone then announceHire r.serial s else s
  let s2 := if r.burn.isNone then announceBurn r.serial s1 else s1
  let s3 := if r.matrix.isNone then announceMatrix r.serial s2 else s2
  if r.dark.isNone then announceDark r.serial s3 else s3

/-- R136: a boundary that the outage passed, with no tick. -/
def warmBoundary (s : State) : State :=
  if s.stl.clock.nextBoundary ≤ s.stl.clock.time then takeBoundary s.stl.clock.nextBoundary s else s

/-- R136: the site clock has kept counting. -/
def outage (elapsed : Nat) (s : State) : State :=
  setClock { s.stl.clock with time := hold32 (s.stl.clock.time + elapsed) } s

/-! ## The warm restart, whole -/

/-- What every block clears and keeps, before anything is raised on resume. -/
def warmRecords (found : Found) (s : State) : State :=
  warmDeliveries found (warmWatches (warmChannels found (warmTanks (warmSyn (warmSources (warmPorts s))))))

/-- R65, R38, R107: transfers end INTERRUPTED, supplies are derived, unload surveys are made. -/
def warmPanels (found : Found) (s : State) : State :=
  (indices 8).foldl warmSurvey
    ((indices 12).foldl warmSupply (warmLines found ((indices 12).foldl interrupt s)))

/-- R136. -/
def warmSettlement (s : State) : State := warmBoundary (s.stl.records.foldl reannounce s)

/-- The warm restart after an outage of `elapsed` seconds of site time. -/
def warmRestart (elapsed : Nat) (found : Found) (s : State) : State :=
  warmSettlement (warmPanels found
    (warmRecords found (logAppend .warmRestart none none none (warmStations (outage elapsed s)))))

/-- R1: WARM_RESTART. -/
def execWarmRestart (cause : StartCause) (t elapsed : Nat) (found : Found) (s : State) :
    Host.Outcome State Fault Refusal :=
  .next (if startOf cause = some .warm then warmRestart elapsed found (advanceTo t s) else s)

end Sys2Proof.Machine
end

