-- ==== Sys2Proof/Machine/Dispatch.lean ====
section
/-! DEFINITION. Machine/Dispatch.lean: each command of spec/opcode_table.json to its meaning. -/

namespace Sys2Proof.Machine

def exec (i : Instr) (s : State) : Host.Outcome State Fault Refusal :=
  match i with
  | .coldStart cause t found => Sys2Proof.Machine.execColdStart cause t found s
  | .warmRestart cause t elapsed found => Sys2Proof.Machine.execWarmRestart cause t elapsed found s
  | .fillPointRestartCheck source closed t => Sys2Proof.Machine.execFillPointRestartCheck source closed t s
  | .frameReceived port t chars => Sys2Proof.Machine.execFrameReceived port t chars s
  | .characterGapTimeout port t => Sys2Proof.Machine.execCharacterGapTimeout port t s
  | .lineQuiet port t => Sys2Proof.Machine.execLineQuiet port t s
  | .replySent port t => Sys2Proof.Machine.execReplySent port t s
  | .unlistedKind rq kind => Sys2Proof.Machine.execUnlistedKind rq kind s
  | .ping rq => Sys2Proof.Machine.execPing rq s
  | .takeHold rq => Sys2Proof.Machine.execTakeHold rq s
  | .releaseHold rq => Sys2Proof.Machine.execReleaseHold rq s
  | .forceRelease rq => Sys2Proof.Machine.execForceRelease rq s
  | .holdLapsed => Sys2Proof.Machine.execHoldLapsed s
  | .enrolStation rq port address role supply => Sys2Proof.Machine.execEnrolStation rq port address role supply s
  | .removeStation rq station => Sys2Proof.Machine.execRemoveStation rq station s
  | .setEnables rq mask => Sys2Proof.Machine.execSetEnables rq mask s
  | .clearEnables rq mask => Sys2Proof.Machine.execClearEnables rq mask s
  | .clearCauses rq mask => Sys2Proof.Machine.execClearCauses rq mask s
  | .queryAttention rq => Sys2Proof.Machine.execQueryAttention rq s
  | .readLog rq count => Sys2Proof.Machine.execReadLog rq count s
  | .seekLog rq position => Sys2Proof.Machine.execSeekLog rq position s
  | .setTime rq isBroadcast time => Sys2Proof.Machine.execSetTime rq isBroadcast time s
  | .setPort rq port rate address enabled => Sys2Proof.Machine.execSetPort rq port rate address enabled s
  | .restartPort rq port => Sys2Proof.Machine.execRestartPort rq port s
  | .readPort rq port => Sys2Proof.Machine.execReadPort rq port s
  | .hireSource rq source rating curve hireRate hot loadingLimit staleTime => Sys2Proof.Machine.execHireSource rq source rating curve hireRate hot loadingLimit staleTime s
  | .offHireSource rq source => Sys2Proof.Machine.execOffHireSource rq source s
  | .sourceReport rq source running load voltage freq gauge alarms => Sys2Proof.Machine.execSourceReport rq source running load voltage freq gauge alarms s
  | .sourceStale source => Sys2Proof.Machine.execSourceStale source s
  | .readSource rq source => Sys2Proof.Machine.execReadSource rq source s
  | .secondTick order t => Sys2Proof.Machine.execSecondTick order t s
  | .settlement => Sys2Proof.Machine.execSettlement s
  | .defineSupply rq supply sources home autoRestore returnHome timing => Sys2Proof.Machine.execDefineSupply rq supply sources home autoRestore returnHome timing s
  | .senseCrossing supply input t => Sys2Proof.Machine.execSenseCrossing supply input t s
  | .voltageLossTimeout supply input => Sys2Proof.Machine.execVoltageLossTimeout supply input s
  | .supplyTrip supply => Sys2Proof.Machine.execSupplyTrip supply s
  | .auxChange supply input closed t => Sys2Proof.Machine.execAuxChange supply input closed t s
  | .confirmTimeout supply input => Sys2Proof.Machine.execConfirmTimeout supply input s
  | .pulseEnd supply input dir => Sys2Proof.Machine.execPulseEnd supply input dir s
  | .clearFault rq supply => Sys2Proof.Machine.execClearFault rq supply s
  | .setShowHold rq isBroadcast supply => Sys2Proof.Machine.execSetShowHold rq isBroadcast supply s
  | .clearShowHold rq supply => Sys2Proof.Machine.execClearShowHold rq supply s
  | .readSupply rq supply => Sys2Proof.Machine.execReadSupply rq supply s
  | .transfer rq supply target mode priority => Sys2Proof.Machine.execTransfer rq supply target mode priority s
  | .channelGrant supply => Sys2Proof.Machine.execChannelGrant supply s
  | .inStepReport channel => Sys2Proof.Machine.execInStepReport channel s
  | .syncTimeout supply => Sys2Proof.Machine.execSyncTimeout supply s
  | .tripReport supply => Sys2Proof.Machine.execTripReport supply s
  | .overlapExpiry supply => Sys2Proof.Machine.execOverlapExpiry supply s
  | .deadTimeExpiry supply => Sys2Proof.Machine.execDeadTimeExpiry supply s
  | .settleTimeExpiry supply => Sys2Proof.Machine.execSettleTimeExpiry supply s
  | .abortTransfer rq supply ticket => Sys2Proof.Machine.execAbortTransfer rq supply ticket s
  | .readTransfer rq supply => Sys2Proof.Machine.execReadTransfer rq supply s
  | .setSyncLimits rq slip phase voltage timeout => Sys2Proof.Machine.execSetSyncLimits rq slip phase voltage timeout s
  | .setTank rq source capacity floor level => Sys2Proof.Machine.execSetTank rq source capacity floor level s
  | .setFuelPrice rq price => Sys2Proof.Machine.execSetFuelPrice rq price s
  | .readTank rq source => Sys2Proof.Machine.execReadTank rq source s
  | .armDelivery rq source reference expected register expiry finish tolerance => Sys2Proof.Machine.execArmDelivery rq source reference expected register expiry finish tolerance s
  | .unloadSurveyTimer slot => Sys2Proof.Machine.execUnloadSurveyTimer slot s
  | .fillPointClose source t => Sys2Proof.Machine.execFillPointClose source t s
  | .fillPointOpen source t => Sys2Proof.Machine.execFillPointOpen source t s
  | .meterReading rq reference register => Sys2Proof.Machine.execMeterReading rq reference register s
  | .closeDelivery rq reference register => Sys2Proof.Machine.execCloseDelivery rq reference register s
  | .finishTimerExpiry slot => Sys2Proof.Machine.execFinishTimerExpiry slot s
  | .cancelDelivery rq reference => Sys2Proof.Machine.execCancelDelivery rq reference s
  | .armExpiry slot => Sys2Proof.Machine.execArmExpiry slot s
  | .returnAttemptTimer supply => Sys2Proof.Machine.execReturnAttemptTimer supply s
  | .returnWindowExpiry supply => Sys2Proof.Machine.execReturnWindowExpiry supply s
  | .readDelivery rq source => Sys2Proof.Machine.execReadDelivery rq source s
  | .defineChannel rq channel supply account wh width => Sys2Proof.Machine.execDefineChannel rq channel supply account wh width s
  | .meterRisingEdge channel t => Sys2Proof.Machine.execMeterRisingEdge channel t s
  | .meterFallingEdge channel t => Sys2Proof.Machine.execMeterFallingEdge channel t s
  | .readChannel rq channel => Sys2Proof.Machine.execReadChannel rq channel s
  | .defineAccount rq account present reference => Sys2Proof.Machine.execDefineAccount rq account present reference s
  | .removeAccount rq account => Sys2Proof.Machine.execRemoveAccount rq account s
  | .setInterval rq minutes => Sys2Proof.Machine.execSetInterval rq minutes s
  | .closePeriod rq => Sys2Proof.Machine.execClosePeriod rq s
  | .releasePeriod rq => Sys2Proof.Machine.execReleasePeriod rq s
  | .readAccount rq account bank => Sys2Proof.Machine.execReadAccount rq account bank s
  | .readSettlement rq => Sys2Proof.Machine.execReadSettlement rq s
  | .defineWatch rq entry fields => Sys2Proof.Machine.execDefineWatch rq entry fields s
  | .armWatches rq mask => Sys2Proof.Machine.execArmWatches rq mask s
  | .disarmWatches rq mask => Sys2Proof.Machine.execDisarmWatches rq mask s
  | .readWatch rq entry => Sys2Proof.Machine.execReadWatch rq entry s

end Sys2Proof.Machine
end

