-- ==== Sys2Proof/Safety.lean ====
section
/-! DEFINITION. Safety.lean: what counts as a safe run: no step stops, and the laws that the manual names hold of every
state it passes through. -/

namespace Sys2Proof.Machine

/-- A step that answers a state. The block stops for nothing, so every step of the model is one. -/
def goesOn (o : Host.Outcome State Fault Refusal) : Prop := ∃ t, o = .next t

/-- R130: exactly one bank is ACTIVE, and the other is FROZEN or RELEASED. -/
def BankLaw (s : State) : Prop :=
  (s.stl.bankA.state = .active ∧ s.stl.bankB.state ≠ .active) ∨
    (s.stl.bankB.state = .active ∧ s.stl.bankA.state ≠ .active)

/-- R159: the map hold's holder is a listed station. -/
def HoldLaw (s : State) : Prop := ∀ n, s.stn.hold = some n → (s.station n).isSome

/-- R162: the ring holds at most 512 records, its numbers run up by one to the one before the next sequence number, and
it starts at record 1 until it is full. -/
def RingSound (l : Log) : Prop :=
  l.ring.length ≤ Config.ringSize ∧
    (∀ k (h : k < l.ring.length), (l.ring[k]).seq + l.ring.length = l.next + k) ∧
    (l.ring.length < Config.ringSize → l.next = l.ring.length + 1)

def RingLaw (s : State) : Prop := RingSound s.log

/-- R162: no station's cursor lies beyond the number of the next record to be appended. -/
def CursorLaw (s : State) : Prop := ∀ n st, s.station n = some st → st.cursor ≤ s.log.next

/-- R124: account 0 is always defined. -/
def OverheadLaw (s : State) : Prop := (s.account 0).defined = true

/-- R150: the flags of a disabled port stay clear. -/
def QuietPortLaw (s : State) : Prop := ∀ p, enabled s p = false → (s.port p).flags = PortFlags.clear

/-- R156: no two listed stations share a port and a link address. -/
def AddressLaw (s : State) : Prop :=
  ∀ n m a b, s.station n = some a → s.station m = some b → a.port = b.port → a.addr = b.addr → n = m

/-! ## Requests -/

/-- R157: a request of a kind that chapter 12 lists, with its kind; none for every other command. -/
def asks : Instr → Option (Request × Kind)
  | .coldStart _ _ _ => none
  | .warmRestart _ _ _ _ => none
  | .fillPointRestartCheck _ _ _ => none
  | .frameReceived _ _ _ => none
  | .characterGapTimeout _ _ => none
  | .lineQuiet _ _ => none
  | .replySent _ _ => none
  | .unlistedKind _ _ => none
  | .ping rq => some (rq, kindPing)
  | .takeHold rq => some (rq, kindTakeHold)
  | .releaseHold rq => some (rq, kindReleaseHold)
  | .forceRelease rq => some (rq, kindForceRelease)
  | .holdLapsed => none
  | .enrolStation rq _ _ _ _ => some (rq, kindEnrolStation)
  | .removeStation rq _ => some (rq, kindRemoveStation)
  | .setEnables rq _ => some (rq, kindSetEnables)
  | .clearEnables rq _ => some (rq, kindClearEnables)
  | .clearCauses rq _ => some (rq, kindClearCauses)
  | .queryAttention rq => some (rq, kindQueryAttention)
  | .readLog rq _ => some (rq, kindReadLog)
  | .seekLog rq _ => some (rq, kindSeekLog)
  | .setTime rq false _ => some (rq, kindSetTime)
  | .setTime _ true _ => none
  | .setPort rq _ _ _ _ => some (rq, kindSetPort)
  | .restartPort rq _ => some (rq, kindRestartPort)
  | .readPort rq _ => some (rq, kindReadPort)
  | .hireSource rq _ _ _ _ _ _ _ => some (rq, kindHireSource)
  | .offHireSource rq _ => some (rq, kindOffHireSource)
  | .sourceReport rq _ _ _ _ _ _ _ => some (rq, kindSourceReport)
  | .sourceStale _ => none
  | .readSource rq _ => some (rq, kindReadSource)
  | .secondTick _ _ => none
  | .settlement => none
  | .defineSupply rq _ _ _ _ _ _ => some (rq, kindDefineSupply)
  | .senseCrossing _ _ _ => none
  | .voltageLossTimeout _ _ => none
  | .supplyTrip _ => none
  | .auxChange _ _ _ _ => none
  | .confirmTimeout _ _ => none
  | .pulseEnd _ _ _ => none
  | .clearFault rq _ => some (rq, kindClearFault)
  | .setShowHold rq false _ => some (rq, kindSetShowHold)
  | .setShowHold _ true _ => none
  | .clearShowHold rq _ => some (rq, kindClearShowHold)
  | .readSupply rq _ => some (rq, kindReadSupply)
  | .transfer rq _ _ _ _ => some (rq, kindTransfer)
  | .channelGrant _ => none
  | .inStepReport _ => none
  | .syncTimeout _ => none
  | .tripReport _ => none
  | .overlapExpiry _ => none
  | .deadTimeExpiry _ => none
  | .settleTimeExpiry _ => none
  | .abortTransfer rq _ _ => some (rq, kindAbortTransfer)
  | .readTransfer rq _ => some (rq, kindReadTransfer)
  | .setSyncLimits rq _ _ _ _ => some (rq, kindSetSyncLimits)
  | .setTank rq _ _ _ _ => some (rq, kindSetTank)
  | .setFuelPrice rq _ => some (rq, kindSetFuelPrice)
  | .readTank rq _ => some (rq, kindReadTank)
  | .armDelivery rq _ _ _ _ _ _ _ => some (rq, kindArmDelivery)
  | .unloadSurveyTimer _ => none
  | .fillPointClose _ _ => none
  | .fillPointOpen _ _ => none
  | .meterReading rq _ _ => some (rq, kindMeterReading)
  | .closeDelivery rq _ _ => some (rq, kindCloseDelivery)
  | .finishTimerExpiry _ => none
  | .cancelDelivery rq _ => some (rq, kindCancelDelivery)
  | .armExpiry _ => none
  | .returnAttemptTimer _ => none
  | .returnWindowExpiry _ => none
  | .readDelivery rq _ => some (rq, kindReadDelivery)
  | .defineChannel rq _ _ _ _ _ => some (rq, kindDefineChannel)
  | .meterRisingEdge _ _ => none
  | .meterFallingEdge _ _ => none
  | .readChannel rq _ => some (rq, kindReadChannel)
  | .defineAccount rq _ _ _ => some (rq, kindDefineAccount)
  | .removeAccount rq _ => some (rq, kindRemoveAccount)
  | .setInterval rq _ => some (rq, kindSetInterval)
  | .closePeriod rq => some (rq, kindClosePeriod)
  | .releasePeriod rq => some (rq, kindReleasePeriod)
  | .readAccount rq _ _ => some (rq, kindReadAccount)
  | .readSettlement rq => some (rq, kindReadSettlement)
  | .defineWatch rq _ _ => some (rq, kindDefineWatch)
  | .armWatches rq _ => some (rq, kindArmWatches)
  | .disarmWatches rq _ => some (rq, kindDisarmWatches)
  | .readWatch rq _ => some (rq, kindReadWatch)

/-- R152, R157 check 1: a request of the listed station `n`, whose record is `st`, comes in through an enabled port that
is not serving another. -/
structure Heard (rq : Request) (n : StationNo) (st : Station) (s : State) : Prop where
  open_ : enabled s rq.port = true
  idle : (s.port rq.port).serving = false
  listed : s.station n = some st
  onPort : st.port = rq.port
  atAddr : st.addr = rq.addr
  distinct : AddressLaw s

/-- R157: a request of kind `k` that passes every check of STN but that of what a STAGE station names. -/
structure Taken (rq : Request) (k : Kind) (n : StationNo) (st : Station) (s : State) : Prop extends Heard rq n st s where
  length : rq.len = k.len
  role : st.role ∈ k.roles
  hold : k.hold = true → s.stn.hold = some n

/-- R157: the state in which STN judges a request of station `n`: the time has come, and its last-request time is set. -/
def heard (rq : Request) (n : StationNo) (s : State) : State := touch n (advanceTo rq.t s)

/-- R157: the record of the requester as the owning block sees it. -/
def requester (rq : Request) (st : Station) (s : State) : Station := { st with lastRequest := (advanceTo rq.t s).ms }

/-- R152, R166: a request of kind `k` from station `n` answered. -/
def replied (rq : Request) (k : Kind) (n : StationNo) (status : Status) (body : Body) (s : State) :
    Host.Outcome State Fault Refusal :=
  .next (answer rq k.code (some n) status body s)

/-! ## Frames and fields -/

/-- A character received with good parity and a good stop bit. -/
def soundChar (b : Byte) : RxChar := { byte := b, parityOk := true, stopOk := true }

/-- Section 12.1: the characters of a frame, from its start character to its CRC. -/
def frameChars (f : Frame) : List RxChar :=
  let covered := f.dest :: f.src :: f.kind :: BitVec.ofNat 8 f.payload.length :: f.payload
  ((0xA5 :: covered) ++ [(crc covered).extractLsb' 8 8, (crc covered).extractLsb' 0 8]).map soundChar

/-- R21: the sources of a DEFINE SUPPLY as the request carries them. -/
def carriedSources (q : Abc (Option SourceNo)) : Abc (Option Nat) := q.map fun i => i.map numberOf

/-- R19, R20, R21: the timing settings that a request's carried ones select, all in their ranges. -/
def timingSelects (q : TimingReq) (t : Timing) : Prop :=
  t.deadTime = q.deadTime.getD 3000 ∧ t.deadTime ≤ 10000 ∧
    t.confirm = q.confirm.getD 400 ∧ 100 ≤ t.confirm ∧ t.confirm ≤ 2000 ∧
    t.tripConfirm = q.tripConfirm.getD 300 ∧ 100 ≤ t.tripConfirm ∧ t.tripConfirm ≤ 2000 ∧
    t.overlap = q.overlap.getD 150 ∧ 40 ≤ t.overlap ∧ t.overlap ≤ 500 ∧
    t.settleTime = q.settleTime.getD 5 ∧ 2 ≤ t.settleTime ∧ t.settleTime ≤ 30 ∧
    t.settleWindow = q.settleWindow.getD 1500 ∧ 200 ≤ t.settleWindow ∧ t.settleWindow ≤ 5000

/-- R39: a transfer is in flight on a supply: its slot holds one with no result. -/
def flying (s : State) (n : SupplyNo) (t : Transfer) : Prop := s.slot n = some t ∧ t.result = none

/-- R40: the ticket counter lies in 1 to 65,535 and is the ticket of no transfer in flight, and no two transfers in flight
share a ticket. -/
structure TicketLaw (s : State) : Prop where
  low : 1 ≤ s.xfr.counter
  high : s.xfr.counter ≤ 65535
  fresh : ∀ n t, flying s n t → t.ticket ≠ s.xfr.counter
  apart : ∀ n m t u, flying s n t → flying s m u → t.ticket = u.ticket → n = m

/-- R40: the ticket number `j` places after `k`, counted from 65,535 on to 1. -/
def ticketPlaces (k j : Nat) : Nat := (k - 1 + j) % 65535 + 1

end Sys2Proof.Machine
end

