-- ==== Sys2Proof/Certificates/Slice0/Obligations.lean ====
section
/-! DEFINITION. Certificates/Slice0/Obligations.lean: the statements about the model, by the rules of spec/.

A statement of a command's effect gives the whole next state, built by the named operations from the state it was taken
in, so that it is the command's result, its frame and its completion in one. `heard rq n s` is the state in which STN
judges the request `rq` of station `n`, and `replied` answers it.

Two readings of the model stand under nearly every statement. The table has no row for the passing of time, so a timer
that is past due acts only when its row is taken, which then moves the part's timers on to the reading at which it was
due (log entry 2). And a row of a request is the arrival of that request at its port, judged and answered as the frame
that carries it would be, discarded with OVERRUN while the port serves (log entry 4). -/

open Sys2Proof Sys2Proof.Machine

/-! ## The queue and the starts -/

/-- The model's own queue (log entry 1): a step takes the command at the front; with none waiting the part idles. No
rule of the manual stops the part: every step answers a state. -/
def Obligations.StepTakesFrontCommand : Prop :=
  (∀ (s : State),
     (∀ c rest, s.pending = c :: rest → step s = exec c { s with pending := rest }) ∧
       (s.pending = [] → step s = .next s)) ∧
  (∀ s : State, goesOn (step s))

/-- R1: which start follows from what started the part. -/
def Obligations.StartKindFollowsCause : Prop :=
  ∀ c : StartCause,
    (startOf c = some .cold ↔
      c.coldInput = true ∨ ((c.powerUp = true ∨ c.warmInput = true) ∧ c.retainedKept = false)) ∧
    (startOf c = some .warm ↔
      (c.powerUp = true ∨ c.warmInput = true) ∧ c.retainedKept = true ∧ c.coldInput = false) ∧
    (startOf c = none ↔ c.powerUp = false ∧ c.coldInput = false ∧ c.warmInput = false)

/-- R1, R3, R20, R40, R66, R73, R76, R89, R90, R104, R108, R115, R119, R123, R124, R129, R137, R150, R156, R159, R160,
R162: COLD_START leaves the whole state at its cold-start values, with the lines as found, and the queue standing. The
model's choices in it: the part's timers run on, the outputs are released, an undefined watch entry's action is NOTIFY,
and a field that holds no value yet is none (log entries 2, 8, 9, 20, 23). -/
def Obligations.ColdStartSetsEveryBlock : Prop :=
  ∀ (c : StartCause) (t : Nat) (f : Found) (s : State) (ms : Nat), startOf c = some .cold → ms = max s.now t / 1000 →
    ∃ u, exec (.coldStart c t f) s = .next u ∧ u.now = max s.now t ∧ u.pending = s.pending ∧
      (∀ p, u.port p =
        { current := { rate := .r19200, address := 40, enabled := true },
          pending := { rate := .r19200, address := 40, enabled := true },
          flags := ⟨false, false, false, false, false, false⟩, serving := false, buffer := none, rx := .hunting,
          reply := none, restartNext := none, restartWaits := false }) ∧
      (∀ n, u.station n = if n = 0 then
          some { port := 0, addr := 1, role := .console, bound := none, flags := Vector.replicate 11 none,
                 enables := Vector.replicate 11 true, cursor := 1, gapMark := false, lastRequest := ms }
        else none) ∧
      u.stn.hold = none ∧
      (∀ i, u.source i =
        { state := .unlisted, hire := none, telemetry := none, stale := false, implausible := false, staleTimer := none,
          claim := none, reservation := none, runSeconds := 0, hireAcc := 0, lastClosed := 0 }) ∧
      (∀ n, u.supply n =
        { defined := false, home := none, autoRestore := false, returnHome := false, showHold := false,
          timing := ⟨3000, 400, 300, 150, 5, 1500⟩, state := .undefined, closed := none, record := none,
          ticket := none, restoreWaiting := false, lastRestore := none, dark := 0,
          inputs := (look f.aux n).map fun aux =>
            { source := none, faulted := false, aux := aux, voltage := false, period := none, absentSince := some ms,
              lastCrossing := none, closePulse := none, openPulse := none, window := none } }) ∧
      (∀ n, u.slot n = none) ∧ u.xfr.counter = 1 ∧
      (∀ k, u.sync k =
        { state := .free, ticket := none, supply := none, origin := none, target := none, originSource := none,
          targetSource := none, originCount := 0, targetCount := 0, lastCrossing := none, lastPeriod := none, run := 0,
          measurements := 0, last := none, grantTime := none }) ∧
      u.syn.queue = [] ∧ u.syn.limits = ⟨200, 100, 50, 30⟩ ∧
      (∀ i, u.tank i =
        { set := false, capacity := none, floor := none, book := none, acc := 0, mark := 0, lastRate := 0,
          lastLoad := none, loadKind := none, closedBurn := 0, lastEstimated := false, dry := false, overfill := false,
          estimated := false }) ∧
      u.tnk.price = 0 ∧
      (∀ d, u.delivery d = none) ∧ (∀ i, u.lastEnded i = none) ∧ u.dlv.returns = [] ∧ u.dlv.fill = f.fill ∧
      (∀ i, look u.dlv.fillUnread i = false) ∧
      (∀ k, u.chan k =
        { defined := false, supply := none, account := none, wh := 1, width := 20, line := look f.meter k,
          pulseStart := none, discardMark := false, lastFall := if look f.meter k then none else some ms,
          bins := List.replicate 60 0, energy := 0, lastEnergy := 0, noise := false, discarded := 0,
          saturated := false }) ∧
      (∀ a col, cell u.mtr.matrix a col = 0) ∧
      u.stl.clock =
        { time := 0, minutes := 15, pendingMinutes := none, index := 0, serial := 1, start := 0, nextBoundary := 900,
          ticks := 0 } ∧
      u.stl.records = [] ∧ u.stl.closePending = false ∧ u.stl.settled = none ∧
      (∀ a, u.account a =
        { defined := decide (a = 0), reference := none, lastEnergy := 0, lastUnsourced := 0, lastCharge := 0,
          lastDark := 0, bankA := ⟨0, 0, 0, 0, 0, false⟩, bankB := ⟨0, 0, 0, 0, 0, false⟩ }) ∧
      u.stl.bankA = ⟨.active, some 0, none⟩ ∧ u.stl.bankB = ⟨.released, none, none⟩ ∧
      (∀ w, u.watch w =
        { defined := false, armed := false, operand := none, cond := .always, threshold := 0, hysteresis := 0,
          persistence := 0, action := .notify, supply := none, priority := none, mask := 0, state := .idle,
          counter := 0, refusalReported := false, lastValue := none, lastCond := false, ticket := none,
          lastStatus := none }) ∧
      u.log = { ring := [{ seq := 1, time := 0, kind := .coldStart, subject := none, v1 := none, v2 := none }],
                next := 2 }

/-- R18, R38, R65, R75, R88, R107, R118, R136, R149, R150, R156, R160, R165: a warm restart, stage by stage, in the order
of log entry 19. The outage is added to the site clock; STN's flags are cleared, RESTARTED set and the gap marks judged
afresh; WARM_RESTART is appended; every block's records are kept but for what its rule clears; each transfer in flight
ends INTERRUPTED; the lines are taken as found and each defined supply is derived, or driven to a restart open; unloading
deliveries are surveyed; and STL announces again and takes a boundary that has passed. What stands whatever the later
stages raise is said of the state they end in. The model's choices in it: the supplies and the deliveries of a stage are
taken in rising number (log entry 11, DESIGN CHOICE), a deadline may pass 2^32 - 1 (21, DEDUCED), and pulses being driven
are released (20). -/
def Obligations.WarmRestartKeepsAndClears : Prop :=
  (∀ (c : StartCause) (t elapsed : Nat) (f : Found) (s : State) (ms time : Nat), startOf c = some .warm →
    ms = max s.now t / 1000 → time = min (s.stl.clock.time + elapsed) 4294967295 →
    ∃ told kept ended lined u : State,
      (told = { s with now := max s.now t, stl := { s.stl with clock := { s.stl.clock with time := time } },
                       stn := told.stn } ∧
        told.stn.hold = none ∧ (∀ n, s.station n = none → told.station n = none) ∧
        (∀ n st, s.station n = some st → ∃ g, told.station n = some
            { st with flags := g, lastRequest := ms, gapMark := decide (st.cursor < oldestOf s.log) } ∧
          ∀ i, look g i =
            if i = causeIndex .restarted then some .restartedWarm
            else if i = causeIndex .logGap ∧ st.cursor < oldestOf s.log then
              some (.logGap (oldestOf s.log) (oldestOf s.log - st.cursor))
            else none)) ∧
      (∃ v, v = logAppend .warmRestart none none none told ∧
        kept = { v with lnk := kept.lnk, src := kept.src, syn := kept.syn, tnk := kept.tnk, dlv := kept.dlv,
                        mtr := kept.mtr, wch := kept.wch }) ∧
      (∀ p, kept.port p =
        { s.port p with current := (s.port p).pending, flags := ⟨false, false, false, false, false, false⟩,
                        serving := false, buffer := none, rx := .hunting, reply := none, restartNext := none,
                        restartWaits := false }) ∧
      (∀ i, (onHire (s.source i) = false → kept.source i = { s.source i with claim := none }) ∧
        (∀ h, onHire (s.source i) = true → (s.source i).hire = some h → kept.source i =
          { s.source i with stale := true, staleTimer := some (ms + h.staleTime * 1000), claim := none })) ∧
      ((∀ k, kept.sync k =
          { state := .free, ticket := none, supply := none, origin := none, target := none, originSource := none,
            targetSource := none, originCount := 0, targetCount := 0, lastCrossing := none, lastPeriod := none,
            run := 0, measurements := 0, last := none, grantTime := none }) ∧
        kept.syn.queue = [] ∧ kept.syn.limits = s.syn.limits) ∧
      ((∀ i, kept.tank i = { s.tank i with lastRate := 0, lastLoad := none, loadKind := none }) ∧
        kept.tnk.price = s.tnk.price) ∧
      ((∀ k, kept.chan k = { s.chan k with
          line := look f.meter k, bins := List.replicate 60 0, pulseStart := none, discardMark := false,
          lastFall := if look f.meter k then none else some ms }) ∧
        kept.mtr.matrix = s.mtr.matrix) ∧
      (∀ w, kept.watch w = { s.watch w with
        state := .idle, counter := 0, refusalReported := false, lastValue := none, lastCond := false }) ∧
      ((∀ d, s.delivery d = none → kept.delivery d = none) ∧
        (∀ d r, s.delivery d = some r →
          (r.state = .armed ∨ r.state = .waitingUnload → kept.delivery d = some { r with
            unloads := [], armTimer := some (ms + r.armMinutes * 60000), finishTimer := none, surveyTimer := none,
            deadline := some (time + r.armMinutes * 60) }) ∧
          (r.state = .filled → kept.delivery d = some { r with
            unloads := [], armTimer := none, finishTimer := some (ms + r.finishMinutes * 60000), surveyTimer := none,
            deadline := some (time + r.finishMinutes * 60) }) ∧
          (r.state = .opened → kept.delivery d = some { r with
            unloads := [], armTimer := none, finishTimer := none, surveyTimer := none })) ∧
        (∀ i, kept.lastEnded i = (s.lastEnded i).map fun r => { r with unloads := [] }) ∧
        kept.dlv.returns = s.dlv.returns.map (fun e => { e with
          window := some (ms + 1800000), deadline := time + 1800, ticket := none, attempt := some (ms + 10000) }) ∧
        kept.dlv.fill = f.fill ∧ (∀ i, look kept.dlv.fillUnread i = true)) ∧
      ended = (indices 12).foldl interrupt kept ∧
      (lined = { ended with sup := lined.sup } ∧
        ∀ n, lined.supply n =
            { ended.supply n with inputs := (lined.supply n).inputs, restoreWaiting := false, lastRestore := none } ∧
          ∀ x, lined.input n x =
            { ended.input n x with aux := (look f.aux n).get x, voltage := false, absentSince := some ms, period := none,
                                   lastCrossing := none, closePulse := none, openPulse := none, window := none }) ∧
      u = warmSettlement ((indices 8).foldl warmSurvey ((indices 12).foldl warmSupply lined)) ∧
      exec (.warmRestart c t elapsed f) s = .next u ∧
      u.lnk = kept.lnk ∧ u.stn.hold = none ∧ u.now = max s.now t ∧ u.stl.clock.time = time ∧
      (∀ n, s.station n = none → u.station n = none) ∧
      (∀ n st, s.station n = some st → ∃ st', u.station n = some st' ∧ st'.port = st.port ∧ st'.addr = st.addr ∧
        st'.role = st.role ∧ st'.bound = st.bound ∧ st'.enables = st.enables ∧ st'.cursor = st.cursor ∧
        st'.lastRequest = ms) ∧
      s.log.next ≤ u.log.next ∧ u.syn.limits = s.syn.limits ∧ u.tnk.price = s.tnk.price ∧
      (∀ k, (u.chan k).bins = List.replicate 60 0 ∧ (u.chan k).defined = (s.chan k).defined ∧
        (u.chan k).supply = (s.chan k).supply ∧ (u.chan k).account = (s.chan k).account ∧
        (u.chan k).wh = (s.chan k).wh ∧ (u.chan k).width = (s.chan k).width ∧ (u.chan k).noise = (s.chan k).noise ∧
        (u.chan k).discarded = (s.chan k).discarded ∧ (u.chan k).saturated = (s.chan k).saturated)) ∧
  (∀ (s : State) (n : SupplyNo),
    ((∀ t, ¬ flying s n t) → interrupt s n = s) ∧
    (∀ t, flying s n t → interrupt s n = tellOriginator n t .interrupted
      (raise (.transferEnded t.ticket n .interrupted) (endedAudience s t.originator .interrupted)
        (logAppend .transferEnd (some t.ticket) (num n) (some (resultCode .interrupted))
          (setSlot n (some { t with phaseTimer := none, syncTimer := none, syncChannel := none, tripReport := none,
                                    result := some .interrupted, endTime := some s.stl.clock.time }) s)))) ∧
    ((s.supply n).defined = false → warmSupply s n = s) ∧
    ((s.supply n).defined = true →
      (∀ t, s.slot n = some t → (s.supply n).state = .transfer →
        (∃ x y, x ≠ y ∧ (s.input n x).aux = true ∧ (s.input n y).aux = true) →
        ∀ v, v = setSupply n { s.supply n with state := .fault, closed := none, record := none } s →
        warmSupply s n = setInput n t.target
          { s.input n t.target with
            openPulse := some (s.now / 1000 + 100),
            window := some { dir := .toOpen, ends := s.now / 1000 + (s.supply n).timing.confirm, restart := true } }
          v) ∧
      ((s.supply n).state ≠ .transfer ∨ s.slot n = none ∨
          (∀ x y, (s.input n x).aux = true → (s.input n y).aux = true → x = y) →
        warmSupply s n = derive n s))) ∧
  (∀ (s : State) (d : SlotNo),
    (s.delivery d = none → warmSurvey s d = s) ∧
    (∀ r, s.delivery d = some r →
      (r.state = .waitingUnload ∨
          (r.state = .opened ∧ r.fillWhileLoaded = true ∧ (s.source r.source).state ≠ .refuel) →
        warmSurvey s d = survey d (setDelivery d (some { r with surveyTimer := some (s.now / 1000 + 10000) }) s)) ∧
      (r.state ≠ .waitingUnload →
        r.state ≠ .opened ∨ r.fillWhileLoaded = false ∨ (s.source r.source).state = .refuel →
        warmSurvey s d = s))) ∧
  (∀ (s u : State), u = s.stl.records.foldl reannounce s →
    warmSettlement s =
      if u.stl.clock.nextBoundary ≤ u.stl.clock.time then takeBoundary u.stl.clock.nextBoundary u else u) ∧
  (∀ (s : State) (r : SettleRec),
    (r.hire.isSome = true → r.burn.isSome = true → r.matrix.isSome = true → r.dark.isSome = true →
      reannounce s r = s) ∧
    (r.hire = none → r.burn = none → r.matrix = none → r.dark = none → reannounce s r =
      announceDark r.serial (announceMatrix r.serial (announceBurn r.serial (announceHire r.serial s)))))

/-! ## Laws that every step keeps -/

/-- R130, R124: one bank is ACTIVE and the other FROZEN or RELEASED, and account 0 is defined, after every step. -/
def Obligations.BankLawKept : Prop :=
  ∀ s t : State, BankLaw s → OverheadLaw s → step s = .next t → BankLaw t ∧ OverheadLaw t

/-- R159, R156: after every step the map hold is free, or its holder is a listed station, and no two listed stations
share a port and a link address. -/
def Obligations.StationLawsKept : Prop :=
  (∀ s t : State, HoldLaw s → step s = .next t → HoldLaw t) ∧
  (∀ s t : State, AddressLaw s → step s = .next t → AddressLaw t)

/-- R162: after every step the ring's numbers run without a gap up to the next sequence number, and no cursor lies
beyond it. -/
def Obligations.LogLawKept : Prop :=
  ∀ s t : State, RingLaw s → CursorLaw s → step s = .next t → RingLaw t ∧ CursorLaw t

/-- R150: after every step the flags of a disabled port are clear. -/
def Obligations.DisabledPortFlagsStayClear : Prop :=
  ∀ s t : State, QuietPortLaw s → step s = .next t → QuietPortLaw t

/-- The state right after reset keeps the laws. -/
def Obligations.ResetKeepsTheLaws : Prop :=
  BankLaw State.reset ∧ OverheadLaw State.reset ∧ HoldLaw State.reset ∧ RingLaw State.reset ∧
    CursorLaw State.reset ∧ AddressLaw State.reset ∧ QuietPortLaw State.reset ∧ TicketLaw State.reset

/-! ## Requests and answers -/

/-- R152: at a port that serves, a request is discarded with OVERRUN and what is being served is not disturbed. R157
check 1, R161: at one that does not, a request from an address that lists no station is answered DENIED with attention
false, before its kind or its length is judged. One through a disabled port has no effect. That a request row is judged as
its frame would be is the model's (log entry 4). -/
def Obligations.UnlistedRequesterDenied : Prop :=
  ∀ (c : Instr) (rq : Request) (code : Nat) (s : State),
    (∃ k : Kind, asks c = some (rq, k) ∧ code = k.code) ∨
      (c = .unlistedKind rq code ∧ code < 128 ∧ listedKind code = false) →
    (enabled s rq.port = false → exec c s = .next (advanceTo rq.t s)) ∧
    (enabled s rq.port = true → (s.port rq.port).serving = true →
      exec c s = .next (setPortFlag rq.port .overrun (advanceTo rq.t s)) ∧
      ∀ t, exec c s = .next t → t.port rq.port =
        { s.port rq.port with flags := withPortFlag (s.port rq.port).flags .overrun }) ∧
    (enabled s rq.port = true → (s.port rq.port).serving = false →
      (∀ n st, s.station n = some st → ¬ (st.port = rq.port ∧ st.addr = rq.addr)) →
      exec c s = .next (setPort rq.port
        { s.port rq.port with
          serving := true,
          reply := some { dest := rq.addr, src := (s.port rq.port).current.address, kind := code + 128,
                          status := .denied, attention := false, body := .empty } } (advanceTo rq.t s)))

/-- R157 checks 2 to 5 in their order, for every kind: BAD_LENGTH, then DENIED to a role not permitted, then NO_HOLD or
HELD with the holder; a kind that the table does not list is answered BAD_KIND before its length is judged. Only
the last-request time of the requester has changed, to the time of the request. Then the table of kinds: section 12.2's
codes and lengths, with no other kind listed (R167), and R157's roles and map hold. -/
def Obligations.RequestChecksInOrder : Prop :=
  (∀ (c : Instr) (rq : Request) (k : Kind) (n : StationNo) (st : Station) (s : State),
     asks c = some (rq, k) → Heard rq n st s →
     (rq.len ≠ k.len → exec c s = replied rq k n .badLength .empty (heard rq n s)) ∧
     (rq.len = k.len → st.role ∉ k.roles → exec c s = replied rq k n .denied .empty (heard rq n s)) ∧
     (rq.len = k.len → st.role ∈ k.roles → k.hold = true → s.stn.hold = none →
       exec c s = replied rq k n .noHold .empty (heard rq n s)) ∧
     (rq.len = k.len → st.role ∈ k.roles → k.hold = true → ∀ m, s.stn.hold = some m → m ≠ n →
       exec c s = replied rq k n .held (.held m) (heard rq n s))) ∧
  (∀ (rq : Request) (kind : Nat) (n : StationNo) (st : Station) (s : State),
     kind < 128 → listedKind kind = false → Heard rq n st s →
     exec (.unlistedKind rq kind) s = .next (answer rq kind (some n) .badKind .empty (heard rq n s))) ∧
  (∀ (rq : Request) (n : StationNo) (st : Station) (s : State), s.station n = some st →
     heard rq n s = setStation n (some { st with lastRequest := max s.now rq.t / 1000 }) { s with now := max s.now rq.t }) ∧
  (let link : List Kind := [kindPing, kindTakeHold, kindReleaseHold, kindForceRelease, kindEnrolStation,
     kindRemoveStation, kindSetEnables, kindClearEnables, kindClearCauses, kindQueryAttention, kindReadLog, kindSeekLog,
     kindSetTime, kindSetPort, kindRestartPort, kindReadPort]
   let sources : List Kind := [kindHireSource, kindOffHireSource, kindSourceReport, kindReadSource]
   let supplies : List Kind := [kindDefineSupply, kindTransfer, kindAbortTransfer, kindSetShowHold, kindClearShowHold,
     kindClearFault, kindReadSupply, kindReadTransfer, kindSetSyncLimits]
   let fuel : List Kind := [kindSetTank, kindSetFuelPrice, kindArmDelivery, kindMeterReading, kindCloseDelivery,
     kindCancelDelivery, kindReadTank, kindReadDelivery]
   let billing : List Kind := [kindDefineChannel, kindDefineAccount, kindRemoveAccount, kindSetInterval, kindClosePeriod,
     kindReleasePeriod, kindReadAccount, kindReadChannel, kindReadSettlement]
   let watch : List Kind := [kindDefineWatch, kindArmWatches, kindDisarmWatches, kindReadWatch]
   (link.map fun k => (k.code, k.len)) = [(0x01, 0), (0x02, 0), (0x03, 0), (0x04, 0), (0x05, 4), (0x06, 1), (0x07, 2),
     (0x08, 2), (0x09, 2), (0x0A, 0), (0x0B, 1), (0x0C, 1), (0x0D, 4), (0x0E, 4), (0x0F, 1), (0x10, 1)] ∧
   (sources.map fun k => (k.code, k.len)) = [(0x20, 20), (0x21, 1), (0x22, 12), (0x23, 1)] ∧
   (supplies.map fun k => (k.code, k.len)) = [(0x30, 17), (0x31, 4), (0x32, 3), (0x33, 1), (0x34, 1), (0x35, 1),
     (0x36, 1), (0x37, 1), (0x38, 5)] ∧
   (fuel.map fun k => (k.code, k.len)) = [(0x40, 13), (0x41, 2), (0x42, 15), (0x43, 8), (0x44, 8), (0x45, 4), (0x46, 1),
     (0x47, 1)] ∧
   (billing.map fun k => (k.code, k.len)) = [(0x50, 6), (0x51, 6), (0x52, 1), (0x53, 1), (0x54, 0), (0x55, 0), (0x56, 2),
     (0x57, 1), (0x58, 0)] ∧
   (watch.map fun k => (k.code, k.len)) = [(0x60, 18), (0x61, 4), (0x62, 4), (0x63, 1)] ∧
   (∀ code, listedKind code = true ↔
     ∃ k ∈ link ++ sources ++ supplies ++ fuel ++ billing ++ watch, k.code = code)) ∧
  (∀ k ∈ [kindPing, kindSetEnables, kindClearEnables, kindClearCauses, kindQueryAttention, kindReadLog, kindSeekLog,
     kindReadTransfer], (∀ r, r ∈ k.roles) ∧ k.hold = false) ∧
  (∀ k ∈ [kindTakeHold, kindReleaseHold, kindReadSource, kindReadTank],
     (∀ r, r ∈ k.roles ↔ r = .console ∨ r = .fleet ∨ r = .fuel) ∧ k.hold = false) ∧
  (∀ k ∈ [kindHireSource, kindOffHireSource], (∀ r, r ∈ k.roles ↔ r = .console ∨ r = .fleet) ∧ k.hold = true) ∧
  ((∀ r, r ∈ kindSourceReport.roles ↔ r = .console ∨ r = .fleet) ∧ kindSourceReport.hold = false) ∧
  ((∀ r, r ∈ kindSetTank.roles ↔ r = .console ∨ r = .fuel) ∧ kindSetTank.hold = true) ∧
  (∀ k ∈ [kindArmDelivery, kindMeterReading, kindCloseDelivery, kindCancelDelivery, kindReadDelivery],
     (∀ r, r ∈ k.roles ↔ r = .console ∨ r = .fuel) ∧ k.hold = false) ∧
  ((∀ r, r ∈ kindReadSupply.roles ↔ r = .console ∨ r = .fleet ∨ r = .stage) ∧ kindReadSupply.hold = false) ∧
  (∀ k ∈ [kindTransfer, kindAbortTransfer, kindSetShowHold, kindClearShowHold, kindReadChannel, kindReadAccount],
     (∀ r, r ∈ k.roles ↔ r = .console ∨ r = .stage) ∧ k.hold = false) ∧
  (∀ k ∈ [kindEnrolStation, kindRemoveStation, kindDefineSupply, kindDefineChannel, kindDefineAccount,
     kindRemoveAccount, kindSetInterval, kindSetSyncLimits, kindDefineWatch],
     (∀ r, r ∈ k.roles ↔ r = .console) ∧ k.hold = true) ∧
  (∀ k ∈ [kindForceRelease, kindSetTime, kindSetPort, kindRestartPort, kindReadPort, kindClearFault, kindSetFuelPrice,
     kindClosePeriod, kindReleasePeriod, kindReadSettlement, kindArmWatches, kindDisarmWatches, kindReadWatch],
     (∀ r, r ∈ k.roles ↔ r = .console) ∧ k.hold = false)

/-- R157 check 4: a STAGE station that names a supply, a channel or an account not its own is answered DENIED in the
requests of its table that are bound to its supply: TRANSFER, ABORT TRANSFER, SET and CLEAR SHOW HOLD (naming all
included), READ SUPPLY, READ CHANNEL and READ ACCOUNT. READ TRANSFER is not among them: the model answers it whichever
supply is named (log entry 37, DEDUCED), as the statement of the reads says. -/
def Obligations.StageStationsNameTheirOwn : Prop :=
  ∀ (rq : Request) (n : StationNo) (st : Station) (s : State), st.role = .stage →
    (∀ (k : Nat) (m : SupplyNo), number? 12 k = some m → st.bound ≠ some m →
      (Taken rq kindTransfer n st s → ∀ target mode priority, exec (.transfer rq k target mode priority) s =
        replied rq kindTransfer n .denied .empty (heard rq n s)) ∧
      (Taken rq kindAbortTransfer n st s → ∀ ticket, exec (.abortTransfer rq k ticket) s =
        replied rq kindAbortTransfer n .denied .empty (heard rq n s)) ∧
      (Taken rq kindSetShowHold n st s → exec (.setShowHold rq false k) s =
        replied rq kindSetShowHold n .denied .empty (heard rq n s)) ∧
      (Taken rq kindClearShowHold n st s → exec (.clearShowHold rq k) s =
        replied rq kindClearShowHold n .denied .empty (heard rq n s)) ∧
      (Taken rq kindReadSupply n st s → exec (.readSupply rq k) s =
        replied rq kindReadSupply n .denied .empty (heard rq n s))) ∧
    (Taken rq kindSetShowHold n st s → exec (.setShowHold rq false 0) s =
      replied rq kindSetShowHold n .denied .empty (heard rq n s)) ∧
    (Taken rq kindClearShowHold n st s → exec (.clearShowHold rq 0) s =
      replied rq kindClearShowHold n .denied .empty (heard rq n s)) ∧
    (∀ (k : Nat) (c : ChannelNo), index? 24 k = some c →
      ((s.chan c).defined = false ∨ (s.chan c).supply = none ∨ (s.chan c).supply ≠ st.bound) →
      Taken rq kindReadChannel n st s → exec (.readChannel rq k) s =
        replied rq kindReadChannel n .denied .empty (heard rq n s)) ∧
    (∀ (k : Nat) (a : AccountNo), index? 48 k = some a →
      (∀ c m, (s.chan c).defined = true → (s.chan c).account = some a → (s.chan c).supply = some m →
        st.bound ≠ some m) →
      Taken rq kindReadAccount n st s → ∀ bank, exec (.readAccount rq k bank) s =
        replied rq kindReadAccount n .denied .empty (heard rq n s))

/-- R166, R157: a request taken by STN that names a source, a supply, a channel, an account, a watch entry, a station
or a port outside the part's numbers is answered RANGE by its owner and changes nothing. R4, R6, R21, R42, R61, R77, R86,
R109, R125, R133, R154, R158: so is one with any other field outside its range, whatever object it names and before any
other check of its owner. The ranges of ARM DELIVERY, SET INTERVAL, DEFINE WATCH, SET SYNC LIMITS, READ LOG and SEEK LOG
stand in their own statements. The model's choices in it: a STAGE station's priority is lowered before it is judged (log
entry 26, DEDUCED), and a bank code above 1 and a flag byte above 1 are judged with the first check (46, 47, DESIGN
CHOICE). -/
def Obligations.NumbersOutOfRangeAreRefused : Prop :=
  ∀ (rq : Request) (n : StationNo) (st : Station) (s : State) (k : Nat),
    let no : Kind → Host.Outcome State Fault Refusal := fun q => replied rq q n .range .empty (heard rq n s)
    let own : Prop := st.role = .stage → ∀ m, number? 12 k = some m → st.bound = some m
    (k = 0 ∨ 16 < k →
      (Taken rq kindHireSource n st s → ∀ a c b d e f, exec (.hireSource rq k a c b d e f) s = no kindHireSource) ∧
      (Taken rq kindOffHireSource n st s → exec (.offHireSource rq k) s = no kindOffHireSource) ∧
      (Taken rq kindSourceReport n st s → ∀ a b c d e f,
        exec (.sourceReport rq k a b c d e f) s = no kindSourceReport) ∧
      (Taken rq kindReadSource n st s → exec (.readSource rq k) s = no kindReadSource) ∧
      (Taken rq kindSetTank n st s → ∀ a b c, exec (.setTank rq k a b c) s = no kindSetTank) ∧
      (Taken rq kindReadTank n st s → exec (.readTank rq k) s = no kindReadTank) ∧
      (Taken rq kindArmDelivery n st s → ∀ a b c d e f, exec (.armDelivery rq k a b c d e f) s = no kindArmDelivery) ∧
      (Taken rq kindReadDelivery n st s → exec (.readDelivery rq k) s = no kindReadDelivery)) ∧
    (k = 0 ∨ 12 < k →
      (Taken rq kindDefineSupply n st s → ∀ q h a b t, exec (.defineSupply rq k q h a b t) s = no kindDefineSupply) ∧
      (Taken rq kindTransfer n st s → ∀ a b c, exec (.transfer rq k a b c) s = no kindTransfer) ∧
      (Taken rq kindAbortTransfer n st s → ∀ a, exec (.abortTransfer rq k a) s = no kindAbortTransfer) ∧
      (Taken rq kindClearFault n st s → exec (.clearFault rq k) s = no kindClearFault) ∧
      (Taken rq kindReadSupply n st s → exec (.readSupply rq k) s = no kindReadSupply) ∧
      (Taken rq kindReadTransfer n st s → exec (.readTransfer rq k) s = no kindReadTransfer)) ∧
    (12 < k →
      (Taken rq kindSetShowHold n st s → exec (.setShowHold rq false k) s = no kindSetShowHold) ∧
      (Taken rq kindClearShowHold n st s → exec (.clearShowHold rq k) s = no kindClearShowHold)) ∧
    (24 ≤ k →
      (Taken rq kindDefineChannel n st s → ∀ a b c d, exec (.defineChannel rq k a b c d) s = no kindDefineChannel) ∧
      (Taken rq kindReadChannel n st s → exec (.readChannel rq k) s = no kindReadChannel)) ∧
    (48 ≤ k →
      (Taken rq kindDefineAccount n st s → ∀ a b, exec (.defineAccount rq k a b) s = no kindDefineAccount) ∧
      (Taken rq kindRemoveAccount n st s → exec (.removeAccount rq k) s = no kindRemoveAccount) ∧
      (Taken rq kindReadAccount n st s → ∀ b, exec (.readAccount rq k b) s = no kindReadAccount)) ∧
    (32 ≤ k →
      (Taken rq kindDefineWatch n st s → ∀ f, exec (.defineWatch rq k f) s = no kindDefineWatch) ∧
      (Taken rq kindRemoveStation n st s → exec (.removeStation rq k) s = no kindRemoveStation)) ∧
    (4 ≤ k → Taken rq kindEnrolStation n st s → ∀ a b c,
      exec (.enrolStation rq k a b c) s = no kindEnrolStation) ∧
    (Taken rq kindHireSource n st s → ∀ (rating rate hot limit stale : Nat) (c : Curve),
      rating < 20 ∨ 2500 < rating ∨ c.r1 < c.r0 ∨ c.r2 < c.r1 ∨ c.r3 < c.r2 ∨ c.r4 < c.r3 ∨ 1 < hot ∨
          (limit ≠ 0 ∧ (limit < 500 ∨ 1000 < limit)) ∨ (stale ≠ 0 ∧ (stale < 2 ∨ 60 < stale)) →
      exec (.hireSource rq k rating c rate hot limit stale) s = no kindHireSource) ∧
    (Taken rq kindSourceReport n st s → ∀ run load volts freq gauge alarms, 1 < run →
      exec (.sourceReport rq k run load volts freq gauge alarms) s = no kindSourceReport) ∧
    (Taken rq kindDefineSupply n st s → ∀ (q : Abc (Option Nat)) (home : Option Nat) (auto back : Bool) (tq : TimingReq),
      (∃ x v, q.get x = some v ∧ (v = 0 ∨ 16 < v)) ∨
          (∃ v, home = some v ∧ ∀ x, inputCode x = v → q.get x = none) ∨
          (∃ v, tq.deadTime = some v ∧ 10000 < v) ∨ (∃ v, tq.confirm = some v ∧ (v < 100 ∨ 2000 < v)) ∨
          (∃ v, tq.tripConfirm = some v ∧ (v < 100 ∨ 2000 < v)) ∨ (∃ v, tq.overlap = some v ∧ (v < 40 ∨ 500 < v)) ∨
          (∃ v, tq.settleTime = some v ∧ (v < 2 ∨ 30 < v)) ∨
          (∃ v, tq.settleWindow = some v ∧ (v < 200 ∨ 5000 < v)) →
      exec (.defineSupply rq k q home auto back tq) s = no kindDefineSupply) ∧
    (own → Taken rq kindTransfer n st s → ∀ target mode priority,
      3 < target ∨ 2 < mode ∨ (st.role ≠ .stage ∧ 7 < priority) →
      exec (.transfer rq k target mode priority) s = no kindTransfer) ∧
    (own → Taken rq kindAbortTransfer n st s → exec (.abortTransfer rq k 0) s = no kindAbortTransfer) ∧
    (Taken rq kindSetTank n st s → ∀ capacity floor level,
      capacity < 10 ∨ 200000 < capacity ∨ capacity < floor →
      exec (.setTank rq k capacity floor level) s = no kindSetTank) ∧
    (Taken rq kindSetFuelPrice n st s → 65535 < k → exec (.setFuelPrice rq k) s = no kindSetFuelPrice) ∧
    (Taken rq kindDefineChannel n st s → ∀ (m : Option Nat) (account wh : Nat) (width : Option Nat),
      (∃ v, m = some v ∧ (v = 0 ∨ 12 < v)) ∨ 48 ≤ account ∨ wh = 0 ∨ 1000 < wh ∨
          (∃ v, width = some v ∧ (v < 5 ∨ 100 < v)) →
      exec (.defineChannel rq k m (some account) wh width) s = no kindDefineChannel) ∧
    (Taken rq kindDefineAccount n st s → ∀ present reference, 1 < present →
      exec (.defineAccount rq k present reference) s = no kindDefineAccount) ∧
    (Taken rq kindReadAccount n st s →
      st.role ≠ .stage ∨ (∃ (a : AccountNo) (c : ChannelNo) (m : SupplyNo), k = a.1 ∧ (s.chan c).defined = true ∧
        (s.chan c).account = some a ∧ (s.chan c).supply = some m ∧ st.bound = some m) →
      ∀ bank, 1 < bank → exec (.readAccount rq k bank) s = no kindReadAccount) ∧
    (Taken rq kindSetPort n st s → ∀ rate address e, 5 < rate ∨ address < 32 ∨ 47 < address ∨ 1 < e →
      exec (.setPort rq k rate address e) s = no kindSetPort) ∧
    (Taken rq kindEnrolStation n st s → ∀ address role m,
      address = 0 ∨ 31 < address ∨ 3 < role ∨ (role = 3 ∧ (m = none ∨ ∃ v, m = some v ∧ (v = 0 ∨ 12 < v))) →
      exec (.enrolStation rq k address role m) s = no kindEnrolStation)

/-- R152, R161, R160: where an answer goes and what it carries, its attention indication that of the requester, and false
to one that is not listed; what a raise writes, in the station records alone; and where the attention output of a port is asserted. -/
def Obligations.AnswersAndRaises : Prop :=
  (∀ (rq : Request) (code : Nat) (who : Option StationNo) (status : Status) (body : Body) (attention : Bool) (s : State),
    (attention = true ↔ ∃ n st i, who = some n ∧ s.station n = some st ∧ (look st.flags i).isSome = true ∧
      look st.enables i = true) →
    answer rq code who status body s = setPort rq.port
      { s.port rq.port with
        serving := true,
        reply := some { dest := rq.addr, src := (s.port rq.port).current.address, kind := code + 128, status := status,
                        attention := attention, body := body } } s) ∧
  (∀ (rq : Request) (code : Nat) (status : Status) (body : Body) (s : State),
    ((answer rq code none status body s).port rq.port).reply =
      some { dest := rq.addr, src := (s.port rq.port).current.address, kind := code + 128, status := status,
             attention := false, body := body } ∧
    ∀ p, p ≠ rq.port → ∀ who, (answer rq code who status body s).port p = s.port p) ∧
  (∀ (d : Detail) (who : StationNo → Station → Bool) (s : State) (n : StationNo),
    (s.station n = none → (raise d who s).station n = none) ∧
    (∀ st, s.station n = some st → who n st = false → (raise d who s).station n = some st) ∧
    (∀ st, s.station n = some st → who n st = true →
      (raise d who s).station n =
        some { st with flags := upd st.flags (causeIndex (detailCause d)) (some d) })) ∧
  (∀ (d : Detail) (who : StationNo → Station → Bool) (s : State),
    raise d who s = { s with stn := { s.stn with stations := (raise d who s).stn.stations } }) ∧
  (∀ (s : State) (p : PortNo), attentionOutput s p = true ↔
    enabled s p = true ∧ ∃ n st i, s.station n = some st ∧ st.port = p ∧ (look st.flags i).isSome = true ∧
      look st.enables i = true)

/-- R162: an append writes the next number and the site time, takes the place of the oldest record in a full ring,
marks and tells each station whose next record was lost, and changes nothing else; past 2^32 - 1 it does nothing.
-/
def Obligations.LogAppendTakesNextNumber : Prop :=
  ∀ (kind : LogKind) (subject v1 v2 : Option Nat) (s t : State), t = logAppend kind subject v1 v2 s →
    (4294967295 < s.log.next → t = s) ∧
    (s.log.next ≤ 4294967295 →
      t.log.next = s.log.next + 1 ∧
      t.log.ring = (if s.log.ring.length < 512 then s.log.ring else s.log.ring.drop 1) ++
        [{ seq := s.log.next, time := s.stl.clock.time, kind := kind, subject := subject, v1 := v1, v2 := v2 }] ∧
      (s.log.ring.length < 512 → t = { s with log := t.log }) ∧
      (s.log.ring.length = 512 →
        t = { s with log := t.log, stn := { s.stn with stations := t.stn.stations } } ∧
        (∀ n, s.station n = none → t.station n = none) ∧
        ∀ n st, s.station n = some st →
          (st.cursor ≤ s.log.next - 512 → st.gapMark = false → t.station n =
            some { st with gapMark := true,
                           flags := upd st.flags (causeIndex .logGap)
                             (some (.logGap (s.log.next + 1 - 512) (s.log.next + 1 - 512 - st.cursor))) }) ∧
          (s.log.next - 512 < st.cursor ∨ st.gapMark = true → t.station n = some st)))

/-! ## The link -/

/-- R151 to R153: a sound frame at a hunting port. A request to the port's address is held in the buffer and served as
its own row is (log entry 4); one that finds the port serving sets OVERRUN, and a reply's kind or another destination
is ignored. A broadcast acts as the broadcast form of SET TIME or of SET SHOW HOLD for all, which the model takes as a
row of its own (log entry 30); any other sets BAD_BROADCAST, or OVERRUN while the port serves. A broadcast row sets
BAD_BROADCAST from an address that lists no station, from a station that is not CONSOLE, at a wrong length and for one
supply alone, and OVERRUN at a port that serves; it has no other effect then, and none through a disabled port. That the port hunts on
after a sound frame it does not take is the model's reading (log entry 7, DEDUCED). A character with wrong parity or no
stop bit, a length above 200 and a wrong CRC each discard the frame with their flag, and the port waits for a quiet
line. -/
def Obligations.SoundFrameIsJudged : Prop :=
  (∀ (p : PortNo) (t : Nat) (f : Frame) (s : State),
    f.payload.length ≤ 200 → enabled s p = true → (s.port p).rx = .hunting →
    (f.kind.toNat < 128 → f.dest ≠ 0 → f.dest.toNat = (s.port p).current.address → (s.port p).serving = false →
      exec (.frameReceived p t (frameChars f)) s =
        exec (frameCommand p (max s.now t) f) (setPort p { s.port p with buffer := some f } (advanceTo t s))) ∧
    (f.kind.toNat < 128 → f.dest ≠ 0 → f.dest.toNat = (s.port p).current.address → (s.port p).serving = true →
      exec (.frameReceived p t (frameChars f)) s = .next (setPortFlag p .overrun (advanceTo t s))) ∧
    (128 ≤ f.kind.toNat ∨ (f.dest ≠ 0 ∧ f.dest.toNat ≠ (s.port p).current.address) →
      exec (.frameReceived p t (frameChars f)) s = .next (advanceTo t s)) ∧
    (f.dest = 0 → f.kind = 0x0D → ∀ a b c d, f.payload = [a, b, c, d] →
      exec (.frameReceived p t (frameChars f)) s =
        exec (.setTime { port := p, addr := f.src.toNat, len := 4, t := t } true
          (a.toNat * 16777216 + b.toNat * 65536 + c.toNat * 256 + d.toNat)) s) ∧
    (f.dest = 0 → f.kind = 0x33 → f.payload = [0] →
      exec (.frameReceived p t (frameChars f)) s =
        exec (.setShowHold { port := p, addr := f.src.toNat, len := 1, t := t } true 0) s) ∧
    (f.dest = 0 → f.kind.toNat < 128 → ¬ (f.kind = 0x0D ∧ f.payload.length = 4) →
      ¬ (f.kind = 0x33 ∧ f.payload = [0]) →
      exec (.frameReceived p t (frameChars f)) s =
        .next (setPortFlag p (if (s.port p).serving then .overrun else .badBroadcast) (advanceTo t s)))) ∧
  (∀ (p : PortNo) (t : Nat) (got : List Byte) (c : RxChar) (s : State), enabled s p = true →
    (s.port p).rx = .assembling got →
    ∀ lost : PortFlag → Host.Outcome State Fault Refusal,
      (∀ e, lost e = .next (setPortFlag p e (setPort p { s.port p with rx := .waitingQuiet } (advanceTo t s)))) →
      (c.parityOk = false → exec (.frameReceived p t [c]) s = lost .parity) ∧
      (c.parityOk = true → c.stopOk = false → exec (.frameReceived p t [c]) s = lost .framing) ∧
      (c.parityOk = true → c.stopOk = true →
        (got.length = 3 → 200 < c.byte.toNat → exec (.frameReceived p t [c]) s = lost .runt) ∧
        (∀ (f : Frame) (h : Byte), f.payload.length ≤ 200 →
          got = f.dest :: f.src :: f.kind :: BitVec.ofNat 8 f.payload.length :: f.payload ++ [h] →
          crc (f.dest :: f.src :: f.kind :: BitVec.ofNat 8 f.payload.length :: f.payload) ≠ h ++ c.byte →
          exec (.frameReceived p t [c]) s = lost .crc))) ∧
  (∀ (c : Instr) (rq : Request) (s : State) (len : Nat) (fits : Prop),
    (∃ time, c = .setTime rq true time ∧ len = 4 ∧ (fits ↔ True)) ∨
      (∃ supply, c = .setShowHold rq true supply ∧ len = 1 ∧ (fits ↔ supply = 0)) →
    (enabled s rq.port = false → exec c s = .next (advanceTo rq.t s)) ∧
    (enabled s rq.port = true → (s.port rq.port).serving = true →
      exec c s = .next (setPortFlag rq.port .overrun (advanceTo rq.t s))) ∧
    (enabled s rq.port = true → (s.port rq.port).serving = false →
      (∀ n st, s.station n = some st → ¬ (st.port = rq.port ∧ st.addr = rq.addr)) →
      exec c s = .next (setPortFlag rq.port .badBroadcast (advanceTo rq.t s))) ∧
    (∀ n st, Heard rq n st s → st.role ≠ .console ∨ rq.len ≠ len ∨ ¬ fits →
      exec c s = .next (setPortFlag rq.port .badBroadcast (advanceTo rq.t s))))

/-- R151, R152, R154: a port flag that newly sets is logged and raised to every CONSOLE station; one already set, or of
a disabled port, changes nothing. A gap inside a frame discards it with RUNT, and a quiet line lets the port hunt
again. The last character of a reply frees its port; the port that RESTART PORT named is restarted then, or, while
it serves a request of its own, once that reply has been sent; a port whose own restart waited restarts too. -/
def Obligations.PortsFlagAndFree : Prop :=
  ((∀ (p : PortNo) (f : PortFlag) (s : State),
     (flagSet (s.port p).flags f = true ∨ enabled s p = false → setPortFlag p f s = s) ∧
     (flagSet (s.port p).flags f = false → enabled s p = true → setPortFlag p f s =
       raise (.linkFault p f) toConsole (logAppend .linkFault (some p.1) (some (portFlagCode f)) none
         (setPort p { s.port p with flags := withPortFlag (s.port p).flags f } s)))) ∧
   (∀ (p : PortNo) (t : Nat) (got : List Byte) (s : State), (s.port p).rx = .assembling got → enabled s p = true →
     exec (.characterGapTimeout p t) s =
       .next (setPortFlag p .runt (setPort p { s.port p with rx := .waitingQuiet } (advanceTo t s)))) ∧
   (∀ (p : PortNo) (t : Nat) (s : State), (s.port p).rx = .waitingQuiet →
     exec (.lineQuiet p t) s = .next (setPort p { s.port p with rx := .hunting } (advanceTo t s)))) ∧
  (∀ (p : PortNo) (t : Nat) (r : Reply) (s : State), (s.port p).reply = some r →
     ((s.port p).restartNext = none → (s.port p).restartWaits = false →
       exec (.replySent p t) s = .next (setPort p
         { s.port p with serving := false, buffer := none, reply := none, rx := .hunting } (advanceTo t s))) ∧
     (∀ q, q ≠ p → (s.port p).restartNext = some q → (s.port p).restartWaits = false → (s.port q).serving = false →
       exec (.replySent p t) s = .next (setPort q
         { s.port q with current := (s.port q).pending, flags := ⟨false, false, false, false, false, false⟩,
                         buffer := none, rx := .hunting, restartWaits := false }
         (setPort p { s.port p with serving := false, buffer := none, reply := none, rx := .hunting,
                                    restartNext := none } (advanceTo t s)))) ∧
     (∀ q, q ≠ p → (s.port p).restartNext = some q → (s.port p).restartWaits = false → (s.port q).serving = true →
       exec (.replySent p t) s = .next (setPort q { s.port q with restartWaits := true }
         (setPort p { s.port p with serving := false, buffer := none, reply := none, rx := .hunting,
                                    restartNext := none } (advanceTo t s)))) ∧
     (∀ q own, q ≠ p → (s.port p).restartNext = some q → (s.port p).restartWaits = true →
       own = { s.port p with current := (s.port p).pending, flags := ⟨false, false, false, false, false, false⟩,
                             serving := false, buffer := none, reply := none, rx := .hunting, restartNext := none,
                             restartWaits := false } →
       ((s.port q).serving = false → exec (.replySent p t) s = .next (setPort q
         { s.port q with current := (s.port q).pending, flags := ⟨false, false, false, false, false, false⟩,
                         buffer := none, rx := .hunting, restartWaits := false } (setPort p own (advanceTo t s)))) ∧
       ((s.port q).serving = true → exec (.replySent p t) s = .next
         (setPort q { s.port q with restartWaits := true } (setPort p own (advanceTo t s))))) ∧
     ((s.port p).restartNext = some p ∨ ((s.port p).restartNext = none ∧ (s.port p).restartWaits = true) →
       exec (.replySent p t) s = .next (setPort p
         { s.port p with current := (s.port p).pending, flags := ⟨false, false, false, false, false, false⟩,
                         serving := false, buffer := none, reply := none, rx := .hunting, restartNext := none,
                         restartWaits := false } (advanceTo t s))))

/-! ## Stations, the map hold, attention and the log -/

/-- R157, R160, R161: PING, SET ENABLES, CLEAR ENABLES and CLEAR CAUSES are answered OK and act on the requester's own
record alone. QUERY ATTENTION answers the highest cause both set and enabled with its detail, and clears its flag;
with none it clears nothing. Either way the reply carries the flags still set. -/
def Obligations.OwnRecordRequests : Prop :=
  (∀ (rq : Request) (n : StationNo) (st : Station) (s : State) (mask : BitVec 16),
     (Taken rq kindPing n st s → exec (.ping rq) s = replied rq kindPing n .ok .empty (heard rq n s)) ∧
     (Taken rq kindSetEnables n st s → ∃ e, (∀ i : Fin 11, look e i = (mask.getLsbD i.1 || look st.enables i)) ∧
       exec (.setEnables rq mask) s = replied rq kindSetEnables n .ok .empty
         (setStation n (some { requester rq st s with enables := e }) (heard rq n s))) ∧
     (Taken rq kindClearEnables n st s → ∃ e, (∀ i : Fin 11, look e i = (!mask.getLsbD i.1 && look st.enables i)) ∧
       exec (.clearEnables rq mask) s = replied rq kindClearEnables n .ok .empty
         (setStation n (some { requester rq st s with enables := e }) (heard rq n s))) ∧
     (Taken rq kindClearCauses n st s →
       ∃ g, (∀ i : Fin 11, look g i = if mask.getLsbD i.1 then none else look st.flags i) ∧
       exec (.clearCauses rq mask) s = replied rq kindClearCauses n .ok .empty
         (setStation n (some { requester rq st s with flags := g }) (heard rq n s)))) ∧
  (∀ (rq : Request) (n : StationNo) (st : Station) (s : State), Taken rq kindQueryAttention n st s →
     ∃ left : BitVec 16,
       ((∀ i, ¬ ((look st.flags i).isSome = true ∧ look st.enables i = true)) →
         (∀ i : Fin 11, left.getLsbD i.1 = (look st.flags i).isSome) ∧
         exec (.queryAttention rq) s = replied rq kindQueryAttention n .ok (.attention none left) (heard rq n s)) ∧
       (∀ i d, look st.flags i = some d → look st.enables i = true →
         (∀ j, i < j → ¬ ((look st.flags j).isSome = true ∧ look st.enables j = true)) →
         (∀ j : Fin 11, left.getLsbD j.1 = (j != i && (look st.flags j).isSome)) ∧
         exec (.queryAttention rq) s = replied rq kindQueryAttention n .ok (.attention (some d) left)
           (setStation n (some { requester rq st s with flags := upd st.flags i none }) (heard rq n s))))

/-- R159: TAKE HOLD, RELEASE HOLD and FORCE RELEASE; and the lapse of the hold 120 s after its holder's last-request
time, logged, with its holder told. -/
def Obligations.MapHoldRequests : Prop :=
  (∀ (rq : Request) (n : StationNo) (st : Station) (s : State),
     (Taken rq kindTakeHold n st s →
       (s.stn.hold = none → exec (.takeHold rq) s = replied rq kindTakeHold n .ok .empty
         (logAppend .holdTaken (some n.1) none none (setHold (some n) (heard rq n s)))) ∧
       (s.stn.hold = some n → exec (.takeHold rq) s = replied rq kindTakeHold n .ok .empty (heard rq n s)) ∧
       (∀ m, s.stn.hold = some m → m ≠ n →
         exec (.takeHold rq) s = replied rq kindTakeHold n .held (.held m) (heard rq n s))) ∧
     (Taken rq kindReleaseHold n st s →
       (s.stn.hold = some n → exec (.releaseHold rq) s = replied rq kindReleaseHold n .ok .empty
         (logAppend .holdReleased (some n.1) none none (setHold none (heard rq n s)))) ∧
       (s.stn.hold ≠ some n →
         exec (.releaseHold rq) s = replied rq kindReleaseHold n .state .empty (heard rq n s))) ∧
     (Taken rq kindForceRelease n st s →
       (s.stn.hold = none → exec (.forceRelease rq) s = replied rq kindForceRelease n .ok .empty (heard rq n s)) ∧
       (∀ m, s.stn.hold = some m → exec (.forceRelease rq) s = replied rq kindForceRelease n .ok .empty
         (raise (.holdLapsed .forced) (toStation m)
           (logAppend .holdReleased (some m.1) (some n.1) none (setHold none (heard rq n s))))))) ∧
  (∀ (m : StationNo) (st : Station) (s : State), s.stn.hold = some m → s.station m = some st →
     exec .holdLapsed s = .next (raise (.holdLapsed .lapsed) (toStation m)
       (logAppend .holdLapsed (some m.1) none none (setHold none (advanceTo ((st.lastRequest + 120000) * 1000) s)))))

/-- R158: ENROL STATION lists the station in the lowest-numbered unlisted record; a taken address, an undefined supply
of a STAGE station and a full table are refused, for every role and in that order. REMOVE STATION unlists the station, marks its transfers in flight,
and frees the hold that it held; an unlisted station and the last CONSOLE station are refused. -/
def Obligations.StationsAreEnrolledAndRemoved : Prop :=
  (∀ (rq : Request) (n : StationNo) (st : Station) (s : State) (address : Nat) (p : PortNo),
     Taken rq kindEnrolStation n st s → 1 ≤ address → address ≤ 31 →
     ((∃ m q, s.station m = some q ∧ q.port = p ∧ q.addr = address) →
       ∀ role b, role ≤ 2 ∨ (role = 3 ∧ ∃ x : SupplyNo, b = some (numberOf x)) →
       exec (.enrolStation rq p.1 address role b) s = replied rq kindEnrolStation n .state .empty (heard rq n s)) ∧
     ((∀ m q, s.station m = some q → ¬ (q.port = p ∧ q.addr = address)) →
       (∀ x : SupplyNo, (s.supply x).defined = false →
         exec (.enrolStation rq p.1 address 3 (some (numberOf x))) s =
           replied rq kindEnrolStation n .state .empty (heard rq n s)) ∧
       ((∀ m, (s.station m).isSome = true) →
         ∀ role b, role ≤ 2 ∨ (role = 3 ∧ ∃ x : SupplyNo, b = some (numberOf x) ∧ (s.supply x).defined = true) →
         exec (.enrolStation rq p.1 address role b) s = replied rq kindEnrolStation n .full .empty (heard rq n s)) ∧
       (∀ m : StationNo, s.station m = none → (∀ j, j < m → (s.station j).isSome = true) →
         (∀ role r b, roleOf? role = some r → r ≠ .stage →
           exec (.enrolStation rq p.1 address role b) s = replied rq kindEnrolStation n .ok (.station m)
             (setStation m (some { port := p, addr := address, role := r, bound := none,
                                   flags := Vector.replicate 11 none, enables := Vector.replicate 11 true,
                                   cursor := s.log.next, gapMark := false,
                                   lastRequest := max s.now rq.t / 1000 }) (heard rq n s))) ∧
         (∀ x : SupplyNo, (s.supply x).defined = true →
           exec (.enrolStation rq p.1 address 3 (some (numberOf x))) s = replied rq kindEnrolStation n .ok (.station m)
             (setStation m (some { port := p, addr := address, role := .stage, bound := some x,
                                   flags := Vector.replicate 11 none, enables := Vector.replicate 11 true,
                                   cursor := s.log.next, gapMark := false,
                                   lastRequest := max s.now rq.t / 1000 }) (heard rq n s)))))) ∧
  (∀ (rq : Request) (n : StationNo) (st : Station) (s : State) (m : StationNo), Taken rq kindRemoveStation n st s →
     (s.station m = none →
       exec (.removeStation rq m.1) s = replied rq kindRemoveStation n .unknown .empty (heard rq n s)) ∧
     (∀ q, s.station m = some q → q.role = .console → (∀ j r, s.station j = some r → r.role = .console → j = m) →
       exec (.removeStation rq m.1) s = replied rq kindRemoveStation n .state .empty (heard rq n s)) ∧
     (∀ q, s.station m = some q → (q.role ≠ .console ∨ ∃ j r, j ≠ m ∧ s.station j = some r ∧ r.role = .console) →
       ∃ u : State,
         (∀ x, u.slot x = (s.slot x).map fun t =>
           if t.result = none ∧ t.originator = .station m false then { t with originator := .station m true } else t) ∧
         u = { setStation m none (heard rq n s) with xfr := { s.xfr with slots := u.xfr.slots } } ∧
         exec (.removeStation rq m.1) s = replied rq kindRemoveStation n .ok .empty
           (if s.stn.hold = some m then logAppend .holdReleased (some m.1) none none (setHold none u) else u)))

/-- R163, R164: READ LOG returns consecutive records from the cursor on, or from the oldest with the lost count, and
SEEK LOG moves the cursor to the oldest record or past the newest. -/
def Obligations.LogIsReadFromTheCursor : Prop :=
  ∀ (rq : Request) (n : StationNo) (st : Station) (s : State) (count : Nat), RingLaw s → CursorLaw s →
    (Taken rq kindReadLog n st s → count ≤ 12 → ∀ c, c = (if count = 0 then 12 else count) →
      (oldestOf s.log ≤ st.cursor →
        ∃ rs : List LogRecord, rs.length = min c (s.log.next - st.cursor) ∧
          (∀ i r, rs[i]? = some r → r ∈ s.log.ring ∧ r.seq = st.cursor + i) ∧
          exec (.readLog rq count) s = replied rq kindReadLog n .ok
            (.log none st.cursor rs (decide (st.cursor + rs.length < s.log.next)))
            (setStation n (some { requester rq st s with cursor := st.cursor + rs.length, gapMark := false })
              (heard rq n s))) ∧
      (st.cursor < oldestOf s.log →
        ∃ rs : List LogRecord, rs.length = min (min c 11) (s.log.next - oldestOf s.log) ∧
          (∀ i r, rs[i]? = some r → r ∈ s.log.ring ∧ r.seq = oldestOf s.log + i) ∧
          exec (.readLog rq count) s = replied rq kindReadLog n .gap
            (.log (some (oldestOf s.log - st.cursor)) (oldestOf s.log) rs
              (decide (oldestOf s.log + rs.length < s.log.next)))
            (setStation n (some { requester rq st s with cursor := oldestOf s.log + rs.length, gapMark := false })
              (heard rq n s)))) ∧
    (Taken rq kindReadLog n st s → 12 < count →
      exec (.readLog rq count) s = replied rq kindReadLog n .range .empty (heard rq n s)) ∧
    (Taken rq kindSeekLog n st s →
      exec (.seekLog rq 0) s = replied rq kindSeekLog n .ok (.seek (oldestOf s.log) (oldestOf s.log) s.log.next)
        (setStation n (some { requester rq st s with cursor := oldestOf s.log, gapMark := false }) (heard rq n s)) ∧
      exec (.seekLog rq 1) s = replied rq kindSeekLog n .ok (.seek s.log.next (oldestOf s.log) s.log.next)
        (setStation n (some { requester rq st s with cursor := s.log.next, gapMark := false }) (heard rq n s)) ∧
      (∀ position, 1 < position →
        exec (.seekLog rq position) s = replied rq kindSeekLog n .range .empty (heard rq n s)))

/-- R154, R155: SET PORT writes the pending settings alone; RESTART PORT waits for its reply; READ PORT answers the
settings and the flags as they stand, and clears the flags. -/
def Obligations.PortRequests : Prop :=
  ∀ (rq : Request) (n : StationNo) (st : Station) (s : State) (p : PortNo),
    (Taken rq kindSetPort n st s → ∀ rate r address e, rateOf? rate = some r → 32 ≤ address → address ≤ 47 →
      (∀ f : PortSettings, f = { rate := r, address := address, enabled := e } →
        ((∃ q j w, s.station j = some w ∧ w.port = q ∧ w.role = .console ∧
            (if q = p then e else (s.port q).pending.enabled) = true) →
          exec (.setPort rq p.1 rate address (if e then 1 else 0)) s = replied rq kindSetPort n .ok .empty
            (setPort p { s.port p with pending := f } (heard rq n s))) ∧
        ((∀ q j w, s.station j = some w → w.port = q → w.role = .console →
            (if q = p then e else (s.port q).pending.enabled) = false) →
          exec (.setPort rq p.1 rate address (if e then 1 else 0)) s =
            replied rq kindSetPort n .state .empty (heard rq n s)))) ∧
    (Taken rq kindRestartPort n st s →
      exec (.restartPort rq p.1) s = replied rq kindRestartPort n .ok .empty
        (setPort rq.port { s.port rq.port with restartNext := some p } (heard rq n s))) ∧
    (Taken rq kindReadPort n st s →
      exec (.readPort rq p.1) s = replied rq kindReadPort n .ok
        (.port (s.port p).current (s.port p).pending (s.port p).flags)
        (setPort p { s.port p with flags := ⟨false, false, false, false, false, false⟩ } (heard rq n s))) ∧
    (∀ k, 4 ≤ k →
      (Taken rq kindSetPort n st s → ∀ rate address e, exec (.setPort rq k rate address e) s =
        replied rq kindSetPort n .range .empty (heard rq n s)) ∧
      (Taken rq kindRestartPort n st s →
        exec (.restartPort rq k) s = replied rq kindRestartPort n .range .empty (heard rq n s)) ∧
      (Taken rq kindReadPort n st s →
        exec (.readPort rq k) s = replied rq kindReadPort n .range .empty (heard rq n s)))

/-! ## Sources -/

/-- R4, R5: HIRE SOURCE hires an UNLISTED or OFF_HIRE source, its hire accumulator kept, and refuses one on hire;
OFF-HIRE SOURCE freezes one that nothing holds, and refuses one that is held, closed onto, off hire or UNLISTED. -/
def Obligations.SourcesAreHiredAndOffHired : Prop :=
  ∀ (rq : Request) (n : StationNo) (st : Station) (s : State) (i : SourceNo),
    (Taken rq kindHireSource n st s → ∀ (rating rate limit stale : Nat) (hot : Bool) (curve : Curve),
      20 ≤ rating → rating ≤ 2500 → curve.r0 ≤ curve.r1 → curve.r1 ≤ curve.r2 → curve.r2 ≤ curve.r3 →
      curve.r3 ≤ curve.r4 → (limit = 0 ∨ (500 ≤ limit ∧ limit ≤ 1000)) → (stale = 0 ∨ (2 ≤ stale ∧ stale ≤ 60)) →
      ((s.source i).state = .unlisted ∨ (s.source i).state = .offHire →
        exec (.hireSource rq (numberOf i) rating curve rate (if hot then 1 else 0) limit stale) s =
          replied rq kindHireSource n .ok .empty
            (logAppend .sourceHired (num i) (some rating) (some rate)
              (setSource i { s.source i with
                state := .stopped, telemetry := none, stale := true, implausible := false, staleTimer := none,
                runSeconds := 0, claim := none, reservation := none,
                hire := some { rating := rating, curve := curve, rate := rate, hot := hot,
                               loadingLimit := if limit = 0 then 800 else limit,
                               staleTime := if stale = 0 then 10 else stale } } (heard rq n s)))) ∧
      (onHire (s.source i) = true →
        exec (.hireSource rq (numberOf i) rating curve rate (if hot then 1 else 0) limit stale) s =
          replied rq kindHireSource n .state .empty (heard rq n s))) ∧
    (Taken rq kindOffHireSource n st s →
      ((s.source i).state = .unlisted →
        exec (.offHireSource rq (numberOf i)) s = replied rq kindOffHireSource n .unknown .empty (heard rq n s)) ∧
      ((s.source i).state = .offHire →
        exec (.offHireSource rq (numberOf i)) s = replied rq kindOffHireSource n .state .empty (heard rq n s)) ∧
      (onHire (s.source i) = true →
        ((∃ m x, (s.input m x).source = some i ∧ (s.input m x).aux = true) ∨ (s.source i).claim ≠ none ∨
          (s.source i).reservation ≠ none ∨ (∃ d r, s.delivery d = some r ∧ r.source = i) →
          exec (.offHireSource rq (numberOf i)) s = replied rq kindOffHireSource n .state .empty (heard rq n s)) ∧
        ((∀ m x, (s.input m x).source = some i → (s.input m x).aux = false) → (s.source i).claim = none →
          (s.source i).reservation = none → (∀ d r, s.delivery d = some r → r.source ≠ i) →
          exec (.offHireSource rq (numberOf i)) s = replied rq kindOffHireSource n .ok .empty
            (logAppend .sourceOffHire (num i) (some (s.source i).runSeconds) (some ((s.source i).hireAcc / 3600))
              (setSource i { s.source i with state := .offHire, staleTimer := none } (heard rq n s))))))

/-- R6, R7: a report of a source on hire is clamped and stored, restarts the stale timer, clears STALE with a
SOURCE_FRESH record, judges IMPLAUSIBLE and moves STOPPED and RUNNING; the reply tells what was clamped. R13: a source
is available when it is RUNNING, neither STALE nor IMPLAUSIBLE, unclaimed and unreserved; one that becomes so by a
change of its record is reported to SUP, and R36: each waiting supply that it concerns requests a restore. R35: the
request is for BEST at priority 7, in mode AUTO; a refusal sets restore waiting with its status. Supplies that request at
once are all judged first, each that finds an input drawing its ticket; then they claim in rising number, and one whose
source another has claimed by then is refused LOST: that the lowest number goes first is the model's choice (log entry
11, DESIGN CHOICE). R8: the stale timer run out sets STALE, logged with the held load and frequency and raised; where
STALE is set already nothing is logged or raised. -/
def Obligations.SourceReportsAndStaleTimer : Prop :=
  (∀ (rq : Request) (n : StationNo) (st : Station) (s : State) (i : SourceNo) (h : Hire)
     (run : Bool) (load volts freq gauge : Nat) (alarms : BitVec 8),
     Taken rq kindSourceReport n st s →
     (onHire (s.source i) = false →
       exec (.sourceReport rq (numberOf i) (if run then 1 else 0) load volts freq gauge alarms) s =
         replied rq kindSourceReport n .unknown .empty (heard rq n s)) ∧
     (onHire (s.source i) = true → (s.source i).hire = some h →
       ∀ (tel : Telemetry) (r : Source) (u : State),
         tel = { running := run, load := min load (2 * h.rating), voltage := min volts 500,
                 freq := max 40000 (min freq 70000), gauge := min gauge 1000, alarms := alarms } →
         r = { s.source i with
           telemetry := some tel, staleTimer := some (max s.now rq.t / 1000 + h.staleTime * 1000), stale := false,
           implausible := decide (freq < 40000 ∨ 70000 < freq),
           state := if (s.source i).state = .refuel then .refuel else if run then .running else .stopped } →
         u = setSource i r
           (let u := if (s.source i).stale
               then logAppend .sourceFresh (num i) (some tel.load) (some tel.freq) (heard rq n s)
               else heard rq n s
            if (freq < 40000 ∨ 70000 < freq) ∧ (s.source i).implausible = false
             then raise (.sourceAlert i .implausible) toFleetAndConsole u else u) →
         exec (.sourceReport rq (numberOf i) (if run then 1 else 0) load volts freq gauge alarms) s =
           replied rq kindSourceReport n .ok
             (.clamps (decide (2 * h.rating < load)) (decide (500 < volts)) (decide (freq < 40000 ∨ 70000 < freq))
               (decide (1000 < gauge)))
             (if available (s.source i) = false ∧ available r = true then reportAvailable i u else u))) ∧
  (∀ r : Source, available r = true ↔
     r.state = .running ∧ r.stale = false ∧ r.implausible = false ∧ r.claim = none ∧ r.reservation = none) ∧
  (∀ (s : State) (i : SourceNo) (f : Source → Source), changeSource i f s =
     if available (s.source i) = false ∧ available (f (s.source i)) = true
     then reportAvailable i (setSource i (f (s.source i)) s) else setSource i (f (s.source i)) s) ∧
  (∀ (s : State) (i : SourceNo) (waits : SupplyNo → Prop),
     (∀ n, waits n ↔ (s.supply n).restoreWaiting = true ∧
       ((s.supply n).state = .tripped ∨ (s.supply n).state = .dark) ∧
       ∃ x, (s.input n x).source = some i ∧ (s.input n x).faulted = false ∧ (s.supply n).closed ≠ some x ∧
         (s.input n x).voltage = true) →
     ((∀ n, ¬ waits n) → reportAvailable i s = s) ∧
     (∀ n, waits n → (∀ m, waits m → m = n) → reportAvailable i s = restoreRequest n s) ∧
     (∀ ns : List SupplyNo, ns.Pairwise (· < ·) → (∀ n, n ∈ ns ↔ waits n) → reportAvailable i s = restoreRequests ns s)) ∧
  (∀ (s u : State) (n : SupplyNo) (a : Ask),
     a = { supply := n, target := none, mode := .auto, priority := 7, originator := .supply } →
     (∀ k x m, admission a s = ⟨u, .accepted k x m⟩ → restoreRequest n s = u) ∧
     (∀ e, admission a s = ⟨u, .refused e⟩ →
       restoreRequest n s = setSupply n { u.supply n with restoreWaiting := true, lastRestore := some e } u)) ∧
  (∀ (s : State) (ns : List SupplyNo) (picks : List (SupplyNo × Option Chosen))
     (fits : SupplyNo → Input → SourceNo → Prop), ns.Pairwise (· < ·) → picks.map (fun p => p.1) = ns →
     (∀ n ∈ ns, (s.supply n).defined = true ∧ ((s.supply n).state = .tripped ∨ (s.supply n).state = .dark) ∧
       ∀ t, ¬ flying s n t) →
     (∀ n x i, fits n x i ↔ (s.supply n).closed ≠ some x ∧ (s.input n x).source = some i ∧
       (s.input n x).faulted = false ∧ (s.input n x).voltage = true ∧ available (s.source i) = true) →
     (∀ n k, (n, some k) ∈ picks →
       fits n k.target k.source ∧ ∀ y i, inputCode y < inputCode k.target → ¬ fits n y i) →
     (∀ n, (n, none) ∈ picks → ∀ y i, ¬ fits n y i) →
     ∀ drawn, drawn = picks.filterMap (fun p => p.2) →
     drawn.map (fun k => k.ticket) =
       (List.range drawn.length).map (fun j => (Nat.repeat drawTicket j s).xfr.counter) →
     restoreRequests ns s = picks.foldl (fun u p => match p.2 with
       | none => setSupply p.1
           { u.supply p.1 with restoreWaiting := true, lastRestore := some .noAlternative } u
       | some k =>
         if (u.source k.source).claim = none then
           enterFirst p.1 (if (u.supply p.1).state = .dark then .closeOnly else .break)
             (setSupply p.1 { u.supply p.1 with state := .transfer, ticket := some k.ticket, restoreWaiting := false,
                                                lastRestore := none }
               (setSlot p.1 (some
                 { ticket := k.ticket, origin := (u.supply p.1).closed,
                   originSource := (u.supply p.1).closed.bind fun y => (u.input p.1 y).source,
                   originTripped := decide ((u.supply p.1).state = .tripped), target := k.target,
                   targetSource := k.source, modeReq := .auto,
                   mode := if (u.supply p.1).state = .dark then .closeOnly else .break, priority := 7,
                   originator := .supply, phase := .syncWait, phaseTimer := none, syncTimer := none,
                   syncChannel := none, overlapExpired := false, abortRequested := false, pendingResult := none,
                   excursion := false, startTime := u.stl.clock.time, endTime := none, result := none,
                   tripReport := none })
                 (setSource k.source { u.source k.source with claim := some k.ticket } u)))
         else setSupply p.1 { u.supply p.1 with restoreWaiting := true, lastRestore := some .lost } u)
       (Nat.repeat drawTicket drawn.length s)) ∧
  (∀ (s : State) (i : SourceNo) (due : Nat), (s.source i).staleTimer = some due →
     ((s.source i).stale = true → exec (.sourceStale i) s =
       .next (setSource i { s.source i with staleTimer := none } (advanceTo (due * 1000) s))) ∧
     (∀ tel, (s.source i).stale = false → (s.source i).telemetry = some tel → exec (.sourceStale i) s =
       .next (raise (.sourceAlert i .stale) toFleetAndConsole
         (logAppend .sourceStale (num i) (some tel.load) (some tel.freq)
           (setSource i { s.source i with staleTimer := none, stale := true } (advanceTo (due * 1000) s))))))

/-! ## The tick, the site clock and settlement -/

/-- R16, R31, R79, R81, R113, R114, R119: a second on a part with no armed watch entry that brings no boundary: the clock
and the tick count advance, every source on hire accrues, dark supplies count, sampled tanks burn at their rate and the
demand bins of every defined channel move; nothing else changes. A source is sampled when it is RUNNING, or in REFUEL
with its running bit set. A stale source burns on its supplies' demand, said here for a tick that TNK takes before MTR
(log entry 10). A supply's demand is the sum of its channels', each its bins' sum times the Wh per pulse, times 60,
divided by 1,000 and rounded down. -/
def Obligations.SecondTickAccrues : Prop :=
  (∀ (order : TickOrder) (t : Nat) (s : State), (∀ w, (s.watch w).armed = false) →
    s.stl.clock.time + 1 ≠ s.stl.clock.nextBoundary → s.stl.clock.time < 4294967295 →
    ∃ u, exec (.secondTick order t) s = .next u ∧
      u = { s with now := max s.now t, src := u.src, sup := u.sup, tnk := { s.tnk with tanks := u.tnk.tanks },
                   mtr := { s.mtr with channels := u.mtr.channels }, stl := { s.stl with clock := u.stl.clock } } ∧
      u.stl.clock = { s.stl.clock with time := s.stl.clock.time + 1, ticks := min (s.stl.clock.ticks + 1) 4294967295 } ∧
      (∀ i, (onHire (s.source i) = false → u.source i = s.source i) ∧
        (∀ h, onHire (s.source i) = true → (s.source i).hire = some h →
          u.source i = { s.source i with
            runSeconds := if runningBit (s.source i) then min ((s.source i).runSeconds + 1) 4294967295
              else (s.source i).runSeconds,
            hireAcc := (s.source i).hireAcc + h.rate })) ∧
      (∀ n, u.supply n = if (s.supply n).defined = true ∧ (s.supply n).record = none
        then { s.supply n with dark := min ((s.supply n).dark + 1) 4294967295 } else s.supply n) ∧
      (∀ i, (sampled (s.source i) = false →
          u.tank i = { s.tank i with lastRate := 0, lastLoad := none, loadKind := none }) ∧
        (∀ h tel, sampled (s.source i) = true → (s.source i).stale = false → (s.source i).hire = some h →
          (s.source i).telemetry = some tel → ∀ r, r = burnRate h.curve h.rating tel.load →
          u.tank i = { s.tank i with acc := (s.tank i).acc + r, mark := (s.tank i).mark + r, lastRate := r,
                                     lastLoad := some tel.load, loadKind := some .reported }) ∧
        (∀ h, sampled (s.source i) = true → (s.source i).stale = true → (s.source i).hire = some h →
          order.meterFirst = false → ∀ r, r = burnRate h.curve h.rating (demandOn s i) →
          u.tank i = { s.tank i with acc := (s.tank i).acc + r, mark := (s.tank i).mark + r, lastRate := r,
                                     lastLoad := some (demandOn s i), loadKind := some .estimated,
                                     estimated := true })) ∧
      (∀ k, u.chan k = if (s.chan k).defined then { s.chan k with bins := 0 :: (s.chan k).bins.take 59 }
        else s.chan k)) ∧
  (∀ r : Source, sampled r = true ↔
    r.state = .running ∨ (r.state = .refuel ∧ ∃ tel, r.telemetry = some tel ∧ tel.running = true)) ∧
  (∀ c : Chan, chanDemand c = c.bins.sum * c.wh * 60 / 1000) ∧
  (∀ (s : State) (n : SupplyNo), supplyDemand s n =
    ((indices 24).map fun c => if (s.chan c).defined = true ∧ (s.chan c).supply = some n
      then chanDemand (s.chan c) else 0).sum) ∧
  (∀ (s : State) (i : SourceNo), demandOn s i =
    ((indices 12).map fun n => if (s.supply n).record = some i then supplyDemand s n else 0).sum)

/-- R80: the burn rate runs through the five curve points at 0, 25, 50, 75 and 100 per cent of the rating and lies
between the points it falls between: from point k it rises by the segment's difference, times the per-mille of load
above the point, divided by 250 and rounded down. It runs on above the rating up to 125 per cent and no further. -/
def Obligations.BurnRateFollowsTheCurve : Prop :=
  (∀ (c : Curve) (rating load : Nat), c.r0 ≤ c.r1 → c.r1 ≤ c.r2 → c.r2 ≤ c.r3 → c.r3 ≤ c.r4 → 0 < rating →
    burnRate c rating 0 = c.r0 ∧ burnRate c rating rating = c.r4 ∧
    (4 * load = rating → burnRate c rating load = c.r1) ∧ (2 * load = rating → burnRate c rating load = c.r2) ∧
    (4 * load = 3 * rating → burnRate c rating load = c.r3) ∧
    (∀ k, k ≤ 3 → k * rating ≤ 4 * load → 4 * load ≤ (k + 1) * rating →
      curvePoint c k ≤ burnRate c rating load ∧ burnRate c rating load ≤ curvePoint c (k + 1)) ∧
    (∀ k ratio, k ≤ 3 → ratio = load * 1000 / rating → 250 * k ≤ ratio →
      ratio ≤ 250 * (k + 1) ∨ (k = 3 ∧ ratio ≤ 1250) →
      burnRate c rating load = curvePoint c k + (curvePoint c (k + 1) - curvePoint c k) * (ratio - 250 * k) / 250) ∧
    (5 * rating ≤ 4 * load → burnRate c rating load = c.r4 + (c.r4 - c.r3))) ∧
  (∀ c : Curve, curvePoint c 0 = c.r0 ∧ curvePoint c 1 = c.r1 ∧ curvePoint c 2 = c.r2 ∧ curvePoint c 3 = c.r3 ∧
    curvePoint c 4 = c.r4)

/-- R120, R17, R82, R116, R31: a boundary opens a record for the ending interval, begins the next interval, and leaves
every block its carry. The record holds all four figure sets in the same step: R123 has each block hand in its set on its
own, and the model takes them in the row that takes the boundary, as 95_what_each_step_holds.md puts them (log entry 32,
DEDUCED). The tick that brings the clock to the next boundary takes it after the tick's accrual. Each block, told the end
of the interval of a serial, files its set in the records of that serial; DRY newly set is raised, source by source in
rising number (log entry 11, DESIGN CHOICE). A closed burn is not held at 2^32 - 1 (log entry 42, DESIGN CHOICE). -/
def Obligations.BoundaryClosesTheInterval : Prop :=
  (∀ (endTime : Nat) (s u : State), (∀ r ∈ s.stl.records, r.serial ≠ s.stl.clock.serial) →
     s.stl.clock.serial < 4294967295 → u = takeBoundary endTime s →
     (∀ len, len = s.stl.clock.pendingMinutes.getD s.stl.clock.minutes → u.stl.clock =
       { s.stl.clock with minutes := len, pendingMinutes := none, index := s.stl.clock.time / (len * 60),
                          serial := s.stl.clock.serial + 1, start := s.stl.clock.time, ticks := 0,
                          nextBoundary := (s.stl.clock.time / (len * 60) + 1) * (len * 60) }) ∧
     u.stl.records = s.stl.records ++
       [{ index := s.stl.clock.index, serial := s.stl.clock.serial, start := s.stl.clock.start, endTime := endTime,
          ticks := s.stl.clock.ticks, hire := some (tab fun i => (s.source i).hireAcc / 3600),
          burn := some (tab fun i => (s.tank i).acc / 3600), matrix := some s.mtr.matrix,
          dark := some (tab fun n => if (s.supply n).defined then (s.supply n).dark else 0) }] ∧
     (∀ i, u.source i = { s.source i with hireAcc := (s.source i).hireAcc % 3600,
                                          lastClosed := (s.source i).hireAcc / 3600 }) ∧
     (∀ n, u.supply n = { s.supply n with dark := 0 }) ∧
     (∀ i, (u.tank i).acc = (s.tank i).acc % 3600 ∧ (u.tank i).closedBurn = (s.tank i).acc / 3600 ∧
       (u.tank i).lastEstimated = (s.tank i).estimated ∧ (u.tank i).estimated = false ∧
       (∀ b, (s.tank i).set = true → (s.tank i).book = some b →
         (u.tank i).book = some (b - (s.tank i).acc / 3600) ∧
         (u.tank i).dry = ((s.tank i).dry || decide (b < (s.tank i).acc / 3600))) ∧
       ((s.tank i).set = false → (u.tank i).book = (s.tank i).book ∧ (u.tank i).dry = (s.tank i).dry)) ∧
     (∀ k, u.chan k = { s.chan k with energy := 0, lastEnergy := (s.chan k).energy }) ∧
     (∀ a col, cell u.mtr.matrix a col = 0) ∧
     u.stl.accounts = s.stl.accounts ∧ u.stl.bankA = s.stl.bankA ∧ u.stl.bankB = s.stl.bankB ∧ u.log = s.log) ∧
  (∀ (order : TickOrder) (t : Nat) (s : State), (∀ w, (s.watch w).armed = false) → s.stl.clock.time < 4294967295 →
     s.stl.clock.nextBoundary = s.stl.clock.time + 1 →
     exec (.secondTick order t) s =
       .next (takeBoundary (s.stl.clock.time + 1) (tickOwners order
         (setClock { s.stl.clock with time := s.stl.clock.time + 1,
                                      ticks := min (s.stl.clock.ticks + 1) 4294967295 } (advanceTo t s))))) ∧
  (∀ (serial : Nat) (s : State), ∀ files : (SettleRec → SettleRec) → List SettleRec,
     (∀ g, files g = s.stl.records.map fun r => if r.serial = serial then g r else r) →
     announceHire serial s = { s with
       src := tab fun i => { s.source i with hireAcc := (s.source i).hireAcc % 3600,
                                             lastClosed := (s.source i).hireAcc / 3600 },
       stl := { s.stl with records := files fun r =>
         { r with hire := some (tab fun i => (s.source i).hireAcc / 3600) } } } ∧
     (∃ (tanks : Vector Tank 16) (u : State),
       (∀ i, look tanks i = { s.tank i with
         acc := (s.tank i).acc % 3600, closedBurn := (s.tank i).acc / 3600, lastEstimated := (s.tank i).estimated,
         estimated := false, book := (look tanks i).book, dry := (look tanks i).dry }) ∧
       (∀ i b, (s.tank i).set = true → (s.tank i).book = some b →
         (look tanks i).book = some (b - (s.tank i).acc / 3600) ∧
         (look tanks i).dry = ((s.tank i).dry || decide (b < (s.tank i).acc / 3600))) ∧
       (∀ i, (s.tank i).set = false ∨ (s.tank i).book = none →
         (look tanks i).book = (s.tank i).book ∧ (look tanks i).dry = (s.tank i).dry) ∧
       u = (indices 16).foldl (fun v i => if (s.tank i).dry = false ∧ (look tanks i).dry = true
           then raise (.sourceAlert i .dry) toFuelAndConsole v else v)
         { s with tnk := { s.tnk with tanks := tanks } } ∧
       announceBurn serial s = { u with stl := { s.stl with records := files fun r =>
         { r with burn := some (tab fun i => (s.tank i).acc / 3600) } } }) ∧
     announceMatrix serial s = { s with
       mtr := { channels := tab fun k => { s.chan k with energy := 0, lastEnergy := (s.chan k).energy },
                matrix := Vector.replicate 48 (Vector.replicate 17 0) },
       stl := { s.stl with records := files fun r => { r with matrix := some s.mtr.matrix } } } ∧
     announceDark serial s = { s with
       sup := tab fun n => { s.supply n with dark := 0 },
       stl := { s.stl with records := files fun r =>
         { r with dark := some (tab fun n => if (s.supply n).defined then (s.supply n).dark else 0) } } })

/-- R121, R153: SET TIME before the next boundary moves the clock and that boundary; at or past it, a boundary is taken
with the old clock as its end. Either way TIME_SET is logged: after the clock has moved, the model's choice (log entry 49,
DESIGN CHOICE). Sent to destination 0 by a CONSOLE station it does the same with no reply; where that is refused, and
where the port serves, stands with the frames (SoundFrameIsJudged). -/
def Obligations.SetTimeMovesTheClock : Prop :=
  ∀ (rq : Request) (n : StationNo) (st : Station) (s : State) (time : Nat),
    let c := s.stl.clock
    (Taken rq kindSetTime n st s →
      (time < c.nextBoundary → exec (.setTime rq false time) s =
        replied rq kindSetTime n .ok
          (.time c.time time false c.index ((time / (c.minutes * 60) + 1) * (c.minutes * 60)))
          (logAppend .timeSet none (some c.time) (some time)
            (setClock { c with time := time, nextBoundary := (time / (c.minutes * 60) + 1) * (c.minutes * 60) }
              (heard rq n s)))) ∧
      (c.nextBoundary ≤ time → ∀ u, u = takeBoundary c.time (setClock { c with time := time } (heard rq n s)) →
        exec (.setTime rq false time) s =
          replied rq kindSetTime n .ok (.time c.time time true u.stl.clock.index u.stl.clock.nextBoundary)
            (logAppend .timeSet none (some c.time) (some time) u))) ∧
    (Heard rq n st s → st.role = .console → rq.len = 4 → (s.port rq.port).serving = false →
      (time < c.nextBoundary → exec (.setTime rq true time) s =
        .next (logAppend .timeSet none (some c.time) (some time)
          (setClock { c with time := time, nextBoundary := (time / (c.minutes * 60) + 1) * (c.minutes * 60) }
            (heard rq n s)))) ∧
      (c.nextBoundary ≤ time → exec (.setTime rq true time) s =
        .next (logAppend .timeSet none (some c.time) (some time)
          (takeBoundary c.time (setClock { c with time := time } (heard rq n s))))))

/-- R128: cells of undefined accounts are folded into account 0's; an account receives of a source's cost its energy's
part of it, rounded down, account 0 the residue besides, and the whole cost where no account drew. An interval charge,
energy and unsourced energy are what an account receives of the sixteen sources, its sixteen cells and its UNSOURCED
cell. In every settlement the charges, the residue of account 0 included, sum exactly to the costs of the sources,
whatever those costs are. R129: a settlement gives no charge, no energy and no unsourced energy to an undefined account
other than 0, and all of the matrix is found again in the energies of the defined ones; the dark seconds of an account
are those of each supply that a defined channel of it names, once each. -/
def Obligations.ChargesSumToCosts : Prop :=
  (∀ (defined : AccountNo → Bool) (m : Matrix) (costs : SourceNo → Nat),
     let folded : AccountNo → Fin 17 → Nat := fun a col =>
       if a = 0 then
         cell m 0 col + ((indices 48).map fun b => if b ≠ 0 ∧ defined b = false then cell m b col else 0).sum
       else if defined a = true then cell m a col else 0
     let energy : SourceNo → Nat := fun i => ((indices 48).map fun a => folded a i.castSucc).sum
     let part : SourceNo → AccountNo → Nat := fun i a => costs i * folded a i.castSucc / energy i
     let left : SourceNo → Nat := fun i =>
       if energy i = 0 then 0 else costs i - ((indices 48).map fun a => part i a).sum
     let got : SourceNo → AccountNo → Nat := fun i a =>
       if energy i = 0 then (if a = 0 then costs i else 0)
       else if a = 0 then part i a + left i else part i a
     (∀ a col, foldedCell defined m a col = folded a col) ∧
     (∀ i, sourceEnergy defined m i = energy i ∧ residue defined m (costs i) i = left i) ∧
     (∀ i, energy i ≠ 0 → ((indices 48).map fun a => part i a).sum ≤ costs i ∧
       left i < ((indices 48).filter fun a => decide (folded a i.castSucc ≠ 0)).length) ∧
     (∀ a, intervalCharge defined m costs a = ((indices 16).map fun i => got i a).sum ∧
       intervalEnergy defined m a = ((indices 16).map fun i => folded a i.castSucc).sum ∧
       intervalUnsourced defined m a = folded a 16)) ∧
  (∀ (defined : AccountNo → Bool) (m : Matrix) (costs : SourceNo → Nat),
     (total fun a : AccountNo => intervalCharge defined m costs a) = total costs) ∧
  (∀ (defined : AccountNo → Bool) (m : Matrix) (costs : SourceNo → Nat), defined 0 = true →
     (∀ a, defined a = false → intervalCharge defined m costs a = 0 ∧ intervalEnergy defined m a = 0 ∧
       intervalUnsourced defined m a = 0) ∧
     (∀ col, (total fun a : AccountNo => foldedCell defined m a col) = total fun a : AccountNo => cell m a col)) ∧
  (∀ (s : State) (dark : Vector Nat 12) (a : AccountNo), intervalDark s dark a =
     ((indices 12).map fun n =>
       if ∃ c, (s.chan c).defined = true ∧ (s.chan c).account = some a ∧ (s.chan c).supply = some n then look dark n
       else 0).sum)

/-- R123, R127, R129, R131: a settlement of the earliest complete record adds into the ACTIVE bank of every defined
account alone, replaces the last-settled figures by those of the record, each source's and the totals, logs
INTERVAL_SETTLED, and then takes a pending close. R131, R130: at a settlement a pending close freezes the ACTIVE bank with
the record's end time, makes the other bank ACTIVE from that time, and is logged and raised to every CONSOLE station; with
none pending nothing changes. What an account's and a source's figures are is the statement of the charges (R128). An
interval count at 2^32 - 1 goes on to Config.countAfterLast, a free value: the rules do not say what follows it, and the
model chooses nothing (log entry 22, DESIGN CHOICE). -/
def Obligations.SettlementCreditsTheActiveBank : Prop :=
  (∀ (s : State) (r : SettleRec) (rest : List SettleRec) (h b : Vector Nat 16) (m : Matrix) (d : Vector Nat 12)
     (costs : SourceNo → Nat) (dfd : AccountNo → Bool),
     s.stl.records = r :: rest → r.hire = some h → r.burn = some b → r.matrix = some m → r.dark = some d →
     (∀ i, costs i = min (look b i * s.tnk.price + look h i) 4294967295) →
     (∀ a, dfd a = (s.account a).defined) →
     ∃ u : State,
       u = { s with stl := { s.stl with accounts := u.stl.accounts, settled := u.stl.settled, records := rest } } ∧
       (∀ a, dfd a = false → u.account a = s.account a) ∧
       (∀ a, dfd a = true → ∀ e un ch dk, e = intervalEnergy dfd m a → un = intervalUnsourced dfd m a →
         ch = intervalCharge dfd m costs a → dk = intervalDark s d a →
         ∀ (b b' : BankRec), b' =
             { energy := min (b.energy + e) 4294967295, unsourced := min (b.unsourced + un) 4294967295,
               charge := min (b.charge + ch) 4294967295, dark := min (b.dark + dk) 4294967295,
               count := if b.count < 4294967295 then b.count + 1 else Config.countAfterLast b.count,
               saturated := b.saturated || decide (4294967295 < b.energy + e ∨ 4294967295 < b.unsourced + un ∨
                 4294967295 < b.charge + ch ∨ 4294967295 < b.dark + dk) } →
           (activeBank s = .a → b = (s.account a).bankA → u.account a =
             { s.account a with lastEnergy := e, lastUnsourced := un, lastCharge := ch, lastDark := dk,
                                bankA := b' }) ∧
           (activeBank s = .b → b = (s.account a).bankB → u.account a =
             { s.account a with lastEnergy := e, lastUnsourced := un, lastCharge := ch, lastDark := dk,
                                bankB := b' })) ∧
       u.stl.settled = some
         { index := r.index, serial := r.serial, start := r.start, endTime := r.endTime, ticks := r.ticks,
           price := s.tnk.price,
           sources := tab fun i =>
             { burn := look b i, hire := look h i, cost := costs i, energy := sourceEnergy dfd m i,
               residue := residue dfd m (costs i) i,
               costSaturated := decide (4294967295 < look b i * s.tnk.price + look h i) },
           totalCost := total costs, totalEnergy := total (sourceEnergy dfd m),
           totalUnsourced := total fun a : AccountNo => foldedCell dfd m a 16,
           totalResidue := total fun i => residue dfd m (costs i) i, dark := d } ∧
       exec .settlement s =
         .next (takeClose r.endTime (logAppend .intervalSettled (some r.index) (some (min (total costs) 4294967295))
           (some (min (total fun i => residue dfd m (costs i) i) 4294967295 +
             if ∃ i, 4294967295 < look b i * s.tnk.price + look h i then 2147483648 else 0)) u))) ∧
  (∀ (endTime : Nat) (s : State),
     (s.stl.closePending = false → takeClose endTime s = s) ∧
     (s.stl.closePending = true → s.stl.bankA.state = .active →
       takeClose endTime s = raise (.periodClosed .a endTime) toConsole
         (logAppend .periodClosed (some 0) s.stl.bankA.start (some endTime)
           { s with stl := { s.stl with bankA := { s.stl.bankA with state := .frozen, ends := some endTime },
                                        bankB := { state := .active, start := some endTime, ends := none },
                                        closePending := false } })) ∧
     (s.stl.closePending = true → s.stl.bankA.state ≠ .active →
       takeClose endTime s = raise (.periodClosed .b endTime) toConsole
         (logAppend .periodClosed (some 1) s.stl.bankB.start (some endTime)
           { s with stl := { s.stl with bankB := { s.stl.bankB with state := .frozen, ends := some endTime },
                                        bankA := { state := .active, start := some endTime, ends := none },
                                        closePending := false } })))

/-! ## Billing requests -/

/-- R122, R130, R132: SET INTERVAL sets the pending length; CLOSE PERIOD makes a close pending, and is BANK_FULL while
the other bank is FROZEN; RELEASE PERIOD empties the FROZEN bank of every account. R125, R126: DEFINE ACCOUNT
defines an account or writes its reference alone; REMOVE ACCOUNT undefines an account that no channel names and
whose banks hold nothing, and never account 0. -/
def Obligations.BillingRequests : Prop :=
  (∀ (rq : Request) (n : StationNo) (st : Station) (s : State),
     (Taken rq kindSetInterval n st s → ∀ m,
       (m ∈ [5, 10, 15, 20, 30, 60] → ∀ p, p = (if m = s.stl.clock.minutes then none else some m) →
         exec (.setInterval rq m) s = replied rq kindSetInterval n .ok (.interval s.stl.clock.minutes p)
           (setClock { s.stl.clock with pendingMinutes := p } (heard rq n s))) ∧
       (m ∉ [5, 10, 15, 20, 30, 60] →
         exec (.setInterval rq m) s = replied rq kindSetInterval n .range .empty (heard rq n s))) ∧
     (Taken rq kindClosePeriod n st s → BankLaw s →
       (s.stl.bankA.state = .frozen ∨ s.stl.bankB.state = .frozen →
         exec (.closePeriod rq) s = replied rq kindClosePeriod n .bankFull .empty (heard rq n s)) ∧
       (s.stl.bankA.state ≠ .frozen → s.stl.bankB.state ≠ .frozen → ∃ k,
         (k = .a ↔ s.stl.bankA.state = .active) ∧
         exec (.closePeriod rq) s = replied rq kindClosePeriod n .ok (.period k true)
           { heard rq n s with stl := { s.stl with closePending := true } })) ∧
     (Taken rq kindReleasePeriod n st s → BankLaw s →
       (s.stl.bankA.state ≠ .frozen → s.stl.bankB.state ≠ .frozen →
         exec (.releasePeriod rq) s = replied rq kindReleasePeriod n .state .empty (heard rq n s)) ∧
       (s.stl.bankB.state = .frozen → ∃ acc : Vector Account 48,
         (∀ a, look acc a = { s.account a with bankB := ⟨0, 0, 0, 0, 0, false⟩ }) ∧
         exec (.releasePeriod rq) s = replied rq kindReleasePeriod n .ok .empty
           (logAppend .periodReleased (some 1) s.stl.bankB.start s.stl.bankB.ends
             { heard rq n s with stl := { s.stl with accounts := acc, bankB := ⟨.released, none, none⟩ } })) ∧
       (s.stl.bankA.state = .frozen → ∃ acc : Vector Account 48,
         (∀ a, look acc a = { s.account a with bankA := ⟨0, 0, 0, 0, 0, false⟩ }) ∧
         exec (.releasePeriod rq) s = replied rq kindReleasePeriod n .ok .empty
           (logAppend .periodReleased (some 0) s.stl.bankA.start s.stl.bankA.ends
             { heard rq n s with stl := { s.stl with accounts := acc, bankA := ⟨.released, none, none⟩ } })))) ∧
  (∀ (rq : Request) (n : StationNo) (st : Station) (s : State) (a : AccountNo),
     (Taken rq kindDefineAccount n st s → ∀ (present : Bool) (reference : Nat) (ref : Option Nat),
       ref = (if present then some reference else none) →
       ((s.account a).defined = true →
         exec (.defineAccount rq a.1 (if present then 1 else 0) reference) s = replied rq kindDefineAccount n .ok .empty
           (setAccount a { s.account a with reference := ref } (heard rq n s))) ∧
       ((s.account a).defined = false →
         exec (.defineAccount rq a.1 (if present then 1 else 0) reference) s = replied rq kindDefineAccount n .ok .empty
           (setAccount a { s.account a with defined := true, reference := ref, lastEnergy := 0, lastUnsourced := 0,
                                            lastCharge := 0, lastDark := 0 } (heard rq n s)))) ∧
     (Taken rq kindRemoveAccount n st s →
       (exec (.removeAccount rq 0) s = replied rq kindRemoveAccount n .state .empty (heard rq n s)) ∧
       (a ≠ 0 → (s.account a).defined = false →
         exec (.removeAccount rq a.1) s = replied rq kindRemoveAccount n .unknown .empty (heard rq n s)) ∧
       (a ≠ 0 → (s.account a).defined = true → (∃ c, (s.chan c).defined = true ∧ (s.chan c).account = some a) →
         exec (.removeAccount rq a.1) s = replied rq kindRemoveAccount n .state .empty (heard rq n s)) ∧
       (a ≠ 0 → (s.account a).defined = true → (∀ c, (s.chan c).defined = true → (s.chan c).account ≠ some a) →
         (bankHolds (s.account a).bankA = false → bankHolds (s.account a).bankB = false →
           exec (.removeAccount rq a.1) s = replied rq kindRemoveAccount n .ok .empty
             (setAccount a { s.account a with
               defined := false, reference := none, lastEnergy := 0, lastUnsourced := 0, lastCharge := 0, lastDark := 0,
               bankA := { (s.account a).bankA with count := 0, saturated := false },
               bankB := { (s.account a).bankB with count := 0, saturated := false } } (heard rq n s))) ∧
         (bankHolds (s.account a).bankA = true ∨ bankHolds (s.account a).bankB = true →
           exec (.removeAccount rq a.1) s = replied rq kindRemoveAccount n .state .empty (heard rq n s)))))

/-! ## Reading -/

/-- R9, R37, R64, R74, R87, R106, R117, R133, R134: the reads of sources, supplies, transfers, tanks, deliveries,
channels, accounts and settlement answer OK with the records as they stand, and change nothing; an UNLISTED source, a
supply whose slot was never written and an undefined account are answered UNKNOWN. A STAGE station reads
its own supply, the channels on it and the accounts that they name. READ TRANSFER is answered to it for every supply:
that R64 and not R157's check 4 decides here is the model's reading (log entry 37, DEDUCED). R87: an OFF_HIRE source's tank
is read with a last rate of 0. Then what the derived figures are: R84, R85 of a tank, R23 of an input's frequency, R37 and
R169 of the status words, R74 of a queue position, R133 of an account's bank. The model's choices in it: between a grant
and CHANNEL_GRANT a transfer reads no position and no channel (log entry 14), the line readings of an undefined supply are
those R20 and R23 give, and no status word is with them (40), an OFF_HIRE source's last load and load kind stand until the next tick (41), the stale mark
is the source's STALE also where the gauge level is none (48), and a delivery's time left is in milliseconds (50), all
DESIGN CHOICE. -/
def Obligations.ReadsAnswerTheRecords : Prop :=
  (∀ (rq : Request) (n : StationNo) (st : Station) (s : State),
    (∀ i : SourceNo,
      ((s.source i).state = .unlisted →
        (Taken rq kindReadSource n st s →
          exec (.readSource rq (numberOf i)) s = replied rq kindReadSource n .unknown .empty (heard rq n s)) ∧
        (Taken rq kindReadTank n st s →
          exec (.readTank rq (numberOf i)) s = replied rq kindReadTank n .unknown .empty (heard rq n s))) ∧
      (Taken rq kindReadSource n st s → (s.source i).state ≠ .unlisted → exec (.readSource rq (numberOf i)) s =
        replied rq kindReadSource n .ok
          (.source (s.source i) (available (s.source i)) ((s.source i).hireAcc / 3600) (sourceWord s i))
          (heard rq n s)) ∧
      (Taken rq kindReadTank n st s → (s.source i).state ≠ .unlisted →
        ∀ k, k = (if (s.source i).state = .offHire then { s.tank i with lastRate := 0 } else s.tank i) →
        exec (.readTank rq (numberOf i)) s = replied rq kindReadTank n .ok
          (.tank k (levelNow k) (gaugeLevel k (s.source i)) (s.source i).stale (tankVariance k (s.source i))
            (minutesToDry k) (k.acc / 3600) (k.acc % 3600) s.tnk.price) (heard rq n s)) ∧
      (Taken rq kindReadDelivery n st s →
        (∀ d r, s.delivery d = some r → r.source = i → (∀ e q, s.delivery e = some q → q.source = i → d ≤ e) →
          exec (.readDelivery rq (numberOf i)) s = replied rq kindReadDelivery n .ok
            (.delivery (some r) ((r.armTimer.or r.finishTimer).map fun due => due - max s.now rq.t / 1000)
              (s.lastEnded i) (s.dlv.returns.filter fun e => decide (e.source = i)) (look s.dlv.fill i))
            (heard rq n s)) ∧
        ((∀ d r, s.delivery d = some r → r.source ≠ i) →
          exec (.readDelivery rq (numberOf i)) s = replied rq kindReadDelivery n .ok
            (.delivery none none (s.lastEnded i) (s.dlv.returns.filter fun e => decide (e.source = i))
              (look s.dlv.fill i)) (heard rq n s)))) ∧
    (∀ m : SupplyNo,
      (Taken rq kindReadSupply n st s → (st.role = .stage → st.bound = some m) →
        ((s.supply m).defined = true → exec (.readSupply rq (numberOf m)) s = replied rq kindReadSupply n .ok
          (.supply (s.supply m) (supplyDemand s m) ((s.supply m).inputs.map inputFreq) (supplyWord (s.supply m)))
          (heard rq n s)) ∧
        ((s.supply m).defined = false → exec (.readSupply rq (numberOf m)) s = replied rq kindReadSupply n .ok
          (.undefinedSupply ((s.supply m).inputs.map lineReading)) (heard rq n s))) ∧
      (Taken rq kindReadTransfer n st s →
        (s.slot m = none → exec (.readTransfer rq (numberOf m)) s =
          replied rq kindReadTransfer n .unknown .empty (heard rq n s)) ∧
        (∀ t, s.slot m = some t → exec (.readTransfer rq (numberOf m)) s = replied rq kindReadTransfer n .ok
          (.slot m t (t.phaseTimer.map fun due => due - max s.now rq.t / 1000)
            (t.syncTimer.map fun due => due - max s.now rq.t / 1000)
            (if t.result = none ∧ t.phase = .syncWait then queuePosition s t.ticket else none)
            (if t.result = none ∧ t.phase = .sync then t.syncChannel.map s.sync else none)) (heard rq n s)))) ∧
    (∀ c : ChannelNo, Taken rq kindReadChannel n st s →
      st.role ≠ .stage ∨ ((s.chan c).defined = true ∧ ∃ m, (s.chan c).supply = some m ∧ st.bound = some m) →
      (∀ a, (s.chan c).defined = true → (s.chan c).account = some a →
        exec (.readChannel rq c.1) s = replied rq kindReadChannel n .ok
          (.channel { s.chan c with pulseStart := none, lastFall := none } (s.chan c).bins.sum
            ((s.chan c).bins.sum * (s.chan c).wh * 60 / 1000)
            ((s.chan c).supply.bind fun m => (s.supply m).record) (look s.mtr.matrix a)) (heard rq n s)) ∧
      ((s.chan c).defined = false → exec (.readChannel rq c.1) s = replied rq kindReadChannel n .ok
        (.undefinedChannel (s.chan c).line (s.chan c).energy (s.chan c).lastEnergy) (heard rq n s))) ∧
    (∀ (a : AccountNo) (bank : Nat), Taken rq kindReadAccount n st s → (s.account a).defined = false → bank ≤ 1 →
      st.role ≠ .stage ∨ (∃ c m, (s.chan c).defined = true ∧ (s.chan c).account = some a ∧
        (s.chan c).supply = some m ∧ st.bound = some m) →
      exec (.readAccount rq a.1 bank) s = replied rq kindReadAccount n .unknown .empty (heard rq n s)) ∧
    (∀ a : AccountNo, Taken rq kindReadAccount n st s → (s.account a).defined = true →
      st.role ≠ .stage ∨ (∃ c m, (s.chan c).defined = true ∧ (s.chan c).account = some a ∧
        (s.chan c).supply = some m ∧ st.bound = some m) →
      exec (.readAccount rq a.1 0) s = replied rq kindReadAccount n .ok (accountBody a (activeBank s) s)
        (heard rq n s) ∧
      (frozenBank s = none →
        exec (.readAccount rq a.1 1) s = replied rq kindReadAccount n .state .empty (heard rq n s)) ∧
      (∀ k, frozenBank s = some k →
        exec (.readAccount rq a.1 1) s = replied rq kindReadAccount n .ok (accountBody a k s) (heard rq n s))) ∧
    (Taken rq kindReadSettlement n st s →
      exec (.readSettlement rq) s = replied rq kindReadSettlement n .ok
        (.settlement s.stl.clock s.stl.bankA s.stl.bankB s.stl.closePending (s.stl.records.map openRecord)
          s.stl.settled) (heard rq n s))) ∧
  (∀ (k : Tank) (r : Source),
    (k.set = false → levelNow k = none ∧ gaugeLevel k r = none ∧ tankVariance k r = none ∧ minutesToDry k = none) ∧
    (∀ capacity floor book used, k.set = true → k.capacity = some capacity → k.floor = some floor → k.book = some book →
      used = k.acc / 3600 →
      levelNow k = some (book - used) ∧
      (r.telemetry = none → gaugeLevel k r = none ∧ tankVariance k r = none) ∧
      (∀ tel, r.telemetry = some tel → gaugeLevel k r = some (capacity * tel.gauge / 1000) ∧
        tankVariance k r = some (((book - used : Nat) : Int) - ((capacity * tel.gauge / 1000 : Nat) : Int))) ∧
      (book ≤ used + floor → minutesToDry k = some 0) ∧
      (used + floor < book → k.lastRate = 0 → minutesToDry k = some 65535) ∧
      (used + floor < book → k.lastRate ≠ 0 →
        minutesToDry k = some (min 65535 ((book - used - floor) * 60 / k.lastRate))))) ∧
  (∀ r : InputRec, (r.voltage = false → inputFreq r = none) ∧
    (∀ p, r.voltage = true → r.period = some p → inputFreq r = some (1000000000 / p)) ∧
    lineReading r = { aux := r.aux, voltage := r.voltage, period := r.period, absentSince := r.absentSince,
                      freq := inputFreq r }) ∧
  (∀ (s : State) (i : SourceNo) (bit : Nat), (sourceWord s i).getLsbD bit = true ↔
    (bit = 0 ∧ (s.source i).state = .stopped) ∨ (bit = 1 ∧ (s.source i).state = .running) ∨
    (bit = 2 ∧ (s.source i).state = .refuel) ∨ (bit = 3 ∧ (s.source i).state = .offHire) ∨
    (bit = 4 ∧ (s.source i).stale = true) ∨ (bit = 5 ∧ (s.source i).implausible = true) ∨
    (bit = 6 ∧ (s.source i).claim ≠ none) ∨ (bit = 7 ∧ (s.source i).reservation ≠ none) ∨
    (bit = 8 ∧ available (s.source i) = true) ∨
    (bit = 9 ∧ ∃ tel, (s.source i).telemetry = some tel ∧ tel.running = true) ∨
    (bit = 10 ∧ (s.tank i).dry = true) ∨ (bit = 11 ∧ (s.tank i).overfill = true) ∨
    (bit = 12 ∧ (s.tank i).estimated = true) ∨
    ∃ a tel, bit = 16 + a ∧ a < 8 ∧ (s.source i).telemetry = some tel ∧ tel.alarms.getLsbD a = true) ∧
  (∀ (r : Supply) (bit : Nat), (supplyWord r).getLsbD bit = true ↔
    (bit = 0 ∧ r.state = .live) ∨ (bit = 1 ∧ r.state = .tripped) ∨ (bit = 2 ∧ r.state = .dark) ∨
    (bit = 3 ∧ r.state = .transfer) ∨ (bit = 4 ∧ r.state = .fault) ∨ (bit = 5 ∧ r.showHold = true) ∨
    (bit = 6 ∧ r.state = .live ∧ r.home ≠ none ∧ r.closed ≠ r.home) ∨ (bit = 7 ∧ r.restoreWaiting = true) ∨
    (bit = 8 ∧ ∃ x, (r.inputs.get x).faulted = true) ∨ (bit = 9 ∧ r.inputs.a.voltage = true) ∨
    (bit = 10 ∧ r.inputs.b.voltage = true) ∨ (bit = 11 ∧ r.inputs.c.voltage = true)) ∧
  (∀ (s : State) (ticket : Nat), (∀ e ∈ s.syn.queue, e.ticket ≠ ticket) → queuePosition s ticket = none) ∧
  (∀ (s : State) (ahead behind : List QueueEntry) (e : QueueEntry), s.syn.queue = ahead ++ e :: behind →
    (∀ f ∈ ahead, f.ticket ≠ e.ticket) → queuePosition s e.ticket = some (ahead.length + 1)) ∧
  (∀ (s : State) (a : AccountNo) (r : Account), r = s.account a →
    accountBody a .a s = .account r.reference .a s.stl.bankA.start s.stl.bankA.ends r.bankA r.lastEnergy r.lastUnsourced
      r.lastCharge r.lastDark s.stl.clock.index s.stl.clock.serial s.stl.closePending ∧
    accountBody a .b s = .account r.reference .b s.stl.bankB.start s.stl.bankB.ends r.bankB r.lastEnergy r.lastUnsourced
      r.lastCharge r.lastDark s.stl.clock.index s.stl.clock.serial s.stl.closePending ∧
    (s.stl.bankA.state = .active → activeBank s = .a) ∧ (s.stl.bankA.state ≠ .active → activeBank s = .b) ∧
    (s.stl.bankA.state = .frozen → frozenBank s = some .a) ∧
    (s.stl.bankA.state ≠ .frozen → s.stl.bankB.state = .frozen → frozenBank s = some .b) ∧
    (s.stl.bankA.state ≠ .frozen → s.stl.bankB.state ≠ .frozen → frozenBank s = none))

/-- R148, with R157's DENIED to other stations left to its own statement: READ WATCH of an entry outside 0 to 31 is
answered RANGE; of any other it answers every field, the operand's value for a defined entry, and changes nothing; for an
undefined one the value field is there and absent (log entry 51, DESIGN CHOICE). Then
R139: the value of each kind of operand, and where it is absent; the figures that it is taken from are opened in the
statements of the reads (R84, R85, R169), of the tick (R113, R114) and of settlement. -/
def Obligations.ReadWatchChangesNothing : Prop :=
  (∀ (rq : Request) (n : StationNo) (st : Station) (s : State), Heard rq n st s → rq.len = 1 →
    (st.role ≠ .console → ∀ e, exec (.readWatch rq e) s = replied rq kindReadWatch n .denied .empty (heard rq n s)) ∧
    (st.role = .console →
      (∀ e, 32 ≤ e → exec (.readWatch rq e) s = replied rq kindReadWatch n .range .empty (heard rq n s)) ∧
      (∀ w : WatchNo,
        ((s.watch w).defined = true → exec (.readWatch rq w.1) s = replied rq kindReadWatch n .ok
          (.watch (s.watch w) ((s.watch w).operand.bind (operandValue s))) (heard rq n s)) ∧
        ((s.watch w).defined = false → exec (.readWatch rq w.1) s = replied rq kindReadWatch n .ok
          (.watch (s.watch w) none) (heard rq n s))))) ∧
  (∀ (s : State) (i : SourceNo),
    ((s.source i).state = .unlisted →
      ∀ o ∈ [Operand.sourceLoad i, .sourceFreq i, .sourceStatus i, .minutesToDry i, .tankBook i],
        operandValue s o = none) ∧
    ((s.source i).telemetry = none →
      operandValue s (.sourceLoad i) = none ∧ operandValue s (.sourceFreq i) = none ∧
        operandValue s (.tankVariance i) = none) ∧
    ((s.tank i).set = false →
      operandValue s (.minutesToDry i) = none ∧ operandValue s (.tankBook i) = none ∧
        operandValue s (.tankVariance i) = none) ∧
    (∀ v : Int, tankVariance (s.tank i) (s.source i) = some v →
      operandValue s (.tankVariance i) = some (BitVec.ofInt 32 v)) ∧
    ((s.source i).state ≠ .unlisted →
      (∀ tel, (s.source i).telemetry = some tel →
        operandValue s (.sourceLoad i) = some (BitVec.ofNat 32 tel.load) ∧
        operandValue s (.sourceFreq i) = some (BitVec.ofNat 32 tel.freq)) ∧
      operandValue s (.sourceStatus i) = some (sourceWord s i) ∧
      (∀ v, minutesToDry (if (s.source i).state = .offHire then { s.tank i with lastRate := 0 } else s.tank i) = some v →
        operandValue s (.minutesToDry i) = some (BitVec.ofNat 32 v)) ∧
      (∀ v, levelNow (s.tank i) = some v → operandValue s (.tankBook i) = some (BitVec.ofNat 32 v)))) ∧
  (∀ (s : State) (m : SupplyNo),
    ((s.supply m).defined = false →
      operandValue s (.supplyDemand m) = none ∧ operandValue s (.supplyStatus m) = none) ∧
    ((s.supply m).defined = true →
      operandValue s (.supplyDemand m) = some (BitVec.ofNat 32 (supplyDemand s m)) ∧
      operandValue s (.supplyStatus m) = some (supplyWord (s.supply m)))) ∧
  (∀ (s : State) (c : ChannelNo),
    ((s.chan c).defined = false → operandValue s (.channelDemand c) = none) ∧
    ((s.chan c).defined = true →
      operandValue s (.channelDemand c) = some (BitVec.ofNat 32 (chanDemand (s.chan c))))) ∧
  (∀ (s : State) (a : AccountNo),
    ((s.account a).defined = false → operandValue s (.accountCharge a) = none) ∧
    ((s.account a).defined = true →
      (s.stl.bankA.state = .active →
        operandValue s (.accountCharge a) = some (BitVec.ofNat 32 (s.account a).bankA.charge)) ∧
      (s.stl.bankA.state ≠ .active →
        operandValue s (.accountCharge a) = some (BitVec.ofNat 32 (s.account a).bankB.charge)))) ∧
  (∀ s : State, operandValue s .timeOfDay = some (BitVec.ofNat 32 (s.stl.clock.time % 86400)))

/-! ## Supplies and panel lines -/

/-- R21, R22: a DEFINE SUPPLY in range is refused for a supply in TRANSFER, for one source on two inputs, and for a
change under a closed contactor. Otherwise every carried field is written: a first definition then derives the
state; a redefinition keeps it, clears restore waiting where auto-restore is clear, and asks for a restore where it
newly sets auto-restore on a DARK or TRIPPED supply with no transfer in flight. -/
def Obligations.DefineSupplyWritesTheFields : Prop :=
  ∀ (rq : Request) (n : StationNo) (st : Station) (s : State) (m : SupplyNo) (q : Abc (Option SourceNo))
    (home : Option Input) (auto back : Bool) (tq : TimingReq) (tm : Timing),
    Taken rq kindDefineSupply n st s → timingSelects tq tm → (∀ x, home = some x → (q.get x).isSome = true) →
    let c : Instr := .defineSupply rq (numberOf m) (carriedSources q) (home.map inputCode) auto back tq
    let r : Supply := { s.supply m with
      defined := true, home := home, autoRestore := auto, returnHome := back, timing := tm,
      inputs := { a := { (s.supply m).inputs.a with source := q.a }, b := { (s.supply m).inputs.b with source := q.b },
                  c := { (s.supply m).inputs.c with source := q.c } } }
    let twice : Prop :=
      ∃ x y i, x ≠ y ∧ q.get x = some i ∧ q.get y = some i
    let moved : Prop :=
      ∃ x, (s.input m x).aux = true ∧
        (((s.input m x).source ≠ none ∧ q.get x ≠ (s.input m x).source) ∨
          ((s.input m x).source = none ∧ q.get x = none))
    ((s.supply m).state = .transfer → exec c s = replied rq kindDefineSupply n .busy .empty (heard rq n s)) ∧
    ((s.supply m).state ≠ .transfer → twice ∨ moved →
      exec c s = replied rq kindDefineSupply n .state .empty (heard rq n s)) ∧
    ((s.supply m).state ≠ .transfer → ¬ twice → ¬ moved →
      ((s.supply m).defined = false →
        exec c s = replied rq kindDefineSupply n .ok .empty (derive m (setSupply m r (heard rq n s)))) ∧
      ((s.supply m).defined = true → auto = false →
        exec c s = replied rq kindDefineSupply n .ok .empty
          (setSupply m { r with restoreWaiting := false, lastRestore := none } (heard rq n s))) ∧
      ((s.supply m).defined = true → auto = true →
        (s.supply m).autoRestore = true ∨ ((s.supply m).state ≠ .dark ∧ (s.supply m).state ≠ .tripped) →
        exec c s = replied rq kindDefineSupply n .ok .empty (setSupply m r (heard rq n s))) ∧
      ((s.supply m).defined = true → auto = true → (s.supply m).autoRestore = false →
        (s.supply m).state = .dark ∨ (s.supply m).state = .tripped →
        (∀ tr, s.slot m = some tr → tr.result ≠ none) →
        exec c s = replied rq kindDefineSupply n .ok .empty (restoreRequest m (setSupply m r (heard rq n s)))))

/-- R26: the state that SUP derives from the aux-closed inputs of a supply. R27: a trip is due when the closed input has
been without voltage for the trip confirm time. R35: a supply with auto-restore that becomes DARK or TRIPPED with no
transfer in flight requests a restore. That TRANSFER_FAULT names no input where the derivation itself gives FAULT is the
model's choice (log entry 12, DESIGN CHOICE). -/
def Obligations.DerivationFollowsTheLines : Prop :=
  (∀ (s : State) (n : SupplyNo) (asks : State → State),
    ((s.supply n).autoRestore = true → (∀ t, ¬ flying s n t) → ∀ u, asks u = restoreRequest n u) →
    ((s.supply n).autoRestore = false ∨ (∃ t, flying s n t) → ∀ u, asks u = u) →
    ((∀ x, (s.input n x).aux = false) → derive n s =
      asks (setSupply n { s.supply n with state := .dark, closed := none, record := none } s)) ∧
    (∀ x, (s.input n x).aux = true → (∀ y, y ≠ x → (s.input n y).aux = false) →
      ((s.input n x).source = none → derive n s =
        raise (.transferFault n none) (toConsoleAndStage n)
          (setSupply n { s.supply n with state := .fault, closed := none, record := none, restoreWaiting := false,
                                         lastRestore := none } s)) ∧
      (∀ i, (s.input n x).source = some i → (s.source i).state ≠ .refuel →
        (tripDue s n x = true → derive n s = asks
          (raise (.supplyTrip n) (toConsoleAndStage n)
            (logAppend .supplyTrip (num n) (some (inputCode x)) (some (numberOf i))
              (setSupply n { s.supply n with state := .tripped, closed := some x, record := none } s)))) ∧
        (tripDue s n x = false → derive n s =
          setSupply n { s.supply n with state := .live, closed := some x, record := some i, restoreWaiting := false,
                                        lastRestore := none } s)) ∧
      (∀ i, (s.input n x).source = some i → (s.source i).state = .refuel →
        derive n s = loadedByHand i (changeSource i
            (fun r => { r with state := if runningBit r then .running else .stopped })
          (raise (.transferFault n (some x)) (toConsoleAndStage n)
            (setSupply n { s.supply n with state := .fault, closed := none, record := none, restoreWaiting := false,
                                           lastRestore := none }
              (logAppend .uncommanded (num n) (some (inputCode x)) (some 1) s)))))) ∧
    (∀ x y, x ≠ y → (s.input n x).aux = true → (s.input n y).aux = true → derive n s =
      raise (.transferFault n none) (toConsoleAndStage n)
        (setSupply n { s.supply n with state := .fault, closed := none, record := none, restoreWaiting := false,
                                       lastRestore := none } s))) ∧
  (∀ (s : State) (n : SupplyNo) (x : Input), tripDue s n x = true ↔
    (s.input n x).voltage = false ∧
      ∃ since, (s.input n x).absentSince = some since ∧ since + (s.supply n).timing.tripConfirm ≤ s.now / 1000)

/-- R23, R28: a crossing measures its input: the period since the last one held at 65,535, voltage-present by the range
14,286 to 25,000 us, absent since by the change. Every synchronism channel takes it (R69): what it makes of it stands in
ChannelsTakeCrossings. R58: of the target of a
transfer in SETTLE a crossing whose frequency lies outside 50,000 mHz by more than the settle window, and voltage-present
going to no, set the settle excursion, and nothing clears it in SETTLE. A TRIPPED supply whose closed input gains voltage
is restored LIVE. R36: a supply waiting for a restore, TRIPPED or DARK, whose sound input other than the closed one gains voltage while its source
is available requests it again. R23, R27, R29: 60 ms without a crossing takes voltage-present from an input, its period
kept; and when the trip confirm time from absent since has run out, a LIVE supply trips, logged and raised, and with
auto-restore and no transfer in flight requests a restore (R35); a feeding input of a supply in TRANSFER trips with the
state kept and XFR told. Where a DEFINE SUPPLY changes the confirm time meanwhile, the one in force counts (log entry
39). -/
def Obligations.LinesAreMeasuredAndTrip : Prop :=
  (∀ (s : State) (n : SupplyNo) (x : Input) (t p : Nat) (v : Bool) (ab : Option Nat) (u w : State) (swings : Prop),
     p = (match (s.input n x).lastCrossing with
       | some c => min 65535 (max s.now t - c)
       | none => 65535) →
     v = decide (14286 ≤ p ∧ p ≤ 25000) →
     ab = (if v then none else if (s.input n x).voltage then some (max s.now t / 1000) else (s.input n x).absentSince) →
     w = syncCrossing n x (max s.now t) p (setInput n x
       { s.input n x with lastCrossing := some (max s.now t), period := some p, voltage := v, absentSince := ab }
       (advanceTo t s)) →
     (swings ↔ (v = true ∧ (1000000000 / p + (s.supply n).timing.settleWindow < 50000 ∨
         50000 + (s.supply n).timing.settleWindow < 1000000000 / p)) ∨
       (v = false ∧ (s.input n x).voltage = true)) →
     (∀ tr, flying s n tr → tr.phase = .settle → tr.target = x → (s.supply n).defined = true → swings →
       u = setSlot n (some { tr with excursion := true }) w) →
     ((∀ tr, flying s n tr → tr.phase ≠ .settle ∨ tr.target ≠ x) ∨ (s.supply n).defined = false ∨ ¬ swings → u = w) →
     ((s.supply n).defined = false ∨ (s.input n x).voltage = true ∨ v = false ∨
         ((s.supply n).restoreWaiting = false ∧ ((s.supply n).state ≠ .tripped ∨ (s.supply n).closed ≠ some x)) →
       exec (.senseCrossing n x t) s = .next u) ∧
     (∀ i, (s.supply n).defined = true → (s.input n x).voltage = false → v = true → (s.supply n).state = .tripped →
       (s.supply n).closed = some x → (s.input n x).source = some i →
       exec (.senseCrossing n x t) s = .next (logAppend .supplyRestored (num n) (some (inputCode x)) (some (numberOf i))
         (setSupply n { u.supply n with state := .live, record := some i, restoreWaiting := false,
                                        lastRestore := none } u))) ∧
     (∀ i, (s.supply n).defined = true → (s.input n x).voltage = false → v = true →
       (s.supply n).restoreWaiting = true → (s.supply n).closed ≠ some x → (s.input n x).source = some i →
       ((s.supply n).state = .tripped ∨ (s.supply n).state = .dark → (s.input n x).faulted = false →
         available (s.source i) = true → exec (.senseCrossing n x t) s = .next (restoreRequest n u)) ∧
       (((s.supply n).state ≠ .tripped ∧ (s.supply n).state ≠ .dark) ∨ (s.input n x).faulted = true ∨
           available (s.source i) = false → exec (.senseCrossing n x t) s = .next u))) ∧
  ((∀ (s : State) (n : SupplyNo) (x : Input) (c : Nat), (s.input n x).voltage = true →
     (s.input n x).lastCrossing = some c →
     ∀ u, u = setInput n x
       { s.input n x with voltage := false, absentSince := some (max s.now (c + 60000) / 1000) }
       (advanceTo (c + 60000) s) →
     ((∀ tr, flying s n tr → tr.phase ≠ .settle ∨ tr.target ≠ x) →
       exec (.voltageLossTimeout n x) s = .next u) ∧
     (∀ tr, flying s n tr → tr.phase = .settle → tr.target = x →
       exec (.voltageLossTimeout n x) s = .next (setSlot n (some { tr with excursion := true }) u))) ∧
   (∀ (s : State) (n : SupplyNo) (x : Input) (since : Nat) (i : SourceNo), (s.input n x).voltage = false →
     (s.input n x).absentSince = some since → (s.input n x).source = some i →
     ∀ u, u = advanceTo ((since + (s.supply n).timing.tripConfirm) * 1000) s →
     ((s.supply n).state = .live → (s.supply n).closed = some x →
       ∀ v, v = raise (.supplyTrip n) (toConsoleAndStage n)
         (logAppend .supplyTrip (num n) (some (inputCode x)) (some (numberOf i))
           (setSupply n { s.supply n with state := .tripped, record := none } u)) →
       ((s.supply n).autoRestore = false ∨ (∃ tr, flying s n tr) → exec (.supplyTrip n) s = .next v) ∧
       ((s.supply n).autoRestore = true → (∀ tr, ¬ flying s n tr) →
         exec (.supplyTrip n) s = .next (restoreRequest n v))) ∧
     (∀ tr, (s.supply n).state = .transfer → (s.supply n).record = some i →
       (∀ y, y ≠ x → (s.input n y).source ≠ some i) → s.slot n = some tr →
       exec (.supplyTrip n) s = .next (setSlot n (some { tr with tripReport := some x })
         (raise (.supplyTrip n) (toConsoleAndStage n)
           (logAppend .supplyTrip (num n) (some (inputCode x)) (some (numberOf i))
             (setSupply n { s.supply n with record := none } u)))))))

/-- R24, R32: a qualified change of an aux contact: on an undefined supply it is read; in the direction of an open
confirm window it confirms the pulse (the window stays open until CONFIRM_TIMEOUT is taken: log entry 2); any other is
logged UNCOMMANDED and puts the supply in FAULT with TRANSFER_FAULT raised, and a close onto a source in REFUEL is then
passed on to SRC and DLV. R60: a transfer in flight on the supply ends FAIL_BOTH first, once the change is logged. -/
def Obligations.ContactorChangesAreJudged : Prop :=
  ∀ (s : State) (n : SupplyNo) (x : Input) (closed : Bool) (t : Nat) (u : State), (s.input n x).aux ≠ closed →
    u = setInput n x { s.input n x with aux := closed } (advanceTo t s) →
    ((s.supply n).defined = false → exec (.auxChange n x closed t) s = .next u) ∧
    (∀ w, (s.supply n).defined = true → (s.input n x).window = some w →
      w.dir = (if closed then .toClose else .toOpen) →
      ∀ v, v = setInput n x { s.input n x with aux := closed, window := none } (advanceTo t s) →
      (w.restart = true → exec (.auxChange n x closed t) s = .next (derive n v)) ∧
      (w.restart = false → exec (.auxChange n x closed t) s = .next (confirmed n x closed v))) ∧
    ((s.supply n).defined = true →
      (∀ w, (s.input n x).window = some w → w.dir = (if closed then .toOpen else .toClose)) →
      ∀ told ended v, told = logAppend .uncommanded (num n) (some (inputCode x)) (some (if closed then 1 else 0)) u →
      ((∀ tr, ¬ flying s n tr) → ended = told) → ((∃ tr, flying s n tr) → ended = endTransfer n .failBoth told) →
      v = raise (.transferFault n (some x)) (toConsoleAndStage n)
        (setSupply n { ended.supply n with state := .fault, closed := none, record := none } ended) →
      ((closed = false ∨ (∀ i, (s.input n x).source = some i → (v.source i).state ≠ .refuel)) →
        exec (.auxChange n x closed t) s = .next v) ∧
      (∀ i, closed = true → (s.input n x).source = some i → (v.source i).state = .refuel →
        exec (.auxChange n x closed t) s = .next (loadedByHand i (changeSource i (fun r =>
          { r with state := if runningBit r then .running else .stopped }) v))))

/-- R25: no command newly asserts a close pulse to an input while another input of the supply is confirmed closed, but for
the in-step report of its transfer's channel, which takes the transfer from SYNC to PARALLEL_CLOSE. A pulse asserts its
output for 100 ms and opens a confirm window for the confirm time; a close command while another input of the supply is
confirmed closed issues no pulse, unless it carries the in-step report; the output is released when the 100 ms end. -/
def Obligations.PulsesKeepTheClosingLaw : Prop :=
  (∀ (c : Instr) (s t : State) (n : SupplyNo) (x : Input), exec c s = .next t →
    (t.input n x).closePulse ≠ none → (t.input n x).closePulse ≠ (s.input n x).closePulse →
    (∀ y, y ≠ x → (t.input n y).aux = false) ∨
    ∃ (k : SyncNo) (tr u : Transfer), c = .inStepReport k ∧ (s.sync k).state = .inStep ∧ (s.sync k).supply = some n ∧
      (s.sync k).ticket = some tr.ticket ∧ flying s n tr ∧ tr.phase = .sync ∧ tr.target = x ∧
      flying t n u ∧ u.ticket = tr.ticket ∧ u.phase = .parallelClose ∧ u.target = x) ∧
  (∀ (s : State) (n : SupplyNo) (x : Input),
    ((∃ y, y ≠ x ∧ (s.input n y).aux = true) → commandClose n x false s = s) ∧
    (∀ inStep, inStep = true ∨ (∀ y, y ≠ x → (s.input n y).aux = false) → commandClose n x inStep s =
      setInput n x { s.input n x with
        closePulse := some (s.now / 1000 + 100),
        window := some { dir := .toClose, ends := s.now / 1000 + (s.supply n).timing.confirm, restart := false } } s) ∧
    (∀ tr, tr.origin = some x → openOrigin n tr s =
      setInput n x { s.input n x with
        openPulse := some (s.now / 1000 + 100),
        window := some { dir := .toOpen, ends := s.now / 1000 + (s.supply n).timing.confirm, restart := false } } s)) ∧
  (∀ (s : State) (n : SupplyNo) (x : Input) (due : Nat),
    ((s.input n x).closePulse = some due → exec (.pulseEnd n x .toClose) s =
      .next (setInput n x { s.input n x with closePulse := none } (advanceTo (due * 1000) s))) ∧
    ((s.input n x).openPulse = some due → exec (.pulseEnd n x .toOpen) s =
      .next (setInput n x { s.input n x with openPulse := none } (advanceTo (due * 1000) s))))

/-- R33, R34, R153: CLEAR FAULT clears FAULTED on all inputs and derives the state, and is refused in TRANSFER and in a
position the part cannot resolve. SET and CLEAR SHOW HOLD write the flag of one supply, or of every defined one and
of no other; one that is named and not defined is answered UNKNOWN. Sent to destination 0 by a CONSOLE station, SET SHOW
HOLD for all acts so with no reply; where that is refused, and where the port serves, stands with the frames
(SoundFrameIsJudged). -/
def Obligations.ClearFaultAndShowHold : Prop :=
  (∀ (rq : Request) (n : StationNo) (st : Station) (s : State) (m : SupplyNo),
     (Taken rq kindClearFault n st s →
       let c : Instr := .clearFault rq (numberOf m)
       let cannot : Prop :=
         (∃ x y, x ≠ y ∧ (s.input m x).aux = true ∧ (s.input m y).aux = true) ∨
         (∃ x, (s.input m x).aux = true ∧ (s.input m x).source = none)
       ((s.supply m).defined = false → exec c s = replied rq kindClearFault n .unknown .empty (heard rq n s)) ∧
       ((s.supply m).defined = true → (s.supply m).state = .transfer ∨ cannot →
         exec c s = replied rq kindClearFault n .state .empty (heard rq n s)) ∧
       ((s.supply m).defined = true → (s.supply m).state ≠ .transfer → ¬ cannot →
         exec c s = replied rq kindClearFault n .ok .empty (derive m (setSupply m { s.supply m with
           inputs := { a := { (s.supply m).inputs.a with faulted := false },
                       b := { (s.supply m).inputs.b with faulted := false },
                       c := { (s.supply m).inputs.c with faulted := false } } } (heard rq n s))))) ∧
     ((st.role = .stage → st.bound = some m) → (s.supply m).defined = false →
       (Taken rq kindSetShowHold n st s → exec (.setShowHold rq false (numberOf m)) s =
         replied rq kindSetShowHold n .unknown .empty (heard rq n s)) ∧
       (Taken rq kindClearShowHold n st s → exec (.clearShowHold rq (numberOf m)) s =
         replied rq kindClearShowHold n .unknown .empty (heard rq n s))) ∧
     ((st.role = .stage → st.bound = some m) → (s.supply m).defined = true →
       (Taken rq kindSetShowHold n st s → exec (.setShowHold rq false (numberOf m)) s =
         replied rq kindSetShowHold n .ok .empty (setSupply m { s.supply m with showHold := true } (heard rq n s))) ∧
       (Taken rq kindClearShowHold n st s → exec (.clearShowHold rq (numberOf m)) s =
         replied rq kindClearShowHold n .ok .empty (setSupply m { s.supply m with showHold := false } (heard rq n s))))) ∧
  (∀ (rq : Request) (n : StationNo) (st : Station) (s : State) (b : Bool) (all : Vector Supply 12),
     st.role = .console →
     (∀ m, look all m = if (s.supply m).defined then { s.supply m with showHold := b } else s.supply m) →
     (b = true → Taken rq kindSetShowHold n st s → exec (.setShowHold rq false 0) s =
       replied rq kindSetShowHold n .ok .empty { heard rq n s with sup := all }) ∧
     (b = false → Taken rq kindClearShowHold n st s → exec (.clearShowHold rq 0) s =
       replied rq kindClearShowHold n .ok .empty { heard rq n s with sup := all }) ∧
     (b = true → Heard rq n st s → rq.len = 1 → (s.port rq.port).serving = false →
       exec (.setShowHold rq true 0) s = .next { heard rq n s with sup := all }))

/-! ## Transfers -/

/-- R40: the counter's next value is the first after it, counted from 65,535 on to 1, that is the ticket of no transfer
in flight. And the law that every step keeps: the counter lies in 1 to 65,535 and is the ticket of no transfer in flight,
and no two transfers in flight share a ticket. -/
def Obligations.DrawnTicketsAreFresh : Prop :=
  (∀ s : State, 1 ≤ s.xfr.counter → s.xfr.counter ≤ 65535 →
    ∃ k j, drawTicket s = { s with xfr := { s.xfr with counter := k } } ∧ 1 ≤ k ∧ k ≤ 65535 ∧
      1 ≤ j ∧ k = ticketPlaces s.xfr.counter j ∧ (∀ n t, flying s n t → t.ticket ≠ k) ∧
      (∀ i, 1 ≤ i → i < j → ∃ n t, flying s n t ∧ t.ticket = ticketPlaces s.xfr.counter i) ∧
      ((∀ n t, flying s n t → t.ticket ≠ (if s.xfr.counter = 65535 then 1 else s.xfr.counter + 1)) →
        k = if s.xfr.counter = 65535 then 1 else s.xfr.counter + 1)) ∧
  (∀ s t : State, TicketLaw s → step s = .next t → TicketLaw t)

/-- R42 to R45, R14, R29, R40: a TRANSFER of a station that meets every check is ACCEPTED with the counter's ticket: the
claim is set, the slot written, the supply in TRANSFER, and the first phase entered by the supply's state and the mode.
The target is the input named, or for BEST the first of A, B and C that is open, sound, with voltage and an available
source, and below priority 7 within its capacity (R43). A STAGE station's priority is lowered to 5. The requests of SUP,
DLV and WCH are admitted the same way where no transfer is in flight on the supply (R41). -/
def Obligations.TransferIsAdmitted : Prop :=
  (∀ (s : State) (m : SupplyNo) (x : Input) (i : SourceNo) (mode : ModeReq) (target : Option Input) (p : Nat)
    (eff : ModeEff),
    p ≤ 7 → (s.supply m).defined = true → (∀ t, ¬ flying s m t) →
    (s.input m x).source = some i → (s.input m x).faulted = false → (s.supply m).closed ≠ some x →
    (s.input m x).voltage = true → available (s.source i) = true →
    (target = some x ∨ (target = none ∧ ∀ y j, inputCode y < inputCode x → (s.supply m).closed ≠ some y →
      (s.input m y).source = some j → (s.input m y).faulted = false → (s.input m y).voltage = true →
      available (s.source j) = true → p ≠ 7 ∧ withinCapacity s m j = false)) →
    ((s.supply m).state = .dark ∧ eff = .closeOnly ∨ (s.supply m).state = .tripped ∧ eff = .break ∨
      (s.supply m).state = .live ∧ eff = (if mode = .break then .break else .closed)) →
    ((s.supply m).showHold = false ∨ (s.supply m).state ≠ .live ∨ mode ≠ .break ∨ p = 7) →
    (p = 7 ∨ ∀ h, (s.source i).hire = some h →
      supplyDemand s m + demandOn s i ≤ h.rating * h.loadingLimit / 1000) →
    (s.source i).hire.isSome = true →
    ∀ begun : Originator → State → State,
      (∀ o u, begun o u = enterFirst m eff
        (setSupply m { s.supply m with state := .transfer, ticket := some s.xfr.counter, restoreWaiting := false,
                                       lastRestore := none }
          (setSlot m (some
            { ticket := s.xfr.counter, origin := (s.supply m).closed,
              originSource := (s.supply m).closed.bind fun y => (s.input m y).source,
              originTripped := decide ((s.supply m).state = .tripped), target := x, targetSource := i,
              modeReq := mode, mode := eff, priority := p, originator := o, phase := .syncWait,
              phaseTimer := none, syncTimer := none, syncChannel := none, overlapExpired := false,
              abortRequested := false, pendingResult := none, excursion := false, startTime := s.stl.clock.time,
              endTime := none, result := none, tripReport := none })
            (setSource i { s.source i with claim := some s.xfr.counter } (drawTicket u))))) →
    (∀ (rq : Request) (n : StationNo) (st : Station) (code target' priority : Nat),
      Taken rq kindTransfer n st s → (st.role = .stage → st.bound = some m) → modeReqOf? code = some mode →
      target' = (match target with
        | some y => inputCode y
        | none => 3) →
      p = (if st.role = .stage then min priority 5 else priority) →
      exec (.transfer rq (numberOf m) target' code priority) s =
        replied rq kindTransfer n .accepted (.accepted s.xfr.counter x eff)
          (begun (.station n false) (heard rq n s))) ∧
    (∀ (o : Originator) (a : Ask),
      a = { supply := m, target := target, mode := mode, priority := p, originator := o } →
      admission a s = ⟨begun o s, .accepted s.xfr.counter x eff⟩ ∧ admitOrPreempt a s = admission a s)) ∧
  (∀ (s : State) (m : SupplyNo) (i : SourceNo) (h : Hire), (s.source i).hire = some h → (withinCapacity s m i = true ↔
    supplyDemand s m + demandOn s i ≤ h.rating * h.loadingLimit / 1000))

/-- R42 to R44: the refusals of a TRANSFER of a CONSOLE station, in the order of the checks, and of BEST where no input
will do, below priority 7 for want of capacity too; a request refused at the target-source step or later has used its ticket. R42 step 5, R46: a request of higher
priority than a transfer in SYNC_WAIT or SYNC runs the checks for it, the old ticket's claim counted as none: any failure
is BUSY. R43: for BEST too a source that the old ticket claims counts as unclaimed; where no input will do no ticket is
used. Where the request passes, its claim is set, the old transfer ends ABORTED with the supply kept in TRANSFER and its
originator told, and the new one begins with the next ticket; a trip report still waiting stands for it (R59, log entry
15). Every request of a station and of DLV and WCH pre-empts so (log entry 16). -/
def Obligations.TransferIsRefused : Prop :=
  (∀ (rq : Request) (n : StationNo) (st : Station) (s : State) (m : SupplyNo) (x : Input) (mode : ModeReq)
    (code p : Nat), Taken rq kindTransfer n st s → st.role = .console → modeReqOf? code = some mode → p ≤ 7 →
    let c : Instr := .transfer rq (numberOf m) (inputCode x) code p
    let no : Status → State → Host.Outcome State Fault Refusal := fun e u => replied rq kindTransfer n e .empty u
    ((s.supply m).defined = false → exec c s = no .unknown (heard rq n s)) ∧
    ((s.supply m).defined = true → (s.supply m).state = .fault → exec c s = no .state (heard rq n s)) ∧
    ((s.supply m).defined = true → (s.supply m).state ≠ .fault →
      (∀ t, flying s m t → (t.phase ≠ .syncWait ∧ t.phase ≠ .sync) ∨ p ≤ t.priority →
        exec c s = no .busy (heard rq n s)) ∧
      ((∀ t, ¬ flying s m t) →
        ((s.input m x).source = none ∨ (s.input m x).faulted = true ∨ (s.supply m).closed = some x →
          exec c s = no .state (heard rq n s)) ∧
        ((∀ y j, (s.input m y).source = some j → (s.input m y).faulted = false → (s.supply m).closed ≠ some y →
            (s.input m y).voltage = true → available (s.source j) = false ∨ (p < 7 ∧ withinCapacity s m j = false)) →
          exec (.transfer rq (numberOf m) 3 code p) s = no .noAlternative (heard rq n s)) ∧
        (∀ i, (s.input m x).source = some i → (s.input m x).faulted = false → (s.supply m).closed ≠ some x →
          ((s.source i).claim ≠ none → exec c s = no .lost (drawTicket (heard rq n s))) ∧
          ((s.source i).claim = none →
            ((s.source i).state = .refuel ∨ (s.source i).reservation ≠ none →
              exec c s = no .state (drawTicket (heard rq n s))) ∧
            ((s.source i).state ≠ .refuel → (s.source i).reservation = none →
              (available (s.source i) = false ∨ (s.input m x).voltage = false →
                exec c s = no .noAlternative (drawTicket (heard rq n s))) ∧
              (available (s.source i) = true → (s.input m x).voltage = true →
                ((s.supply m).showHold = true → (s.supply m).state = .live → mode = .break → p < 7 →
                  exec c s = no .showHeld (drawTicket (heard rq n s))) ∧
                ((s.supply m).showHold = false ∨ (s.supply m).state ≠ .live ∨ mode ≠ .break → p < 7 →
                  withinCapacity s m i = false →
                  exec c s = no .overload (drawTicket (heard rq n s)))))))))) ∧
  (∀ (rq : Request) (n : StationNo) (st : Station) (s u : State) (m : SupplyNo) (target mode : Nat) (y : Option Input)
    (mr : ModeReq) (p : Nat) (a : Ask), Taken rq kindTransfer n st s → st.role = .console →
    targetOf? target = some y → modeReqOf? mode = some mr → p ≤ 7 →
    a = { supply := m, target := y, mode := mr, priority := p, originator := .station n false } →
    (∀ k x e, admitOrPreempt a (heard rq n s) = ⟨u, .accepted k x e⟩ →
      exec (.transfer rq (numberOf m) target mode p) s = replied rq kindTransfer n .accepted (.accepted k x e) u) ∧
    (∀ e, admitOrPreempt a (heard rq n s) = ⟨u, .refused e⟩ →
      exec (.transfer rq (numberOf m) target mode p) s = replied rq kindTransfer n e .empty u)) ∧
  (∀ (s : State) (a : Ask) (n : SupplyNo) (t : Transfer) (x : Input) (i : SourceNo), n = a.supply → flying s n t →
    (s.supply n).defined = true → (s.supply n).state = .transfer →
    ((t.phase ≠ .syncWait ∧ t.phase ≠ .sync) ∨ a.priority ≤ t.priority → admitOrPreempt a s = ⟨s, .refused .busy⟩) ∧
    (t.phase = .syncWait ∨ t.phase = .sync → t.priority < a.priority → ∀ (free : SourceNo → Prop) (does : Input → Prop),
      (∀ j, free j ↔ (s.source j).state = .running ∧ (s.source j).stale = false ∧ (s.source j).implausible = false ∧
        ((s.source j).claim = none ∨ (s.source j).claim = some t.ticket) ∧ (s.source j).reservation = none) →
      (∀ y, does y ↔ (s.supply n).closed ≠ some y ∧ (s.input n y).faulted = false ∧ (s.input n y).voltage = true ∧
        ∃ j, (s.input n y).source = some j ∧ free j ∧ (7 ≤ a.priority ∨ withinCapacity s n j = true)) →
      (a.target = none → (∀ y, ¬ does y) → admitOrPreempt a s = ⟨s, .refused .busy⟩) ∧
      (a.target = some x →
        (s.input n x).source = none ∨ (s.input n x).faulted = true ∨ (s.supply n).closed = some x →
        admitOrPreempt a s = ⟨s, .refused .busy⟩) ∧
      (a.target = some x ∨ (a.target = none ∧ does x ∧ ∀ y, inputCode y < inputCode x → ¬ does y) →
        (s.input n x).source = some i → (s.input n x).faulted = false → (s.supply n).closed ≠ some x →
        ∀ fits : Prop,
        (fits ↔ (s.input n x).voltage = true ∧
          ((s.supply n).showHold = false ∨ a.mode ≠ .break ∨ 7 ≤ a.priority) ∧
          (7 ≤ a.priority ∨ withinCapacity s n i = true)) →
        (¬ (free i ∧ fits) → admitOrPreempt a s = ⟨drawTicket s, .refused .busy⟩) ∧
        (free i → fits → ∀ (eff : ModeEff) (w : State), eff = (if a.mode = .break then .break else .closed) →
          w = releaseSteps n t .aborted (setSource i { s.source i with claim := some s.xfr.counter } (drawTicket s)) →
          ∀ v, v = tellOriginator n t .aborted (raise (.transferEnded t.ticket n .aborted)
            (endedAudience w t.originator .aborted)
            (logAppend .transferEnd (some t.ticket) (num n) (some (resultCode .aborted)) w)) →
          (v.supply n).state = .transfer →
          admitOrPreempt a s = ⟨enterFirst n eff
            (setSupply n { v.supply n with state := .transfer, ticket := some s.xfr.counter, restoreWaiting := false,
                                           lastRestore := none }
              (setSlot n (some
                { ticket := s.xfr.counter, origin := (v.supply n).closed,
                  originSource := (v.supply n).closed.bind fun y => (v.input n y).source, originTripped := false,
                  target := x, targetSource := i, modeReq := a.mode, mode := eff, priority := a.priority,
                  originator := a.originator, phase := .syncWait, phaseTimer := none, syncTimer := none,
                  syncChannel := none, overlapExpired := false, abortRequested := false, pendingResult := none,
                  excursion := false, startTime := v.stl.clock.time, endTime := none, result := none,
                  tripReport := t.tripReport }) v)), .accepted s.xfr.counter x eff⟩))))

/-- R45, R48, R52 to R58: what the entry to each phase does, and what the overlap limit, the dead time and the settle
time do when they run out. R47: the target re-check passes where the target input has voltage and its source is RUNNING,
neither STALE nor IMPLAUSIBLE. -/
def Obligations.PhasesAreEnteredAndRunOut : Prop :=
  (∀ (s : State) (n : SupplyNo) (t : Transfer), s.slot n = some t →
     (enterFirst n .closeOnly s = enterClosing n s ∧ enterFirst n .break s = enterOpening n s ∧
       enterFirst n .closed s = enterSyncWait n s) ∧
     (enterOpening n s = openOrigin n t (setSlot n (some { t with phase := .opening, phaseTimer := none }) s)) ∧
     (enterDead n s = setSlot n
       (some { t with phase := .dead, phaseTimer := some (s.now / 1000 + (s.supply n).timing.deadTime) }) s) ∧
     (enterClosing n s =
       commandClose n t.target false (setSlot n (some { t with phase := .closing, phaseTimer := none }) s)) ∧
     (∀ x r, t.origin = some x → enterReclose n r s = commandClose n x false
       (setSlot n (some { t with phase := .reclose, phaseTimer := none, pendingResult := some r }) s)) ∧
     (enterParallelClose n s =
       commandClose n t.target true (setSlot n (some { t with phase := .parallelClose }) s)) ∧
     (enterParallelOpen n s = openOrigin n t (setSlot n
       (some { t with phase := .parallelOpen, phaseTimer := some (s.now / 1000 + (s.supply n).timing.overlap) }) s)) ∧
     (enterSettle n s = setSlot n
       (some { t with phase := .settle, excursion := false,
                      phaseTimer := some (s.now / 1000 + (s.supply n).timing.settleTime * 1000) }) s) ∧
     (∀ c : SyncNo, (s.sync c).state = .free → (∀ d, d < c → (s.sync d).state ≠ .free) → enterSyncWait n s =
       setSlot n (some { t with phase := .sync, syncChannel := some c,
                                syncTimer := some (s.now / 1000 + s.syn.limits.timeout * 1000) })
         (setSync c { state := .measuring, ticket := some t.ticket, supply := some n, origin := t.origin,
                      target := some t.target, originSource := t.originSource, targetSource := some t.targetSource,
                      originCount := 0, targetCount := 0, lastCrossing := none, lastPeriod := none, run := 0,
                      measurements := 0, last := none, grantTime := some s.stl.clock.time } s)) ∧
     ((∀ c, (s.sync c).state ≠ .free) → enterSyncWait n s =
       setQueue (s.syn.queue ++ [{ ticket := t.ticket, supply := n }])
         (setSlot n (some { t with phase := .syncWait,
                                   syncTimer := some (s.now / 1000 + s.syn.limits.timeout * 1000) }) s))) ∧
  (∀ (s : State) (n : SupplyNo) (t : Transfer) (due : Nat) (u : State), flying s n t → t.phaseTimer = some due →
     u = advanceTo (due * 1000) s →
     (∀ o, t.phase = .parallelOpen → t.origin = some o → o ≠ t.target →
       exec (.overlapExpiry n) s = .next (startPulse n t.target .toOpen false
         (logAppend .inputFault (num n) (some (inputCode o)) (some 1)
           (setInput n o { s.input n o with faulted := true }
             (setSlot n (some { t with overlapExpired := true, phaseTimer := none }) u))))) ∧
     (t.phase = .dead →
       exec (.deadTimeExpiry n) s =
         .next (if targetRecheck s n t then enterClosing n u else enterReclose n .noTarget u)) ∧
     (t.phase = .settle →
       exec (.settleTimeExpiry n) s = .next (endTransfer n (if t.excursion then .doneUnstable else .done) u))) ∧
  (∀ (s : State) (n : SupplyNo) (t : Transfer), targetRecheck s n t = true ↔
     (s.input n t.target).voltage = true ∧ (s.source t.targetSource).state = .running ∧
       (s.source t.targetSource).stale = false ∧ (s.source t.targetSource).implausible = false)

/-- R48 to R50: a grant takes a transfer from SYNC_WAIT to SYNC; an in-step report releases the channel and, the target
re-check passed, enters PARALLEL_CLOSE, and otherwise ends NO_TARGET; the sync timeout releases the channel or the
place and ends SYNC_TIMEOUT, or falls back to a break where the mode is AUTO and show hold allows it. R68: a
release frees the channel that serves the ticket and grants it to the head of the queue, or takes the ticket out of
the queue. -/
def Obligations.SynchronismMovesTheTransfer : Prop :=
  (∀ (s : State) (n : SupplyNo) (t : Transfer), flying s n t →
     (∀ c : SyncNo, t.phase = .syncWait → (s.sync c).ticket = some t.ticket →
       (∀ d, d < c → (s.sync d).ticket ≠ some t.ticket) →
       exec (.channelGrant n) s = .next (setSlot n (some { t with phase := .sync, syncChannel := some c }) s)) ∧
     (∀ (c : SyncNo) (u : State), t.phase = .sync → (s.sync c).state = .inStep → (s.sync c).supply = some n →
       (s.sync c).ticket = some t.ticket → (releaseChannel t.ticket s).slot n = some t →
       u = setSlot n (some { t with syncChannel := none, syncTimer := none }) (releaseChannel t.ticket s) →
       (targetRecheck s n t = true → exec (.inStepReport c) s = .next (enterParallelClose n u)) ∧
       (targetRecheck s n t = false → exec (.inStepReport c) s = .next (endTransfer n .noTarget u))) ∧
     (∀ (due : Nat) (u : State), t.phase = .syncWait ∨ t.phase = .sync → t.syncTimer = some due →
       u = releaseChannel t.ticket (advanceTo (due * 1000) s) →
       (t.modeReq = .auto → (s.supply n).showHold = false ∨ t.priority = 7 →
         exec (.syncTimeout n) s = .next (enterOpening n
           (setSlot n (some { t with syncChannel := none, syncTimer := none, mode := .break }) u))) ∧
       (t.modeReq ≠ .auto ∨ ((s.supply n).showHold = true ∧ t.priority ≠ 7) →
         exec (.syncTimeout n) s = .next (endTransfer n .syncTimeout
           (setSlot n (some { t with syncChannel := none, syncTimer := none }) u))))) ∧
  (∀ (s : State) (ticket : Nat),
     (∀ c : SyncNo, (s.sync c).ticket = some ticket → (∀ d, d < c → (s.sync d).ticket ≠ some ticket) →
       (s.syn.queue = [] → releaseChannel ticket s = setSync c SyncChan.cold s) ∧
       (∀ e rest t, s.syn.queue = e :: rest → s.slot e.supply = some t →
         releaseChannel ticket s = setSync c
           { state := .measuring, ticket := some t.ticket, supply := some e.supply, origin := t.origin,
             target := some t.target, originSource := t.originSource, targetSource := some t.targetSource,
             originCount := 0, targetCount := 0, lastCrossing := none, lastPeriod := none, run := 0,
             measurements := 0, last := none, grantTime := some s.stl.clock.time } (setQueue rest s))) ∧
     ((∀ c, (s.sync c).ticket ≠ some ticket) →
       releaseChannel ticket s = setQueue (s.syn.queue.filter fun e => decide (e.ticket ≠ ticket)) s))

/-- R51, R58, R59: a trip report converts a transfer in SYNC_WAIT or SYNC to a break at priority 7, marks the origin
tripped in PARALLEL_CLOSE, PARALLEL_OPEN and OPENING, and ends SETTLE DONE_UNSTABLE. A report that was made in an earlier
phase and is taken in DEAD, CLOSING or RECLOSE, or that names an input its phase does not speak of, is taken with no
further effect: the model's reading (log entry 15, DEDUCED). R61: ABORT TRANSFER of the originating station or of a
CONSOLE station is taken by the phase; of another station, of another ticket, with no transfer in flight or of an
undefined supply it is refused. -/
def Obligations.TripsAndAbortsByPhase : Prop :=
  (∀ (s : State) (n : SupplyNo) (t : Transfer) (x : Input), flying s n t → t.tripReport = some x →
     (t.phase = .syncWait ∨ t.phase = .sync → t.origin = some x →
       exec (.tripReport n) s = .next (enterOpening n (setSlot n
         (some { t with tripReport := none, syncChannel := none, syncTimer := none, mode := .break, priority := 7,
                        originTripped := true })
         (releaseChannel t.ticket (setSlot n (some { t with tripReport := none }) s))))) ∧
     (t.phase = .parallelClose ∨ t.phase = .parallelOpen ∨ t.phase = .opening → t.origin = some x →
       exec (.tripReport n) s = .next (setSlot n (some { t with tripReport := none, originTripped := true }) s)) ∧
     (t.phase = .settle → t.target = x →
       exec (.tripReport n) s =
         .next (endTransfer n .doneUnstable (setSlot n (some { t with tripReport := none }) s))) ∧
     (t.phase = .dead ∨ t.phase = .closing ∨ t.phase = .reclose ∨ (t.phase = .settle ∧ t.target ≠ x) ∨
         (t.phase ≠ .settle ∧ t.origin ≠ some x) →
       exec (.tripReport n) s = .next (setSlot n (some { t with tripReport := none }) s))) ∧
  (∀ (rq : Request) (n : StationNo) (st : Station) (s : State) (m : SupplyNo) (k : Nat),
     Taken rq kindAbortTransfer n st s → (st.role = .stage → st.bound = some m) → k ≠ 0 →
     let c : Instr := .abortTransfer rq (numberOf m) k
     ((s.supply m).defined = false → exec c s = replied rq kindAbortTransfer n .unknown .empty (heard rq n s)) ∧
     ((s.supply m).defined = true → (∀ t, flying s m t → t.ticket ≠ k) →
       exec c s = replied rq kindAbortTransfer n .state .empty (heard rq n s)) ∧
     ((s.supply m).defined = true → ∀ t, flying s m t → t.ticket = k →
       (st.role ≠ .console → t.originator ≠ .station n false →
         exec c s = replied rq kindAbortTransfer n .denied .empty (heard rq n s)) ∧
       (st.role = .console ∨ t.originator = .station n false →
         (t.phase = .syncWait ∨ t.phase = .sync →
           exec c s = replied rq kindAbortTransfer n .ok .empty (endTransfer m .aborted (heard rq n s))) ∧
         (t.phase = .opening → exec c s = replied rq kindAbortTransfer n .ok .empty
           (setSlot m (some { t with abortRequested := true }) (heard rq n s))) ∧
         (t.phase = .dead →
           exec c s = replied rq kindAbortTransfer n .ok .empty (enterReclose m .aborted (heard rq n s))) ∧
         (t.phase = .parallelClose ∨ t.phase = .parallelOpen ∨ t.phase = .closing ∨ t.phase = .reclose ∨
             t.phase = .settle →
           exec c s = replied rq kindAbortTransfer n .late .empty (heard rq n s)))))

/-- R52 to R57: what each confirmed change of a contactor does to the transfer in flight. -/
def Obligations.ConfirmationsMoveTheTransfer : Prop :=
  ∀ (s : State) (n : SupplyNo) (t : Transfer) (f : Option Input → Option SourceNo → State), flying s n t →
    (∀ x i, f x i = setSupply n { s.supply n with closed := x, record := i } s) →
    (t.phase = .parallelClose → confirmed n t.target true s = enterParallelOpen n s) ∧
    (∀ o, t.origin = some o → o ≠ t.target →
      (t.phase = .parallelOpen → t.overlapExpired = false →
        confirmed n o false s = enterSettle n (f (some t.target) (some t.targetSource))) ∧
      (t.phase = .parallelOpen → t.overlapExpired = true →
        confirmed n o false s = f none none ∧ confirmed n t.target false s = endTransfer n .failOpen s) ∧
      (t.phase = .opening →
        (t.abortRequested = true → t.originTripped = false →
          confirmed n o false s = enterReclose n .aborted (f none none)) ∧
        (t.abortRequested = true → t.originTripped = true →
          confirmed n o false s = endTransfer n .aborted (f none none)) ∧
        (t.abortRequested = false → t.originTripped = true →
          confirmed n o false s = if targetRecheck s n t then enterClosing n (f none none)
            else endTransfer n .noTarget (f none none)) ∧
        (t.abortRequested = false → t.originTripped = false → (s.supply n).timing.deadTime = 0 →
          confirmed n o false s = if targetRecheck s n t then enterClosing n (f none none)
            else enterReclose n .noTarget (f none none)) ∧
        (t.abortRequested = false → t.originTripped = false → 0 < (s.supply n).timing.deadTime →
          confirmed n o false s = enterDead n (f none none))) ∧
      (∀ r, t.phase = .reclose → t.pendingResult = some r →
        confirmed n o true s = endTransfer n r (f (some o) t.originSource))) ∧
    (t.phase = .closing → confirmed n t.target true s = enterSettle n (f (some t.target) (some t.targetSource)))

/-- R25, R52 to R57, R38: what the end of a confirm window does: the input is marked FAULTED with INPUT_FAULT logged,
and the transfer ends or turns back by its phase; that of a restart open raises TRANSFER_FAULT. R53, R57: where neither
contactor's position can be trusted the transfer ends FAIL_BOTH, the supply is left in FAULT, and TRANSFER_FAULT is
raised with the input. The end of the origin's window in PARALLEL_OPEN has no further effect: so R53's table after the
overlap limit has run out, and before it the model's reading (log entry 13, DEDUCED). That the cause of a restart
open carries the supply and the target input is the model's choice too (log entry 12). -/
def Obligations.ConfirmTimeoutsEndOrTurnBack : Prop :=
  (∀ (s : State) (n : SupplyNo) (x : Input) (w : Window) (u v : State), (s.input n x).window = some w →
    u = setInput n x { s.input n x with window := none } (advanceTo (w.ends * 1000) s) →
    v = logAppend .inputFault (num n) (some (inputCode x)) (some (if w.dir = .toClose then 0 else 1))
      (setInput n x { s.input n x with window := none, faulted := true } (advanceTo (w.ends * 1000) s)) →
    (w.restart = true →
      exec (.confirmTimeout n x) s = .next (raise (.transferFault n (some x)) (toConsoleAndStage n) v)) ∧
    (w.restart = false → ∀ t, flying s n t →
      (w.dir = .toClose → t.target = x →
        (t.phase = .parallelClose → exec (.confirmTimeout n x) s = .next (endTransfer n .failClose v)) ∧
        (t.phase = .closing → t.origin.isSome = true ∧ t.originTripped = false →
          exec (.confirmTimeout n x) s = .next (enterReclose n .failClose v)) ∧
        (t.phase = .closing → t.origin = none ∨ t.originTripped = true →
          exec (.confirmTimeout n x) s = .next (endTransfer n .failClose v))) ∧
      (w.dir = .toOpen → t.origin = some x → t.phase = .opening →
        exec (.confirmTimeout n x) s = .next (endTransfer n .failOpen v)) ∧
      (w.dir = .toOpen → t.target = x → t.phase = .parallelOpen → t.overlapExpired = true →
        exec (.confirmTimeout n x) s = .next (endBoth n x u)) ∧
      (w.dir = .toOpen → t.phase = .parallelOpen → t.target ≠ x ∨ t.overlapExpired = false →
        exec (.confirmTimeout n x) s = .next u) ∧
      (w.dir = .toClose → t.origin = some x → t.phase = .reclose →
        exec (.confirmTimeout n x) s = .next (endBoth n x v)))) ∧
  (∀ (s v : State) (n : SupplyNo) (x : Input) (t : Transfer), flying s n t → v = releaseSteps n t .failBoth s →
    endBoth n x s = tellOriginator n t .failBoth
      (raise (.transferFault n (some x)) (toConsoleAndStage n)
        (raise (.transferEnded t.ticket n .failBoth) (endedAudience v t.originator .failBoth)
          (logAppend .transferEnd (some t.ticket) (num n) (some (resultCode .failBoth))
            (setSupply n { v.supply n with state := .fault, closed := none, record := none } v)))))

/-- R62, R15, R29: the end of a transfer in its order: the slot keeps the result, the channel and the windows go, the
claim is released, the supply is derived, or left in FAULT by FAIL_BOTH, TRANSFER_END is logged, TRANSFER_ENDED raised,
and the originating block told. First whole, for a transfer of a listed station where no supply waits for a restore; then
step by step, for every transfer. R63: the stations told. R94, R103, R105, R146: what DLV and WCH make of the result. That
the attempt timer of a return-list entry starts again, at 10 s, when its transfer ends without success is the model's
choice (log entry 18, DESIGN CHOICE). -/
def Obligations.TransferEndsInOrder : Prop :=
  (∀ (s : State) (n : SupplyNo) (t : Transfer) (result : Result) (o : StationNo) (gone : Bool) (u v : State),
    flying s n t → t.originator = .station o gone → (∀ m, (s.supply m).restoreWaiting = false) →
    u = releaseChannel t.ticket (setSlot n (some { t with
      phaseTimer := none, syncTimer := none, tripReport := none, result := some result,
      endTime := some s.stl.clock.time }) s) →
    v = setSource t.targetSource
      (if (s.source t.targetSource).claim = some t.ticket then { s.source t.targetSource with claim := none }
        else s.source t.targetSource)
      (setSupply n { s.supply n with inputs := (s.supply n).inputs.map fun i => { i with window := none } }
        (setSlot n (some { t with
          phaseTimer := none, syncTimer := none, tripReport := none, result := some result,
          endTime := some s.stl.clock.time, syncChannel := none }) u)) →
    endTransfer n result s =
      raise (.transferEnded t.ticket n result)
        (fun m st => (m == o && !gone) || (st.role == .console && result != .done))
        (logAppend .transferEnd (some t.ticket) (num n) (some (resultCode result))
          (if result = .failBoth then setSupply n { v.supply n with state := .fault, closed := none, record := none } v
            else derive n v))) ∧
  (∀ (s u v w : State) (n : SupplyNo) (t : Transfer) (result : Result), flying s n t →
    u = releaseChannel t.ticket (setSlot n (some { t with
      phaseTimer := none, syncTimer := none, tripReport := none, result := some result,
      endTime := some s.stl.clock.time }) s) →
    v = changeSource t.targetSource (fun r => if r.claim = some t.ticket then { r with claim := none } else r)
      (setSupply n { s.supply n with inputs := (s.supply n).inputs.map fun i => { i with window := none } }
        (setSlot n (some { t with
          phaseTimer := none, syncTimer := none, tripReport := none, result := some result,
          endTime := some s.stl.clock.time, syncChannel := none }) u)) →
    w = (if result = .failBoth then setSupply n { v.supply n with state := .fault, closed := none, record := none } v
      else derive n v) →
    releaseSteps n t result s = v ∧
    endTransfer n result s = tellOriginator n t result
      (raise (.transferEnded t.ticket n result) (endedAudience w t.originator result)
        (logAppend .transferEnd (some t.ticket) (num n) (some (resultCode result)) w))) ∧
  (∀ (s : State) (result : Result) (m : StationNo) (st : Station),
    (∀ o gone, endedAudience s (.station o gone) result m st = true ↔
      (m = o ∧ gone = false) ∨ (st.role = .console ∧ result ≠ .done)) ∧
    (∀ w, endedAudience s (.watch w) result m st = (s.watch w).mask.getLsbD (roleBit st.role)) ∧
    (endedAudience s .supply result m st = true ↔ st.role = .console) ∧
    (∀ d, (endedAudience s (.unload d) result m st = true ↔ st.role = .fuel ∨ st.role = .console) ∧
      (endedAudience s (.returnHome d) result m st = true ↔ st.role = .fuel ∨ st.role = .console))) ∧
  (∀ (s : State) (n : SupplyNo) (t : Transfer) (result : Result) (done : Prop),
    (done ↔ result = .done ∨ result = .doneUnstable) →
    (∀ o gone, t.originator = .station o gone → tellOriginator n t result s = s) ∧
    (t.originator = .supply → tellOriginator n t result s = s) ∧
    (∀ w, t.originator = .watch w → tellOriginator n t result s = setWatch w
      (if (s.watch w).ticket = some t.ticket then { s.watch w with lastStatus := some (.result result) }
        else s.watch w) s) ∧
    (∀ x, t.originator = .unload x →
      (∀ (d : SlotNo) (r : Delivery), s.delivery d = some r → (∃ e ∈ r.unloads, e.status = .inFlight t.ticket) →
        (∀ c q, c < d → s.delivery c = some q → ∀ e ∈ q.unloads, e.status ≠ .inFlight t.ticket) →
        (¬ done → ∀ q, q = putUnload n (.blocked (.result result)) r →
          (r.blockedReported = true → tellOriginator n t result s = setDelivery d (some q) s) ∧
          (r.blockedReported = false → tellOriginator n t result s =
            raise (.delivery r.source r.reference .blocked) toFuelAndConsole
              (logAppend .unloadBlocked (num r.source) (num n) (some (resultCode result))
                (setDelivery d (some { q with blockedReported := true }) s)))) ∧
        (done → ∀ q, q = putMoved { supply := n, fromInput := t.origin.getD t.target, toInput := t.target }
            { r with unloads := r.unloads.filter fun e => decide (e.supply ≠ n) } →
          ∀ asks : Prop, (asks ↔ r.state = .waitingUnload ∨
            (r.state = .opened ∧ r.fillWhileLoaded = true ∧ (s.source r.source).state ≠ .refuel)) →
          (asks → tellOriginator n t result s = (surveyStepOne d (setDelivery d (some q) s)).state) ∧
          (¬ asks → tellOriginator n t result s = setDelivery d (some q) s))) ∧
      ((∀ c q, s.delivery c = some q → ∀ e ∈ q.unloads, e.status ≠ .inFlight t.ticket) →
        (∀ (i : SourceNo) (r : Delivery), s.lastEnded i = some r → (∃ e ∈ r.unloads, e.status = .inFlight t.ticket) →
          (∀ j q, j < i → s.lastEnded j = some q → ∀ e ∈ q.unloads, e.status ≠ .inFlight t.ticket) →
          ∀ q, q = { r with unloads := r.unloads.filter fun e => decide (e.supply ≠ n) } →
          ∀ m : MovedEntry, m = { supply := n, fromInput := t.origin.getD t.target, toInput := t.target } →
          (¬ done → tellOriginator n t result s = setLastEnded i (some q) s) ∧
          (done → tellOriginator n t result s =
            makeReturn i r.slot (setLastEnded i (some (putMoved m q)) s) m)) ∧
        ((∀ j q, s.lastEnded j = some q → ∀ e ∈ q.unloads, e.status ≠ .inFlight t.ticket) →
          tellOriginator n t result s = s))) ∧
    (∀ x, t.originator = .returnHome x →
      (∀ e : ReturnEntry, e ∈ s.dlv.returns → e.ticket = some t.ticket →
        (∀ f ∈ s.dlv.returns, f.ticket = some t.ticket → f = e) →
        (done → tellOriginator n t result s =
          setReturns (s.dlv.returns.filter fun f => decide (f.supply ≠ e.supply)) s) ∧
        (¬ done → e.window.isSome = true → tellOriginator n t result s =
          putReturn { e with ticket := none, last := some (.result result),
                             attempt := some (s.now / 1000 + 10000) } s) ∧
        (¬ done → e.window = none → tellOriginator n t result s =
          raise (.returnAbandoned e.supply) toFuelAndConsole
            (logAppend .returnAbandoned (num e.supply) (some (inputCode e.fromInput)) (some (resultCode result))
              (setReturns (s.dlv.returns.filter fun f => decide (f.supply ≠ e.supply)) s)))) ∧
      ((∀ f ∈ s.dlv.returns, f.ticket ≠ some t.ticket) → tellOriginator n t result s = s)))

/-- R71: the three figures of a valid measurement and the in-step limits, every division rounded down. -/
def Obligations.MeasurementFigures : Prop :=
  ∀ (periodO periodT dt voltO voltT : Nat), 14286 ≤ periodO → periodO ≤ 25000 → 14286 ≤ periodT → periodT ≤ 25000 →
    2 * dt < 3 * periodT → 0 < voltO →
    ∀ m, m = figures periodO periodT dt voltO voltT →
    m.slip = ((1000000000 / periodT : Nat) : Int) - ((1000000000 / periodO : Nat) : Int) ∧
    (dt * 3600 / periodT ≤ 1800 → m.phase = ((dt * 3600 / periodT : Nat) : Int)) ∧
    (1800 < dt * 3600 / periodT → m.phase = ((dt * 3600 / periodT : Nat) : Int) - 3600) ∧
    -1800 ≤ m.phase ∧ m.phase ≤ 1800 ∧
    (voltO ≤ voltT → m.volts = (voltT - voltO) * 1000 / voltO) ∧
    (voltT ≤ voltO → m.volts = (voltO - voltT) * 1000 / voltO) ∧
    (∀ l : SyncLimits, withinLimits l m = true ↔
      (m.slip ≤ (l.slip : Int) ∧ -(l.slip : Int) ≤ m.slip) ∧ (m.phase ≤ (l.phase : Int) ∧ -(l.phase : Int) ≤ m.phase) ∧
        m.volts ≤ l.volts)

/-- R69, R70, R72: every channel takes a crossing that SUP measures, and a crossing writes the channels alone. Only a MEASURING channel takes it; a target crossing is kept and counted;
an origin crossing is counted and forms a measurement; four in a row within the limits bring the channel to
IN_STEP. R70: a measurement is valid where both counts are 8, both periods in range, the target crossing less than 1.5
target periods ago, both sources fresh and the origin voltage not 0. R73: SET SYNC LIMITS writes the carried settings,
all in range, and sets the run of every MEASURING channel to 0 where a limit of the in-step test changed; one out of
range changes nothing. -/
def Obligations.ChannelsTakeCrossings : Prop :=
  (∀ (s : State) (n : SupplyNo) (x : Input) (time period : Nat) (ch : Vector SyncChan 4),
     (∀ c, look ch c = channelCrossing s n x time period (s.sync c)) →
     syncCrossing n x time period s = { s with syn := { s.syn with channels := ch } }) ∧
  (∀ (s : State) (n : SupplyNo) (x : Input) (time period : Nat) (k : SyncChan),
     (k.state ≠ .measuring ∨ k.supply ≠ some n ∨ (k.target ≠ some x ∧ k.origin ≠ some x) →
       channelCrossing s n x time period k = k) ∧
     (k.state = .measuring → k.supply = some n → k.target = some x → channelCrossing s n x time period k =
       { k with lastCrossing := some time, lastPeriod := some period,
                targetCount := if 14286 ≤ period ∧ period ≤ 25000 then min 8 (k.targetCount + 1) else 0 }) ∧
     (k.state = .measuring → k.supply = some n → k.origin = some x → k.target ≠ some x →
       ∀ count, count = (if 14286 ≤ period ∧ period ≤ 25000 then min 8 (k.originCount + 1) else 0) →
       ∀ run m, m = measure s { k with originCount := count } time period →
         (∀ g, m = some g → withinLimits s.syn.limits g = true → run = k.run + 1) →
         (∀ g, m = some g → withinLimits s.syn.limits g = false → run = 0) → (m = none → run = 0) →
         channelCrossing s n x time period k =
           { k with originCount := count, measurements := min 65535 (k.measurements + 1), last := some m, run := run,
                    state := if run = 4 then .inStep else .measuring })) ∧
  (∀ (rq : Request) (n : StationNo) (st : Station) (s : State) (slip phase volts timeout : Option Nat) (l : SyncLimits),
     Taken rq kindSetSyncLimits n st s →
     l = { slip := slip.getD s.syn.limits.slip, phase := phase.getD s.syn.limits.phase,
           volts := volts.getD s.syn.limits.volts, timeout := timeout.getD s.syn.limits.timeout } →
     ((∀ v, slip = some v → 50 ≤ v ∧ v ≤ 500) → (∀ v, phase = some v → 20 ≤ v ∧ v ≤ 200) →
       (∀ v, volts = some v → 10 ≤ v ∧ v ≤ 100) → (∀ v, timeout = some v → 5 ≤ v ∧ v ≤ 120) →
       ∃ ch : Vector SyncChan 4,
         (∀ c, look ch c = if (l.slip ≠ s.syn.limits.slip ∨ l.phase ≠ s.syn.limits.phase ∨
             l.volts ≠ s.syn.limits.volts) ∧ (s.sync c).state = .measuring then { s.sync c with run := 0 }
           else s.sync c) ∧
         exec (.setSyncLimits rq slip phase volts timeout) s = replied rq kindSetSyncLimits n .ok (.limits l)
           { heard rq n s with syn := { s.syn with limits := l, channels := ch } }) ∧
     ((∃ v, slip = some v ∧ (v < 50 ∨ 500 < v)) ∨ (∃ v, phase = some v ∧ (v < 20 ∨ 200 < v)) ∨
         (∃ v, volts = some v ∧ (v < 10 ∨ 100 < v)) ∨ (∃ v, timeout = some v ∧ (v < 5 ∨ 120 < v)) →
       exec (.setSyncLimits rq slip phase volts timeout) s =
         replied rq kindSetSyncLimits n .range .empty (heard rq n s))) ∧
  (∀ (s : State) (k : SyncChan) (time periodO : Nat) (fresh : Option SourceNo → Nat → Prop),
     (∀ o v, fresh o v ↔ ∃ i tel, o = some i ∧ (s.source i).stale = false ∧ (s.source i).telemetry = some tel ∧
       tel.voltage = v) →
     (∀ periodT last voltO voltT, k.lastPeriod = some periodT → k.lastCrossing = some last →
       fresh k.originSource voltO → fresh k.targetSource voltT →
       ∀ valid : Prop, (valid ↔ k.originCount = 8 ∧ k.targetCount = 8 ∧ (14286 ≤ periodO ∧ periodO ≤ 25000) ∧
         (14286 ≤ periodT ∧ periodT ≤ 25000) ∧ 2 * (time - last) < 3 * periodT ∧ voltO ≠ 0) →
       (valid → measure s k time periodO = some (figures periodO periodT (time - last) voltO voltT)) ∧
       (¬ valid → measure s k time periodO = none)) ∧
     (k.lastPeriod = none ∨ k.lastCrossing = none ∨ (∀ v, ¬ fresh k.originSource v) ∨ (∀ v, ¬ fresh k.targetSource v) →
       measure s k time periodO = none))

/-! ## Fuel -/

/-- R77, R78, R86: SET TANK sets a tank of a listed source with no delivery on it, the book level holding the level
given and the burn not yet closed; SET FUEL PRICE writes the price in force. -/
def Obligations.TanksAndThePriceAreSet : Prop :=
  ∀ (rq : Request) (n : StationNo) (st : Station) (s : State),
    (Taken rq kindSetTank n st s → ∀ (i : SourceNo) (capacity floor level : Nat),
      10 ≤ capacity → capacity ≤ 200000 → floor ≤ capacity →
      let c : Instr := .setTank rq (numberOf i) capacity floor level
      ((s.source i).state = .unlisted → exec c s = replied rq kindSetTank n .unknown .empty (heard rq n s)) ∧
      ((s.source i).state ≠ .unlisted →
        ((∃ d r, s.delivery d = some r ∧ r.source = i) →
          exec c s = replied rq kindSetTank n .busy .empty (heard rq n s)) ∧
        ((∀ d r, s.delivery d = some r → r.source ≠ i) → ∀ burn book, burn = (s.tank i).acc / 3600 →
          book = min capacity (level + burn) →
          exec c s = replied rq kindSetTank n .ok (.tankSet book (book - burn) (decide (capacity < level + burn)))
            (setTankRec i { s.tank i with set := true, capacity := some capacity, floor := some floor, book := some book,
                                          dry := false, overfill := false, estimated := false } (heard rq n s))))) ∧
    (Taken rq kindSetFuelPrice n st s → ∀ price, price ≤ 65535 → exec (.setFuelPrice rq price) s =
      replied rq kindSetFuelPrice n .ok (.price s.tnk.price price) (setPrice price (heard rq n s)))

/-- R91, R92, R10, R11: the checks of ARM DELIVERY in their order, an expiry, a finish time and a tolerance carried as
none taking the defaults of 15 min, 5 min and 20 per-mille; a hot delivery starts ARMED. A cold one reserves its source:
REFUEL granted at once, it is ARMED; otherwise it waits for its unload. Last, for every cold one, its reservation and its
survey, which asks the supplies that the source feeds to move; where it waits then, the survey timer starts; the survey's
own records stand before DELIVERY_ARMED (log entry 28, DEDUCED). The deadline is the clock and the expiry, and may pass
2^32 - 1: the model's reading (log entry 21, DEDUCED). -/
def Obligations.DeliveriesAreArmed : Prop :=
  ∀ (rq : Request) (n : StationNo) (st : Station) (s : State) (reference expected register : Nat)
    (expiryGiven finishGiven toleranceGiven : Option Nat) (expiry finish tolerance : Nat),
    Taken rq kindArmDelivery n st s → expiry = expiryGiven.getD 15 → finish = finishGiven.getD 5 →
    tolerance = toleranceGiven.getD 20 →
    (200000 < expected ∨ expiry < 1 ∨ 60 < expiry ∨ finish < 1 ∨ 30 < finish ∨ 100 < tolerance → ∀ k,
      exec (.armDelivery rq k reference expected register expiryGiven finishGiven toleranceGiven) s =
        replied rq kindArmDelivery n .range .empty (heard rq n s)) ∧
    ∀ i : SourceNo, expected ≤ 200000 → 1 ≤ expiry → expiry ≤ 60 → 1 ≤ finish → finish ≤ 30 → tolerance ≤ 100 →
    let c : Instr :=
      .armDelivery rq (numberOf i) reference expected register expiryGiven finishGiven toleranceGiven
    ((∃ d r, s.delivery d = some r ∧ r.source = i) →
      exec c s = replied rq kindArmDelivery n .busy .empty (heard rq n s)) ∧
    ((∀ d r, s.delivery d = some r → r.source ≠ i) →
      (((s.source i).state ≠ .stopped ∧ (s.source i).state ≠ .running) ∨ (s.tank i).set = false ∨
          (∃ d r, s.delivery d = some r ∧ r.reference = some reference) →
        exec c s = replied rq kindArmDelivery n .state .empty (heard rq n s)) ∧
      ((s.source i).state = .stopped ∨ (s.source i).state = .running → (s.tank i).set = true →
        (∀ d r, s.delivery d = some r → r.reference ≠ some reference) →
        ((∀ d, (s.delivery d).isSome = true) →
          exec c s = replied rq kindArmDelivery n .full .empty (heard rq n s)) ∧
        (∀ (d : SlotNo) (h : Hire) (capacity book left : Nat) (r : Delivery) (made : State → State),
          s.delivery d = none → (∀ e, e < d → (s.delivery e).isSome = true) → (s.source i).hire = some h →
          (s.tank i).capacity = some capacity → (s.tank i).book = some book →
          left = capacity - (book - (s.tank i).acc / 3600) →
          r = { slot := d, reference := some reference, source := i, cold := !h.hot, state := .armed, unarmed := false,
                fillWhileLoaded := false, autoClosed := false, unchecked := false, expected := expected,
                armMinutes := expiry, finishMinutes := finish, tolerancePm := tolerance, registerAtArm := register,
                latestRegister := register, gaugeAtOpen := none, gaugeAtClose := none, markAtOpen := none,
                markAtClose := none, metered := none, burnDuring := none, gaugeRise := none, variance := none,
                tolerance := none, credit := none, unloads := [], blockedReported := false, moved := [],
                armTime := some s.stl.clock.time, openTime := none, endTime := none,
                deadline := some (s.stl.clock.time + expiry * 60),
                armTimer := some (max s.now rq.t / 1000 + expiry * 60000), finishTimer := none, surveyTimer := none } →
          made = (fun u => logAppend .deliveryArmed (num i) (some reference) (some expected) u) →
          (h.hot = true → exec c s = replied rq kindArmDelivery n .ok (.armed d .armed left (decide (left < expected)))
            (made (setDelivery d (some r) (heard rq n s)))) ∧
          (h.hot = false → (s.source i).claim = none → (∀ m x, (s.input m x).source = some i → (s.input m x).aux = false) →
            exec c s = replied rq kindArmDelivery n .ok (.armed d .armed left (decide (left < expected)))
              (made (setSource i { s.source i with reservation := some d, state := .refuel }
                (setDelivery d (some r) (heard rq n s))))) ∧
          (h.hot = false → (s.source i).claim ≠ none ∨ (∃ m x, (s.input m x).source = some i ∧ (s.input m x).aux = true) →
            (∀ m x, (s.supply m).closed = some x → (s.input m x).source = some i →
              (s.supply m).state ≠ .live ∧ (s.supply m).state ≠ .tripped) →
            exec c s = replied rq kindArmDelivery n .ok (.armed d .waitingUnload left (decide (left < expected)))
              (made (setSource i { s.source i with reservation := some d }
                (setDelivery d (some { r with state := .waitingUnload,
                                              surveyTimer := some (max s.now rq.t / 1000 + 10000) })
                  (heard rq n s))))) ∧
          (h.hot = false → ∀ (u : State) (q : Delivery),
            u = survey d (setSource i { s.source i with reservation := some d }
              (setDelivery d (some { r with state := .waitingUnload }) (heard rq n s))) →
            u.delivery d = some q →
            (q.state ≠ .waitingUnload → exec c s = replied rq kindArmDelivery n .ok
              (.armed d q.state left (decide (left < expected))) (made u)) ∧
            (q.state = .waitingUnload → exec c s = replied rq kindArmDelivery n .ok
              (.armed d .waitingUnload left (decide (left < expected)))
              (made (setDelivery d (some { q with surveyTimer := some (u.now / 1000 + 10000) }) u)))))))

/-- R90, R96, R97, R98, R107: a fill-point close opens the delivery, with the gauge and the mark taken, and is a loaded
fill while the unload waits; FILLED, it opens again. An open fills an armed delivery and ends an unarmed one
CLOSED_UNARMED. With no delivery on a source a close makes an unarmed one, or is only reported where none can be made.
An uncommanded close that takes its source out of REFUEL sends an ARMED delivery back to its unload, and marks an OPEN
one loaded. The level found after a warm restart acts as the change to it would, and is only taken where it fits the
delivery or there is none. Choices of the model in it: the stations told of a loaded or an unarmed fill (log entry 27), a
reopened delivery whose survey timer stays stopped (17), deadlines that may pass 2^32 - 1 (21) and that stand when their
timer stops (43), and an unarmed credit that is not held (44). -/
def Obligations.FillPointsMoveDeliveries : Prop :=
  (∀ (s u w : State) (i : SourceNo) (d : SlotNo) (r q : Delivery) (t : Nat) (gauge : Option Nat),
    s.delivery d = some r → r.source = i → (∀ e p, s.delivery e = some p → p.source = i → e = d) →
    gauge = (if (s.source i).stale then none else gaugeLevel (s.tank i) (s.source i)) →
    q = { r with state := .opened, gaugeAtOpen := some gauge, markAtOpen := some (s.tank i).mark,
                 openTime := some s.stl.clock.time, armTimer := none } →
    (look s.dlv.fill i = false → look s.dlv.fillUnread i = false → u = setFill i true (advanceTo t s) →
      (r.state = .armed → exec (.fillPointClose i t) s =
        .next (logAppend .deliveryOpen (num i) r.reference gauge (setDelivery d (some q) u))) ∧
      (r.state = .waitingUnload → exec (.fillPointClose i t) s =
        .next (raise (.delivery i r.reference .loadedFill) toFuelAndConsole
          (logAppend .deliveryOpen (num i) r.reference gauge
            (setDelivery d (some { q with fillWhileLoaded := true }) u)))) ∧
      (r.state = .filled → exec (.fillPointClose i t) s =
        .next (setDelivery d (some { r with state := .opened, finishTimer := none }) u))) ∧
    (look s.dlv.fill i = true → look s.dlv.fillUnread i = false → u = setFill i false (advanceTo t s) →
      r.state = .opened → r.unarmed = false → exec (.fillPointOpen i t) s =
        .next (setDelivery d (some { r with
          state := .filled, finishTimer := some (max s.now t / 1000 + r.finishMinutes * 60000),
          deadline := some (s.stl.clock.time + r.finishMinutes * 60), surveyTimer := none }) u)) ∧
    (look s.dlv.fill i = true → look s.dlv.fillUnread i = false → u = setFill i false (advanceTo t s) →
      (r.state ≠ .opened → exec (.fillPointOpen i t) s = .next u) ∧
      (∀ start burn closed, r.state = .opened → r.unarmed = true → r.markAtOpen = some start → r.gaugeRise = none →
        burn = ((s.tank i).mark - start) / 3600 →
        closed = { r with gaugeAtClose := some gauge, markAtClose := some (s.tank i).mark, burnDuring := some burn } →
        (∀ go gc, r.gaugeAtOpen = some (some go) → gauge = some gc → ∀ rise : Int, rise = (gc : Int) - go →
          exec (.fillPointOpen i t) s = .next (endDelivery d .closedUnarmed (rise + burn).toNat
            (setDelivery d (some { closed with gaugeRise := some rise }) u))) ∧
        (r.gaugeAtOpen = some none ∨ gauge = none → exec (.fillPointOpen i t) s = .next
          (endDelivery d .closedUnarmed 0 (setDelivery d (some { closed with unchecked := true }) u))))) ∧
    (look s.dlv.fillUnread i = true → ∀ found : Bool → State,
      (∀ b, found b = setFill i b (setFillUnread i false s)) →
      (r.state = .armed ∨ r.state = .waitingUnload ∨ r.state = .filled →
        exec (.fillPointRestartCheck i true t) s = exec (.fillPointClose i t) (found false) ∧
        exec (.fillPointRestartCheck i false t) s = .next (setFill i false (setFillUnread i false (advanceTo t s)))) ∧
      (r.state = .opened →
        exec (.fillPointRestartCheck i false t) s = exec (.fillPointOpen i t) (found true))) ∧
    (look s.dlv.fillUnread i = true → w = setFill i true (setFillUnread i false (advanceTo t s)) →
      (r.state = .opened → exec (.fillPointRestartCheck i true t) s = .next w) ∧
      (r.state = .armed → exec (.fillPointRestartCheck i true t) s =
        .next (logAppend .deliveryOpen (num i) r.reference gauge (setDelivery d (some q) w))))) ∧
  (∀ (s : State) (i : SourceNo) (t : Nat), (∀ e p, s.delivery e = some p → p.source ≠ i) →
    (look s.dlv.fillUnread i = true → ∀ closed, exec (.fillPointRestartCheck i closed t) s =
      .next (setFill i closed (setFillUnread i false (advanceTo t s)))) ∧
    (look s.dlv.fill i = false → look s.dlv.fillUnread i = false →
      (∀ (d : SlotNo) (gauge : Option Nat), (s.source i).state = .stopped ∨ (s.source i).state = .running →
        s.delivery d = none → (∀ e, e < d → (s.delivery e).isSome = true) →
        gauge = (if (s.source i).stale then none else gaugeLevel (s.tank i) (s.source i)) →
        ∀ r : Delivery, r =
          { slot := d, reference := none, source := i, cold := false, state := .opened, unarmed := true,
            fillWhileLoaded := false, autoClosed := false, unchecked := false, expected := 0, armMinutes := 15,
            finishMinutes := 5, tolerancePm := 20, registerAtArm := 0, latestRegister := 0, gaugeAtOpen := some gauge,
            gaugeAtClose := none, markAtOpen := some (s.tank i).mark, markAtClose := none, metered := none,
            burnDuring := none, gaugeRise := none, variance := none, tolerance := none, credit := none, unloads := [],
            blockedReported := false, moved := [], armTime := some s.stl.clock.time,
            openTime := some s.stl.clock.time, endTime := none, deadline := none, armTimer := none,
            finishTimer := none, surveyTimer := none } →
          exec (.fillPointClose i t) s = .next (raise (.delivery i none .unarmed) toFuelAndConsole
            (logAppend .unarmedFill (num i) gauge (some d.1) (setDelivery d (some r) (setFill i true (advanceTo t s)))))) ∧
      ((s.source i).state = .offHire ∨
          (((s.source i).state = .stopped ∨ (s.source i).state = .running) ∧ ∀ d, (s.delivery d).isSome = true) →
        ∀ gauge, gauge = (if (s.source i).stale then none else gaugeLevel (s.tank i) (s.source i)) →
        exec (.fillPointClose i t) s = .next (raise (.delivery i none .unarmed) toFuelAndConsole
          (logAppend .unarmedFill (num i) gauge none (setFill i true (advanceTo t s))))) ∧
      ((s.source i).state = .unlisted → exec (.fillPointClose i t) s = .next (setFill i true (advanceTo t s)))) ∧
    (look s.dlv.fill i = true → look s.dlv.fillUnread i = false →
      exec (.fillPointOpen i t) s = .next (setFill i false (advanceTo t s)))) ∧
  (∀ (s : State) (i : SourceNo), ((∀ e p, s.delivery e = some p → p.source ≠ i) → loadedByHand i s = s) ∧
    (∀ (d : SlotNo) (r : Delivery), s.delivery d = some r → r.source = i →
      (∀ e p, s.delivery e = some p → p.source = i → e = d) →
      (r.state = .armed → loadedByHand i s = survey d (setDelivery d
        (some { r with state := .waitingUnload, surveyTimer := some (s.now / 1000 + 10000) }) s)) ∧
      (r.state = .opened → loadedByHand i s = survey d (setDelivery d
        (some { r with fillWhileLoaded := true, surveyTimer := some (s.now / 1000 + 10000) })
        (raise (.delivery i r.reference .loadedFill) toFuelAndConsole s))) ∧
      (r.state = .filled ∨ r.state = .waitingUnload → loadedByHand i s = s)))

/-- R99 to R102: METER READING writes the register of a delivery OPEN or FILLED; CLOSE DELIVERY and the finish timer
reconcile a FILLED one, with both gauges read or, where one is none, UNCHECKED; CANCEL DELIVERY and the arm expiry end one
not yet open; a reference that only a last-ended record carries is LATE, and one that none carries UNKNOWN. R103, R83,
R12: the end of a delivery whose moved supplies stay where they are: the slot is free and the record the last ended one,
the credit goes to the tank, capped with OVERFILL, a cold source leaves REFUEL, here with no supply waiting for a
restore, and DELIVERY_END is logged and raised; then the end step by step, for every delivery. R104: each moved-list
entry of a supply with return-home becomes a return-list entry with its first attempt. The model's choices in it: the
moved list is taken in its order (log entry 11, DESIGN CHOICE), the record of an ended delivery keeps its deadline (43,
DESIGN CHOICE), the next attempt falls 10 s after the entry is made (18, DESIGN CHOICE), and its deadline may pass 2^32 - 1
(21, DEDUCED). -/
def Obligations.DeliveriesAreReconciled : Prop :=
  (∀ (rq : Request) (n : StationNo) (st : Station) (s : State) (d : SlotNo) (r : Delivery) (ref register : Nat),
     s.delivery d = some r → r.reference = some ref → (∀ e p, s.delivery e = some p → p.reference = some ref → e = d) →
     (Taken rq kindMeterReading n st s →
       (r.state = .opened ∨ r.state = .filled → exec (.meterReading rq ref register) s =
         replied rq kindMeterReading n .ok (.metered ((register + 4294967296 - r.registerAtArm) % 4294967296))
           (setDelivery d (some { r with latestRegister := register }) (heard rq n s))) ∧
       (r.state = .armed ∨ r.state = .waitingUnload → exec (.meterReading rq ref register) s =
         replied rq kindMeterReading n .state .empty (heard rq n s))) ∧
     (∀ (go gc start : Nat) (auto : Bool) (latest : Nat) (m0 cap m burn : Nat) (rise v : Int) (tol : Nat) (q : Delivery),
       r.state = .filled → r.gaugeAtOpen = some (some go) → r.markAtOpen = some start →
       (s.source r.source).stale = false → gaugeLevel (s.tank r.source) (s.source r.source) = some gc →
       (s.tank r.source).capacity = some cap →
       m0 = (latest + 4294967296 - r.registerAtArm) % 4294967296 → m = min cap m0 →
       burn = ((s.tank r.source).mark - start) / 3600 → rise = (gc : Int) - go → v = rise - ((m : Int) - burn) →
       tol = 20 + m * r.tolerancePm / 1000 →
       q = { r with latestRegister := latest, autoClosed := auto, gaugeAtClose := some (some gc),
                    markAtClose := some (s.tank r.source).mark, burnDuring := some burn, gaugeRise := some rise,
                    metered := some m, variance := some v, tolerance := some tol } →
       ∀ fin, fin = (if cap < m0 ∨ tol < v.natAbs then DeliveryState.disputed else DeliveryState.closed) →
       (Taken rq kindCloseDelivery n st s → latest = register → auto = r.autoClosed →
         exec (.closeDelivery rq ref register) s =
           replied rq kindCloseDelivery n .ok
             (closedBody (endDelivery d fin m (setDelivery d (some q) (heard rq n s))) r.source)
             (endDelivery d fin m (setDelivery d (some q) (heard rq n s)))) ∧
       (∀ due, r.finishTimer = some due → latest = r.latestRegister → auto = true →
         exec (.finishTimerExpiry d) s =
           .next (endDelivery d fin m (setDelivery d (some q) (advanceTo (due * 1000) s))))) ∧
     (∀ (start : Nat) (gauge : Option Nat) (auto : Bool) (latest : Nat) (m0 cap m : Nat) (q : Delivery),
       r.state = .filled → r.markAtOpen = some start → r.gaugeRise = none → r.variance = none → r.tolerance = none →
       gauge = (if (s.source r.source).stale then none else gaugeLevel (s.tank r.source) (s.source r.source)) →
       gauge = none ∨ r.gaugeAtOpen = some none → (s.tank r.source).capacity = some cap →
       m0 = (latest + 4294967296 - r.registerAtArm) % 4294967296 → m = min cap m0 →
       q = { r with latestRegister := latest, autoClosed := auto, unchecked := true, gaugeAtClose := some gauge,
                    markAtClose := some (s.tank r.source).mark,
                    burnDuring := some (((s.tank r.source).mark - start) / 3600), metered := some m } →
       ∀ fin, fin = (if cap < m0 then DeliveryState.disputed else DeliveryState.closed) →
       (Taken rq kindCloseDelivery n st s → latest = register → auto = r.autoClosed →
         exec (.closeDelivery rq ref register) s =
           replied rq kindCloseDelivery n .ok
             (closedBody (endDelivery d fin m (setDelivery d (some q) (heard rq n s))) r.source)
             (endDelivery d fin m (setDelivery d (some q) (heard rq n s)))) ∧
       (∀ due, r.finishTimer = some due → latest = r.latestRegister → auto = true →
         exec (.finishTimerExpiry d) s =
           .next (endDelivery d fin m (setDelivery d (some q) (advanceTo (due * 1000) s))))) ∧
     (Taken rq kindCloseDelivery n st s → r.state ≠ .filled → exec (.closeDelivery rq ref register) s =
       replied rq kindCloseDelivery n .state .empty (heard rq n s)) ∧
     (Taken rq kindCancelDelivery n st s →
       (r.state = .armed ∨ r.state = .waitingUnload → exec (.cancelDelivery rq ref) s =
         replied rq kindCancelDelivery n .ok .empty (endDelivery d .cancelled 0 (heard rq n s))) ∧
       (r.state = .opened ∨ r.state = .filled → exec (.cancelDelivery rq ref) s =
         replied rq kindCancelDelivery n .state .empty (heard rq n s))) ∧
     (∀ due, r.armTimer = some due → r.state = .armed ∨ r.state = .waitingUnload →
       exec (.armExpiry d) s = .next (endDelivery d .expired 0 (advanceTo (due * 1000) s)))) ∧
  (∀ (s u v : State) (d : SlotNo) (r q : Delivery) (fin : DeliveryState) (credit cap book : Nat),
     s.delivery d = some r → (∀ m, m ∈ r.moved → (s.supply m.supply).returnHome = false) →
     (s.tank r.source).set = true → (s.tank r.source).capacity = some cap → (s.tank r.source).book = some book →
     q = { r with state := fin, credit := some credit, endTime := some s.stl.clock.time, armTimer := none,
                  finishTimer := none, surveyTimer := none } →
     u = (if (fin = .closed ∨ fin = .disputed ∨ fin = .closedUnarmed) ∧ credit ≠ 0 then
         setTankRec r.source { s.tank r.source with
           book := some (min cap (book + credit)),
           overfill := (s.tank r.source).overfill || decide (cap < book + credit) } s
       else s) →
     v = (if r.cold then setSource r.source { s.source r.source with
           state := if (s.source r.source).state = .refuel then
               (if runningBit (s.source r.source) then .running else .stopped)
             else (s.source r.source).state,
           reservation := none } u
       else u) →
     (r.cold = true → ∀ m, (s.supply m).restoreWaiting = false) →
     endDelivery d fin credit s =
       raise (.delivery r.source r.reference (.ended fin)) toFuelAndConsole
         (logAppend .deliveryEnd (num r.source) (some (deliveryCode fin + (if r.unarmed then 256 else 0) +
             (if r.fillWhileLoaded then 512 else 0) + (if r.autoClosed then 1024 else 0) +
             (if r.unchecked then 2048 else 0))) (some credit)
           (setDelivery d none (setLastEnded r.source (some q) v)))) ∧
  (∀ (rq : Request) (n : StationNo) (st : Station) (s : State) (ref register : Nat) (e : Status),
     (∀ d r, s.delivery d = some r → r.reference ≠ some ref) →
     ((∃ i r, s.lastEnded i = some r ∧ r.reference = some ref) ∧ e = .late ∨
       (∀ i r, s.lastEnded i = some r → r.reference ≠ some ref) ∧ e = .unknown) →
     (Taken rq kindMeterReading n st s → exec (.meterReading rq ref register) s =
       replied rq kindMeterReading n e .empty (heard rq n s)) ∧
     (Taken rq kindCloseDelivery n st s → exec (.closeDelivery rq ref register) s =
       replied rq kindCloseDelivery n e .empty (heard rq n s)) ∧
     (Taken rq kindCancelDelivery n st s → exec (.cancelDelivery rq ref) s =
       replied rq kindCancelDelivery n e .empty (heard rq n s))) ∧
  (∀ (s u v : State) (d : SlotNo) (r q : Delivery) (fin : DeliveryState) (credit : Nat), s.delivery d = some r →
     q = { r with state := fin, credit := some credit, endTime := some s.stl.clock.time, armTimer := none,
                  finishTimer := none, surveyTimer := none } →
     u = (if fin = .closed ∨ fin = .disputed ∨ fin = .closedUnarmed
       then tankCredit r.source credit (setDelivery d (some q) s) else setDelivery d (some q) s) →
     v = (if r.cold then changeSource r.source (fun p =>
         { p with state := if p.state = .refuel then (if runningBit p then .running else .stopped) else p.state,
                  reservation := none }) u
       else u) →
     endDelivery d fin credit s =
       raise (.delivery r.source r.reference (.ended fin)) toFuelAndConsole
         (logAppend .deliveryEnd (num r.source) (some (deliveryCode fin + (if r.unarmed then 256 else 0) +
             (if r.fillWhileLoaded then 512 else 0) + (if r.autoClosed then 1024 else 0) +
             (if r.unchecked then 2048 else 0))) (some credit)
           (setDelivery d none (setLastEnded r.source (some q) (r.moved.foldl (makeReturn r.source d) v))))) ∧
  (∀ (s : State) (i : SourceNo) (d : SlotNo) (m : MovedEntry),
     ((s.supply m.supply).returnHome = false → makeReturn i d s m = s) ∧
     ((s.supply m.supply).returnHome = true → makeReturn i d s m = returnAttempt m.supply
       (putReturn { supply := m.supply, fromInput := m.fromInput, toInput := m.toInput, source := i, slot := d,
                    window := some (s.now / 1000 + 1800000), deadline := s.stl.clock.time + 1800,
                    attempt := some (s.now / 1000 + 10000), ticket := none, last := none } s))) ∧
  (∀ (s : State) (i : SourceNo) (credit : Nat),
     ((s.tank i).set = false ∨ credit = 0 → tankCredit i credit s = s) ∧
     (∀ cap book, (s.tank i).set = true → credit ≠ 0 → (s.tank i).capacity = some cap → (s.tank i).book = some book →
       tankCredit i credit s = setTankRec i { s.tank i with
         book := some (min cap (book + credit)),
         overfill := (s.tank i).overfill || decide (cap < book + credit) } s))

/-- R92, R93, R95: the survey timer of an unloading delivery, WAITING_UNLOAD or loaded while OPEN, restarts and the survey
runs: REFUEL is asked for again, and where it is refused the BLOCKED entries of supplies no longer fed are removed and
each supply that the source feeds and that has no transfer in flight for it is asked to move, in rising number (log entry
11). The answer is written in the supply's entry of the unload list, and the delivery's first block is logged and
raised. An UNLOAD is admitted as a station's TRANSFER is (log entry 16). R104, R105: an attempt of a return-list entry
asks XFR for a return where the supply is LIVE on the input it was moved to, and otherwise drops the entry; a refusal
starts the attempt timer again (log entry 18). A window that runs out abandons an entry whose transfer is not in
flight. -/
def Obligations.UnloadsAndReturnsAreAsked : Prop :=
  (∀ (s : State) (d : SlotNo) (r : Delivery) (due : Nat) (asks : Prop), s.delivery d = some r →
     r.surveyTimer = some due →
     (asks ↔ r.state = .waitingUnload ∨
       (r.state = .opened ∧ r.fillWhileLoaded = true ∧ (s.source r.source).state ≠ .refuel)) →
     (asks → exec (.unloadSurveyTimer d) s = .next (survey d (setDelivery d
       (some { r with surveyTimer := some (max s.now (due * 1000) / 1000 + 10000) }) (advanceTo (due * 1000) s)))) ∧
     (¬ asks → exec (.unloadSurveyTimer d) s =
       .next (setDelivery d (some { r with surveyTimer := none }) (advanceTo (due * 1000) s)))) ∧
  (∀ (s : State) (d : SlotNo) (r : Delivery) (granted : Prop), s.delivery d = some r →
     (granted ↔ ((s.source r.source).state = .stopped ∨ (s.source r.source).state = .running) ∧
       (s.source r.source).claim = none ∧ (s.source r.source).reservation ≠ none ∧
       (∀ m x, (s.input m x).source = some r.source → (s.input m x).aux = false)) →
     (granted → ∀ u, u = setDelivery d (some { r with
         surveyTimer := none, state := if r.state = .waitingUnload then .armed else r.state })
         (setSource r.source { s.source r.source with state := .refuel } s) →
       survey d s = u ∧ (surveyStepOne d s).state = u) ∧
     (¬ granted → (surveyStepOne d s).state = s ∧
       ∀ (fed : SupplyNo → Bool) (left : List UnloadEntry),
         (∀ n, fed n = true ↔ ((s.supply n).state = .live ∨ (s.supply n).state = .tripped) ∧
           ∃ x, (s.supply n).closed = some x ∧ (s.input n x).source = some r.source) →
         left = r.unloads.filter (fun e => match e.status with
           | .inFlight _ => true
           | .blocked _ => fed e.supply) →
         survey d s = (indices 12).foldl (requestUnload d) (setDelivery d (some { r with unloads := left }) s))) ∧
  (∀ (s : State) (d : SlotNo) (r : Delivery) (n : SupplyNo) (asks : Prop), s.delivery d = some r →
     (asks ↔ ((s.supply n).state = .live ∨ (s.supply n).state = .tripped) ∧
       (∃ x, (s.supply n).closed = some x ∧ (s.input n x).source = some r.source) ∧
       (∀ e k, e ∈ r.unloads → e.supply = n → e.status ≠ .inFlight k)) →
     (¬ asks → requestUnload d s n = s) ∧
     (asks → ∀ (a : Ask) (u : State) (p : Delivery),
       a = { supply := n, target := none, mode := .auto, priority := 4, originator := .unload d } →
       u.delivery d = some p →
       (∀ k y m, admitOrPreempt a s = ⟨u, .accepted k y m⟩ →
         requestUnload d s n = setDelivery d (some (putUnload n (.inFlight k) p)) u) ∧
       (∀ e, admitOrPreempt a s = ⟨u, .refused e⟩ → ∀ q, q = putUnload n (.blocked (.status e)) p →
         (p.blockedReported = true → requestUnload d s n = setDelivery d (some q) u) ∧
         (p.blockedReported = false → requestUnload d s n =
           raise (.delivery p.source p.reference .blocked) toFuelAndConsole
             (logAppend .unloadBlocked (num p.source) (num n) (some (statusCode e))
               (setDelivery d (some { q with blockedReported := true }) u)))))) ∧
  (∀ (r : Delivery) (n : SupplyNo) (st : UnloadStatus) (e : UnloadEntry), e = { supply := n, status := st } →
     ((∃ f ∈ r.unloads, f.supply = n) → putUnload n st r =
       { r with unloads := r.unloads.map fun f => if f.supply = n then e else f }) ∧
     ((∀ f ∈ r.unloads, f.supply ≠ n) → putUnload n st r = { r with unloads := r.unloads ++ [e] })) ∧
  (∀ (r : Delivery) (m : MovedEntry),
     ((∃ f ∈ r.moved, f.supply = m.supply) → putMoved m r =
       { r with moved := r.moved.map fun f => if f.supply = m.supply then m else f }) ∧
     ((∀ f ∈ r.moved, f.supply ≠ m.supply) → putMoved m r = { r with moved := r.moved ++ [m] })) ∧
  (∀ (s : State) (e : ReturnEntry),
     ((∃ f ∈ s.dlv.returns, f.supply = e.supply) → putReturn e s =
       setReturns (s.dlv.returns.map fun f => if f.supply = e.supply then e else f) s) ∧
     ((∀ f ∈ s.dlv.returns, f.supply ≠ e.supply) → putReturn e s = setReturns (s.dlv.returns ++ [e]) s)) ∧
  (∀ (s : State) (n : SupplyNo) (e : ReturnEntry), e ∈ s.dlv.returns → e.supply = n →
     (∀ f, f ∈ s.dlv.returns → f.supply = n → f = e) →
     (e.ticket = none →
       ((s.supply n).state ≠ .live ∨ (s.supply n).closed ≠ some e.toInput →
         returnAttempt n s = setReturns (s.dlv.returns.filter fun f => decide (f.supply ≠ n)) s) ∧
       ((s.supply n).state = .live → (s.supply n).closed = some e.toInput → ∀ a : Ask,
         a = { supply := n, target := some e.fromInput, mode := .closed, priority := 3,
               originator := .returnHome e.slot } →
         (∀ w v, admitOrPreempt a s = ⟨v, .refused w⟩ → returnAttempt n s =
           putReturn { e with last := some (.status w), attempt := some (s.now / 1000 + 10000) } v) ∧
         (∀ k x m v, admitOrPreempt a s = ⟨v, .accepted k x m⟩ → returnAttempt n s =
           putReturn { e with ticket := some k, attempt := none } v))) ∧
     (e.ticket ≠ none → returnAttempt n s = s) ∧
     (∀ due u, u = advanceTo (due * 1000) s →
       (e.attempt = some due → e.ticket = none → exec (.returnAttemptTimer n) s = .next (returnAttempt n u)) ∧
       (e.window = some due →
         (e.ticket = none → exec (.returnWindowExpiry n) s = .next (raise (.returnAbandoned n) toFuelAndConsole
           (logAppend .returnAbandoned (num n) (some (inputCode e.fromInput)) (e.last.map outcomeCode)
             (setReturns (s.dlv.returns.filter fun f => decide (f.supply ≠ n)) u)))) ∧
         (e.ticket ≠ none → exec (.returnWindowExpiry n) s = .next (putReturn { e with window := none } u)))))

/-! ## Metering -/

/-- R109, R110: DEFINE CHANNEL writes the fields, and empties the bins of a channel newly defined or of a new wh per
pulse; a width carried as none selects 20 ms; with no account it undefines the channel. That an undefinition keeps NOISE, the discarded count and SATURATED is the
model's choice (log entry 45, DESIGN CHOICE). -/
def Obligations.ChannelsAreDefined : Prop :=
  ∀ (rq : Request) (n : StationNo) (st : Station) (s : State) (k : ChannelNo), Taken rq kindDefineChannel n st s →
    (∀ (m : Option SupplyNo) (a : AccountNo) (wh width : Nat) (q : Option Nat), 1 ≤ wh → wh ≤ 1000 →
      width = q.getD 20 → 5 ≤ width → width ≤ 100 →
      let c : Instr := .defineChannel rq k.1 (m.map numberOf) (some a.1) wh q
      ((s.account a).defined = true → (∀ x, m = some x → (s.supply x).defined = true) →
        ∀ r : Chan, r = { s.chan k with
          defined := true, supply := m, account := some a, wh := wh, width := width,
          bins := if (s.chan k).defined = true ∧ (s.chan k).wh = wh then (s.chan k).bins else List.replicate 60 0,
          noise := false, saturated := false, discarded := 0, pulseStart := none, discardMark := false,
          lastFall := if (s.chan k).line then none else some (max s.now rq.t / 1000) } →
        exec c s = replied rq kindDefineChannel n .ok (.channelSet r) (setChan k r (heard rq n s))) ∧
      ((s.account a).defined = false ∨ (∃ x, m = some x ∧ (s.supply x).defined = false) →
        exec c s = replied rq kindDefineChannel n .unknown .empty (heard rq n s))) ∧
    (∀ m wh width, ∀ r : Chan, r = { s.chan k with defined := false, supply := none, account := none,
                                                    bins := List.replicate 60 0 } →
      exec (.defineChannel rq k.1 m none wh width) s =
        replied rq kindDefineChannel n .ok (.channelSet r) (setChan k r (heard rq n s)))

/-- R111, R112, R115: the edges of a meter line. A rise after a low of the width starts a pulse, and after a shorter
low marks noise; the fall counts a pulse as long as the width and no longer than 1000 ms into the newest bin, the
channel's energy and one cell of the matrix, in the column of the source of record at that instant, and discards
any other. -/
def Obligations.PulsesAreCounted : Prop :=
  ∀ (s : State) (k : ChannelNo) (t ms : Nat), ms = max s.now t / 1000 →
    ((s.chan k).line = false → (s.chan k).defined = true →
      (∀ f, (s.chan k).lastFall = some f → f ≤ ms → f + (s.chan k).width ≤ ms →
        exec (.meterRisingEdge k t) s =
          .next (setChan k { s.chan k with line := true, pulseStart := some ms } (advanceTo t s))) ∧
      (∀ f, (s.chan k).lastFall = some f → f ≤ ms → ms < f + (s.chan k).width →
        exec (.meterRisingEdge k t) s = .next (setChan k
          { s.chan k with line := true, pulseStart := none, discardMark := true } (advanceTo t s))) ∧
      ((s.chan k).lastFall = none →
        exec (.meterRisingEdge k t) s =
          .next (setChan k { s.chan k with line := true, pulseStart := none } (advanceTo t s)))) ∧
    ((s.chan k).line = true → (s.chan k).defined = true → ∀ a, (s.chan k).account = some a →
      ∀ r : Chan, r = { s.chan k with line := false, lastFall := some ms, pulseStart := none, discardMark := false } →
      (∀ p, (s.chan k).pulseStart = some p → p + (s.chan k).width ≤ ms → ms ≤ p + 1000 →
        ∀ (b : Nat) (rest : List Nat) (col : Fin 17) (old : Nat), (s.chan k).bins = b :: rest →
        ((∀ m i, (s.chan k).supply = some m → (s.supply m).record = some i → col.1 = i.1) ∧
          ((∀ m i, (s.chan k).supply = some m → (s.supply m).record ≠ some i) → col.1 = 16)) →
        old = look (look s.mtr.matrix a) col →
        exec (.meterFallingEdge k t) s = .next
          (setMatrix (upd s.mtr.matrix a (upd (look s.mtr.matrix a) col (min (old + (s.chan k).wh) 4294967295)))
            (setChan k { r with
              bins := min 65535 (b + 1) :: rest, energy := min ((s.chan k).energy + (s.chan k).wh) 4294967295,
              saturated := (s.chan k).saturated || decide (4294967295 < (s.chan k).energy + (s.chan k).wh) ||
                decide (4294967295 < old + (s.chan k).wh) } (advanceTo t s)))) ∧
      ((∃ p, (s.chan k).pulseStart = some p ∧ p ≤ ms ∧ (ms < p + (s.chan k).width ∨ p + 1000 < ms)) ∨
          ((s.chan k).pulseStart = none ∧ (s.chan k).discardMark = true) →
        exec (.meterFallingEdge k t) s = .next (setChan k
          { r with noise := true, discarded := min 65535 ((s.chan k).discarded + 1) } (advanceTo t s))) ∧
      ((s.chan k).pulseStart = none → (s.chan k).discardMark = false →
        exec (.meterFallingEdge k t) s = .next (setChan k r (advanceTo t s)))) ∧
    ((s.chan k).defined = false →
      ((s.chan k).line = false →
        exec (.meterRisingEdge k t) s = .next (setChan k { s.chan k with line := true } (advanceTo t s))) ∧
      ((s.chan k).line = true →
        exec (.meterFallingEdge k t) s = .next (setChan k { s.chan k with line := false } (advanceTo t s))))

/-! ## Watches -/

/-- R138, R147: DEFINE WATCH writes an entry, unarmed and IDLE, or undefines it; an operand, a condition code, an action,
a persistence, or for TRANSFER a supply or a priority out of range is answered RANGE. The notify mask is kept in its bits
0 to 3 and its bits 4 to 7, of no role, are dropped with the answer OK: the model's choice (log entry 5, DESIGN
CHOICE). ARM and DISARM WATCHES act on the entries that the mask names, and answer the mask of armed entries. -/
def Obligations.WatchesAreDefinedAndArmed : Prop :=
  ∀ (rq : Request) (n : StationNo) (st : Station) (s : State),
    (Taken rq kindDefineWatch n st s → ∀ (w : WatchNo) (f : WatchReq),
      (f.kind = none → exec (.defineWatch rq w.1 f) s = replied rq kindDefineWatch n .ok .empty
        (setWatch w { s.watch w with
          defined := false, armed := false, operand := none, supply := none, priority := none, mask := 0,
          state := .idle, counter := 0, refusalReported := false, lastValue := none, lastCond := false }
          (heard rq n s))) ∧
      (∀ k o c (m : Option SupplyNo) (p : Option Nat), f.kind = some k → operandOf? k f.index = some o →
        condOf? f.cond = some c → f.persistence ≤ 3600 →
        ∀ r : Watch, r = { s.watch w with
          defined := true, armed := false, operand := some o, cond := c, threshold := f.threshold,
          hysteresis := f.hysteresis, persistence := f.persistence, supply := m, priority := p, mask := f.mask &&& 15,
          state := .idle, counter := 0, refusalReported := false, lastValue := none, lastCond := false } →
        (f.action = 0 → m = none → p = none → exec (.defineWatch rq w.1 f) s =
          replied rq kindDefineWatch n .ok .empty (setWatch w { r with action := .notify } (heard rq n s))) ∧
        (∀ x, f.action = 1 → f.supply = numberOf x → f.priority ≤ 6 → m = some x → p = some f.priority →
          exec (.defineWatch rq w.1 f) s =
            replied rq kindDefineWatch n .ok .empty (setWatch w { r with action := .transfer } (heard rq n s)))) ∧
      (∀ k, f.kind = some k →
        operandOf? k f.index = none ∨ condOf? f.cond = none ∨ actionOf? f.action = none ∨ 3600 < f.persistence ∨
          (f.action = 1 ∧ (f.supply = 0 ∨ 12 < f.supply ∨ 6 < f.priority)) →
        exec (.defineWatch rq w.1 f) s = replied rq kindDefineWatch n .range .empty (heard rq n s))) ∧
    (Taken rq kindArmWatches n st s → ∀ mask : Word, ∃ (all : Vector Watch 32) (armed : Word),
      (∀ w, look all w = if mask.getLsbD w.1 = true ∧ (s.watch w).defined = true ∧ (s.watch w).armed = false
        then { s.watch w with armed := true, state := .idle, counter := 0, refusalReported := false }
        else s.watch w) ∧
      (∀ w : WatchNo, armed.getLsbD w.1 = (look all w).armed) ∧
      exec (.armWatches rq mask) s =
        replied rq kindArmWatches n .ok (.armedWatches armed) { heard rq n s with wch := all }) ∧
    (Taken rq kindDisarmWatches n st s → ∀ mask : Word, ∃ (all : Vector Watch 32) (armed : Word),
      (∀ w, look all w = if mask.getLsbD w.1 = true
        then { s.watch w with armed := false, state := .idle, counter := 0, refusalReported := false }
        else s.watch w) ∧
      (∀ w : WatchNo, armed.getLsbD w.1 = (look all w).armed) ∧
      exec (.disarmWatches rq mask) s =
        replied rq kindDisarmWatches n .ok (.armedWatches armed) { heard rq n s with wch := all })

/-- R141: the flags Z, N, C and V of a value and a threshold, the tests of the condition codes on them, and what each
code thereby says of the two words read as the code reads them. R142: the release test of an entry on a value, its
release threshold formed exactly and held at its limit; an absent value passes it, and an ALWAYS entry never does.
-/
def Obligations.ConditionsAndReleaseTests : Prop :=
  (∀ (v t : Word) (f : Cmp), f = Sys2Proof.Machine.compare v t →
     (f.z = true ↔ v - t = 0) ∧ (f.n = true ↔ (v - t).getLsbD 31 = true) ∧ (f.c = true ↔ v.toNat < t.toNat) ∧
     (f.v = true ↔ v.getLsbD 31 ≠ t.getLsbD 31 ∧ (v - t).getLsbD 31 ≠ v.getLsbD 31) ∧
     condHolds .gt v t = (!f.z && f.n == f.v) ∧ condHolds .ge v t = (f.n == f.v) ∧ condHolds .lt v t = (f.n != f.v) ∧
     condHolds .le v t = (f.z || f.n != f.v) ∧ condHolds .above v t = (!f.c && !f.z) ∧
     condHolds .atOrAbove v t = (!f.c) ∧ condHolds .below v t = f.c ∧ condHolds .atOrBelow v t = (f.c || f.z) ∧
     condHolds .eq v t = f.z ∧ condHolds .ne v t = (!f.z) ∧
     (condHolds .eq v t = true ↔ v = t) ∧ (condHolds .ne v t = true ↔ v ≠ t) ∧
     (condHolds .gt v t = true ↔ t.toInt < v.toInt) ∧ (condHolds .ge v t = true ↔ t.toInt ≤ v.toInt) ∧
     (condHolds .lt v t = true ↔ v.toInt < t.toInt) ∧ (condHolds .le v t = true ↔ v.toInt ≤ t.toInt) ∧
     (condHolds .above v t = true ↔ t.toNat < v.toNat) ∧ (condHolds .atOrAbove v t = true ↔ t.toNat ≤ v.toNat) ∧
     (condHolds .below v t = true ↔ v.toNat < t.toNat) ∧ (condHolds .atOrBelow v t = true ↔ v.toNat ≤ t.toNat) ∧
     (condHolds .neg v t = true ↔ v.getLsbD 31 = true) ∧
     (condHolds .bitSet v t = true ↔ v.getLsbD (t.toNat % 32) = true) ∧
     (condHolds .bitClr v t = true ↔ v.getLsbD (t.toNat % 32) = false) ∧ condHolds .always v t = true) ∧
  (∀ (w : Watch) (v : Word), let t := w.threshold; let h := w.hysteresis
     (w.cond = .gt → (released w (some v) = true ↔ v.toInt ≤ max (-2147483648) (t.toInt - h))) ∧
     (w.cond = .ge → (released w (some v) = true ↔ v.toInt < max (-2147483648) (t.toInt - h))) ∧
     (w.cond = .lt → (released w (some v) = true ↔ min 2147483647 (t.toInt + h) ≤ v.toInt)) ∧
     (w.cond = .le → (released w (some v) = true ↔ min 2147483647 (t.toInt + h) < v.toInt)) ∧
     (w.cond = .above → (released w (some v) = true ↔ v.toNat ≤ t.toNat - h)) ∧
     (w.cond = .atOrAbove → (released w (some v) = true ↔ v.toNat < t.toNat - h)) ∧
     (w.cond = .below → (released w (some v) = true ↔ min 4294967295 (t.toNat + h) ≤ v.toNat)) ∧
     (w.cond = .atOrBelow → (released w (some v) = true ↔ min 4294967295 (t.toNat + h) < v.toNat)) ∧
     (w.cond = .eq ∨ w.cond = .ne ∨ w.cond = .neg ∨ w.cond = .bitSet ∨ w.cond = .bitClr →
       (released w (some v) = true ↔ condHolds w.cond v t = false)) ∧
     (w.cond ≠ .always → released w none = true) ∧ (w.cond = .always → ∀ x, released w x = false))

/-- R140, R143 to R145: a tick samples every entry in rising number, before or after the other blocks take it (log
entries 10, 11). The sample of one entry: unarmed, it is not taken. Armed, it writes the last value and condition
and moves the entry by its state; at its persistence a NOTIFY entry raises and logs, and a TRANSFER entry asks XFR; in
RETRY it asks again at a true sample that brings the count to 10 or finds it there. The second value logged for XFR's
answer is its status code, ACCEPTED included: the model's reading (log entry 25, DEDUCED). -/
def Obligations.WatchSamplesMoveTheEntry : Prop :=
  (∀ (order : TickOrder) (t : Nat) (s : State), exec (.secondTick order t) s =
    .next (if order.watchFirst then tickBlocks order ((indices 32).foldl sampleWatch (advanceTo t s))
      else (indices 32).foldl sampleWatch (tickBlocks order (advanceTo t s)))) ∧
  (∀ (s u : State) (w : WatchNo) (r q : Watch) (v : Option Word), r = s.watch w →
     v = r.operand.bind (operandValue s) →
     q = { r with lastValue := v, lastCond := condition r v } → u = setWatch w q s →
     (r.armed = false → sampleWatch s w = s) ∧
     (r.armed = true →
       (r.state = .idle ∨ r.state = .pending → condition r v = false →
         sampleWatch s w = setWatch w { q with state := .idle, counter := 0 } s) ∧
       (r.state = .fired ∨ r.state = .retry → released q v = true →
         sampleWatch s w = setWatch w { q with state := .idle, counter := 0, refusalReported := false } s) ∧
       (r.state = .fired → released q v = false → sampleWatch s w = u) ∧
       (∀ count, r.state = .retry → released q v = false → count = min 10 (r.counter + 1) →
         count < 10 ∨ condition r v = false → sampleWatch s w = setWatch w { q with counter := count } s) ∧
       (∀ x count, v = some x → condition r v = true →
         (r.state = .idle ∧ count = 1 ∨ r.state = .pending ∧ count = r.counter + 1) →
         (count < r.persistence → sampleWatch s w = setWatch w { q with state := .pending, counter := count } s) ∧
         (r.persistence ≤ count → r.action = .notify → sampleWatch s w =
           setWatch w { q with state := .fired, counter := count }
             (logAppend .watchFired (some w.1) (some x.toNat) (some r.threshold.toNat)
               (raise (.watchFired w x .ok) (toMask r.mask)
                 (setWatch w { q with state := .pending, counter := count } s)))) ∧
         (∀ n p, r.persistence ≤ count → r.action = .transfer → r.supply = some n → r.priority = some p →
           ∀ a b t, b = setWatch w { q with state := .pending, counter := count } s →
           a = { supply := n, target := none, mode := .auto, priority := p, originator := .watch w } →
           (∀ k y m, admitOrPreempt a b = ⟨t, .accepted k y m⟩ → t.watch w = b.watch w →
             sampleWatch s w = setWatch w
               { q with counter := count, ticket := some k, lastStatus := some (.status .accepted), state := .fired }
               (logAppend .watchFired (some w.1) (some x.toNat) (some (statusCode .accepted)) t)) ∧
           (∀ e, admitOrPreempt a b = ⟨t, .refused e⟩ → t.watch w = b.watch w → r.refusalReported = false →
             sampleWatch s w = setWatch w
               { q with counter := 0, lastStatus := some (.status e), state := .retry, refusalReported := true }
               (raise (.watchFired w x e) (toMask r.mask)
                 (logAppend .watchFired (some w.1) (some x.toNat) (some (statusCode e)) t))))) ∧
       (∀ x n p, r.state = .retry → released q v = false → 9 ≤ r.counter → v = some x → condition r v = true →
         r.supply = some n → r.priority = some p →
         ∀ a b t, b = setWatch w { q with counter := 10 } s →
         a = { supply := n, target := none, mode := .auto, priority := p, originator := .watch w } →
         (∀ k y m, admitOrPreempt a b = ⟨t, .accepted k y m⟩ → t.watch w = b.watch w →
           sampleWatch s w = setWatch w
             { q with counter := 0, ticket := some k, lastStatus := some (.status .accepted), state := .fired }
             (logAppend .watchFired (some w.1) (some x.toNat) (some (statusCode .accepted)) t)) ∧
         (∀ e u, admitOrPreempt a b = ⟨t, .refused e⟩ → t.watch w = b.watch w →
           u = logAppend .watchFired (some w.1) (some x.toNat) (some (statusCode e)) t →
           sampleWatch s w = setWatch w
             { q with counter := 0, lastStatus := some (.status e), state := .retry, refusalReported := true }
             (if r.refusalReported then u else raise (.watchFired w x e) (toMask r.mask) u)))))
end

