-- ==== Sys2Proof/Laws/State.lean ====
section
/-! SUPPORT. Laws/State.lean: tables read after a write, and for every named update one lemma per field and per record
it leaves alone or writes. -/

namespace Sys2Proof

@[simp] theorem look_upd {α : Type} {n : Nat} (v : Vector α n) (i j : Fin n) (x : α) :
    look (upd v i x) j = if i = j then x else look v j := by
  show (v.set i.1 x i.2)[j.1] = if i = j then x else v[j.1]
  simp only [Vector.getElem_set, Fin.ext_iff]

@[simp] theorem look_tab {α : Type} {n : Nat} (f : Fin n → α) (i : Fin n) : look (tab f) i = f i := by
  show (Vector.ofFn f)[i.1] = f i
  simp

/-- Two tables with the same entries are equal. -/
theorem table_ext {α : Type} {n : Nat} {v w : Vector α n} (h : ∀ i, look v i = look w i) : v = w := by
  apply Vector.ext
  intro i hi
  exact h ⟨i, hi⟩

@[simp] theorem upd_look {α : Type} {n : Nat} (v : Vector α n) (i : Fin n) : upd v i (look v i) = v := by
  apply table_ext
  intro j
  by_cases h : i = j <;> simp [h]

@[simp] theorem tab_look {α : Type} {n : Nat} (v : Vector α n) : tab (look v) = v :=
  table_ext fun i => by simp

@[simp] theorem upd_upd {α : Type} {n : Nat} (v : Vector α n) (i : Fin n) (x y : α) : upd (upd v i x) i y = upd v i y :=
  table_ext fun j => by
    by_cases h : i = j <;> simp [h]

/-- A number as the manual counts it names its own object. -/
@[simp] theorem number?_numberOf {n : Nat} (i : Fin n) : number? n (numberOf i) = some i := by
  simp [number?, numberOf, index?, i.isLt]

@[simp] theorem number?_succ {n : Nat} (i : Fin n) : number? n (i.1 + 1) = some i := number?_numberOf i

@[simp] theorem index?_val {n : Nat} (i : Fin n) : index? n i.1 = some i := by simp [index?, i.isLt]

@[simp] theorem mem_indices {n : Nat} (i : Fin n) : i ∈ indices n := List.mem_finRange i

end Sys2Proof

namespace Sys2Proof.Machine

variable (s : State)

/-! ## setPort -/

@[simp] theorem setPort_now (p : PortNo) (r : Port) : (setPort p r s).now = s.now := rfl
@[simp] theorem setPort_stn (p : PortNo) (r : Port) : (setPort p r s).stn = s.stn := rfl
@[simp] theorem setPort_src (p : PortNo) (r : Port) : (setPort p r s).src = s.src := rfl
@[simp] theorem setPort_sup (p : PortNo) (r : Port) : (setPort p r s).sup = s.sup := rfl
@[simp] theorem setPort_xfr (p : PortNo) (r : Port) : (setPort p r s).xfr = s.xfr := rfl
@[simp] theorem setPort_syn (p : PortNo) (r : Port) : (setPort p r s).syn = s.syn := rfl
@[simp] theorem setPort_tnk (p : PortNo) (r : Port) : (setPort p r s).tnk = s.tnk := rfl
@[simp] theorem setPort_dlv (p : PortNo) (r : Port) : (setPort p r s).dlv = s.dlv := rfl
@[simp] theorem setPort_mtr (p : PortNo) (r : Port) : (setPort p r s).mtr = s.mtr := rfl
@[simp] theorem setPort_stl (p : PortNo) (r : Port) : (setPort p r s).stl = s.stl := rfl
@[simp] theorem setPort_wch (p : PortNo) (r : Port) : (setPort p r s).wch = s.wch := rfl
@[simp] theorem setPort_log (p : PortNo) (r : Port) : (setPort p r s).log = s.log := rfl
@[simp] theorem setPort_pending (p : PortNo) (r : Port) : (setPort p r s).pending = s.pending := rfl
@[simp] theorem setPort_ms (p : PortNo) (r : Port) : (setPort p r s).ms = s.ms := rfl
@[simp] theorem setPort_clock_now (p : PortNo) (r : Port) : (setPort p r s).clock = s.clock := rfl
@[simp] theorem setPort_port (p : PortNo) (r : Port) (j : PortNo) :
    (setPort p r s).port j = if p = j then r else s.port j := by
  simp [setPort, State.port]
@[simp] theorem setPort_station_at (p : PortNo) (r : Port) (j : StationNo) :
    (setPort p r s).station j = s.station j := rfl
@[simp] theorem setPort_source_at (p : PortNo) (r : Port) (j : SourceNo) :
    (setPort p r s).source j = s.source j := rfl
@[simp] theorem setPort_supply_at (p : PortNo) (r : Port) (j : SupplyNo) :
    (setPort p r s).supply j = s.supply j := rfl
@[simp] theorem setPort_slot_at (p : PortNo) (r : Port) (j : SupplyNo) : (setPort p r s).slot j = s.slot j := rfl
@[simp] theorem setPort_sync_at (p : PortNo) (r : Port) (j : SyncNo) : (setPort p r s).sync j = s.sync j := rfl
@[simp] theorem setPort_tank_at (p : PortNo) (r : Port) (j : SourceNo) : (setPort p r s).tank j = s.tank j := rfl
@[simp] theorem setPort_delivery_at (p : PortNo) (r : Port) (j : SlotNo) :
    (setPort p r s).delivery j = s.delivery j := rfl
@[simp] theorem setPort_lastEnded_at (p : PortNo) (r : Port) (j : SourceNo) :
    (setPort p r s).lastEnded j = s.lastEnded j := rfl
@[simp] theorem setPort_chan_at (p : PortNo) (r : Port) (j : ChannelNo) : (setPort p r s).chan j = s.chan j := rfl
@[simp] theorem setPort_account_at (p : PortNo) (r : Port) (j : AccountNo) :
    (setPort p r s).account j = s.account j := rfl
@[simp] theorem setPort_watch_at (p : PortNo) (r : Port) (j : WatchNo) : (setPort p r s).watch j = s.watch j := rfl
@[simp] theorem setPort_input_at (p : PortNo) (r : Port) (n : SupplyNo) (x : Input) :
    (setPort p r s).input n x = s.input n x := rfl

/-! ## setStation -/

@[simp] theorem setStation_now (n : StationNo) (r : Option Station) : (setStation n r s).now = s.now := rfl
@[simp] theorem setStation_lnk (n : StationNo) (r : Option Station) : (setStation n r s).lnk = s.lnk := rfl
@[simp] theorem setStation_src (n : StationNo) (r : Option Station) : (setStation n r s).src = s.src := rfl
@[simp] theorem setStation_sup (n : StationNo) (r : Option Station) : (setStation n r s).sup = s.sup := rfl
@[simp] theorem setStation_xfr (n : StationNo) (r : Option Station) : (setStation n r s).xfr = s.xfr := rfl
@[simp] theorem setStation_syn (n : StationNo) (r : Option Station) : (setStation n r s).syn = s.syn := rfl
@[simp] theorem setStation_tnk (n : StationNo) (r : Option Station) : (setStation n r s).tnk = s.tnk := rfl
@[simp] theorem setStation_dlv (n : StationNo) (r : Option Station) : (setStation n r s).dlv = s.dlv := rfl
@[simp] theorem setStation_mtr (n : StationNo) (r : Option Station) : (setStation n r s).mtr = s.mtr := rfl
@[simp] theorem setStation_stl (n : StationNo) (r : Option Station) : (setStation n r s).stl = s.stl := rfl
@[simp] theorem setStation_wch (n : StationNo) (r : Option Station) : (setStation n r s).wch = s.wch := rfl
@[simp] theorem setStation_log (n : StationNo) (r : Option Station) : (setStation n r s).log = s.log := rfl
@[simp] theorem setStation_pending (n : StationNo) (r : Option Station) :
    (setStation n r s).pending = s.pending := rfl
@[simp] theorem setStation_hold (n : StationNo) (r : Option Station) : (setStation n r s).stn.hold = s.stn.hold := rfl
@[simp] theorem setStation_ms (n : StationNo) (r : Option Station) : (setStation n r s).ms = s.ms := rfl
@[simp] theorem setStation_clock_now (n : StationNo) (r : Option Station) : (setStation n r s).clock = s.clock := rfl
@[simp] theorem setStation_port_at (n : StationNo) (r : Option Station) (j : PortNo) :
    (setStation n r s).port j = s.port j := rfl
@[simp] theorem setStation_station (n : StationNo) (r : Option Station) (j : StationNo) :
    (setStation n r s).station j = if n = j then r else s.station j := by
  simp [setStation, State.station]
@[simp] theorem setStation_source_at (n : StationNo) (r : Option Station) (j : SourceNo) :
    (setStation n r s).source j = s.source j := rfl
@[simp] theorem setStation_supply_at (n : StationNo) (r : Option Station) (j : SupplyNo) :
    (setStation n r s).supply j = s.supply j := rfl
@[simp] theorem setStation_slot_at (n : StationNo) (r : Option Station) (j : SupplyNo) :
    (setStation n r s).slot j = s.slot j := rfl
@[simp] theorem setStation_sync_at (n : StationNo) (r : Option Station) (j : SyncNo) :
    (setStation n r s).sync j = s.sync j := rfl
@[simp] theorem setStation_tank_at (n : StationNo) (r : Option Station) (j : SourceNo) :
    (setStation n r s).tank j = s.tank j := rfl
@[simp] theorem setStation_delivery_at (n : StationNo) (r : Option Station) (j : SlotNo) :
    (setStation n r s).delivery j = s.delivery j := rfl
@[simp] theorem setStation_lastEnded_at (n : StationNo) (r : Option Station) (j : SourceNo) :
    (setStation n r s).lastEnded j = s.lastEnded j := rfl
@[simp] theorem setStation_chan_at (n : StationNo) (r : Option Station) (j : ChannelNo) :
    (setStation n r s).chan j = s.chan j := rfl
@[simp] theorem setStation_account_at (n : StationNo) (r : Option Station) (j : AccountNo) :
    (setStation n r s).account j = s.account j := rfl
@[simp] theorem setStation_watch_at (n : StationNo) (r : Option Station) (j : WatchNo) :
    (setStation n r s).watch j = s.watch j := rfl
@[simp] theorem setStation_input_at (m : StationNo) (r : Option Station) (n : SupplyNo) (x : Input) :
    (setStation m r s).input n x = s.input n x := rfl

/-! ## setHold -/

@[simp] theorem setHold_now (h : Option StationNo) : (setHold h s).now = s.now := rfl
@[simp] theorem setHold_lnk (h : Option StationNo) : (setHold h s).lnk = s.lnk := rfl
@[simp] theorem setHold_src (h : Option StationNo) : (setHold h s).src = s.src := rfl
@[simp] theorem setHold_sup (h : Option StationNo) : (setHold h s).sup = s.sup := rfl
@[simp] theorem setHold_xfr (h : Option StationNo) : (setHold h s).xfr = s.xfr := rfl
@[simp] theorem setHold_syn (h : Option StationNo) : (setHold h s).syn = s.syn := rfl
@[simp] theorem setHold_tnk (h : Option StationNo) : (setHold h s).tnk = s.tnk := rfl
@[simp] theorem setHold_dlv (h : Option StationNo) : (setHold h s).dlv = s.dlv := rfl
@[simp] theorem setHold_mtr (h : Option StationNo) : (setHold h s).mtr = s.mtr := rfl
@[simp] theorem setHold_stl (h : Option StationNo) : (setHold h s).stl = s.stl := rfl
@[simp] theorem setHold_wch (h : Option StationNo) : (setHold h s).wch = s.wch := rfl
@[simp] theorem setHold_log (h : Option StationNo) : (setHold h s).log = s.log := rfl
@[simp] theorem setHold_pending (h : Option StationNo) : (setHold h s).pending = s.pending := rfl
@[simp] theorem setHold_stations (h : Option StationNo) : (setHold h s).stn.stations = s.stn.stations := rfl
@[simp] theorem setHold_hold (h : Option StationNo) : (setHold h s).stn.hold = h := rfl
@[simp] theorem setHold_ms (h : Option StationNo) : (setHold h s).ms = s.ms := rfl
@[simp] theorem setHold_clock_now (h : Option StationNo) : (setHold h s).clock = s.clock := rfl
@[simp] theorem setHold_port_at (h : Option StationNo) (j : PortNo) : (setHold h s).port j = s.port j := rfl
@[simp] theorem setHold_station_at (h : Option StationNo) (j : StationNo) :
    (setHold h s).station j = s.station j := rfl
@[simp] theorem setHold_source_at (h : Option StationNo) (j : SourceNo) : (setHold h s).source j = s.source j := rfl
@[simp] theorem setHold_supply_at (h : Option StationNo) (j : SupplyNo) : (setHold h s).supply j = s.supply j := rfl
@[simp] theorem setHold_slot_at (h : Option StationNo) (j : SupplyNo) : (setHold h s).slot j = s.slot j := rfl
@[simp] theorem setHold_sync_at (h : Option StationNo) (j : SyncNo) : (setHold h s).sync j = s.sync j := rfl
@[simp] theorem setHold_tank_at (h : Option StationNo) (j : SourceNo) : (setHold h s).tank j = s.tank j := rfl
@[simp] theorem setHold_delivery_at (h : Option StationNo) (j : SlotNo) :
    (setHold h s).delivery j = s.delivery j := rfl
@[simp] theorem setHold_lastEnded_at (h : Option StationNo) (j : SourceNo) :
    (setHold h s).lastEnded j = s.lastEnded j := rfl
@[simp] theorem setHold_chan_at (h : Option StationNo) (j : ChannelNo) : (setHold h s).chan j = s.chan j := rfl
@[simp] theorem setHold_account_at (h : Option StationNo) (j : AccountNo) :
    (setHold h s).account j = s.account j := rfl
@[simp] theorem setHold_watch_at (h : Option StationNo) (j : WatchNo) : (setHold h s).watch j = s.watch j := rfl
@[simp] theorem setHold_input_at (h : Option StationNo) (n : SupplyNo) (x : Input) :
    (setHold h s).input n x = s.input n x := rfl

/-! ## setSource -/

@[simp] theorem setSource_now (i : SourceNo) (r : Source) : (setSource i r s).now = s.now := rfl
@[simp] theorem setSource_lnk (i : SourceNo) (r : Source) : (setSource i r s).lnk = s.lnk := rfl
@[simp] theorem setSource_stn (i : SourceNo) (r : Source) : (setSource i r s).stn = s.stn := rfl
@[simp] theorem setSource_sup (i : SourceNo) (r : Source) : (setSource i r s).sup = s.sup := rfl
@[simp] theorem setSource_xfr (i : SourceNo) (r : Source) : (setSource i r s).xfr = s.xfr := rfl
@[simp] theorem setSource_syn (i : SourceNo) (r : Source) : (setSource i r s).syn = s.syn := rfl
@[simp] theorem setSource_tnk (i : SourceNo) (r : Source) : (setSource i r s).tnk = s.tnk := rfl
@[simp] theorem setSource_dlv (i : SourceNo) (r : Source) : (setSource i r s).dlv = s.dlv := rfl
@[simp] theorem setSource_mtr (i : SourceNo) (r : Source) : (setSource i r s).mtr = s.mtr := rfl
@[simp] theorem setSource_stl (i : SourceNo) (r : Source) : (setSource i r s).stl = s.stl := rfl
@[simp] theorem setSource_wch (i : SourceNo) (r : Source) : (setSource i r s).wch = s.wch := rfl
@[simp] theorem setSource_log (i : SourceNo) (r : Source) : (setSource i r s).log = s.log := rfl
@[simp] theorem setSource_pending (i : SourceNo) (r : Source) : (setSource i r s).pending = s.pending := rfl
@[simp] theorem setSource_ms (i : SourceNo) (r : Source) : (setSource i r s).ms = s.ms := rfl
@[simp] theorem setSource_clock_now (i : SourceNo) (r : Source) : (setSource i r s).clock = s.clock := rfl
@[simp] theorem setSource_port_at (i : SourceNo) (r : Source) (j : PortNo) :
    (setSource i r s).port j = s.port j := rfl
@[simp] theorem setSource_station_at (i : SourceNo) (r : Source) (j : StationNo) :
    (setSource i r s).station j = s.station j := rfl
@[simp] theorem setSource_source (i : SourceNo) (r : Source) (j : SourceNo) :
    (setSource i r s).source j = if i = j then r else s.source j := by
  simp [setSource, State.source]
@[simp] theorem setSource_supply_at (i : SourceNo) (r : Source) (j : SupplyNo) :
    (setSource i r s).supply j = s.supply j := rfl
@[simp] theorem setSource_slot_at (i : SourceNo) (r : Source) (j : SupplyNo) :
    (setSource i r s).slot j = s.slot j := rfl
@[simp] theorem setSource_sync_at (i : SourceNo) (r : Source) (j : SyncNo) :
    (setSource i r s).sync j = s.sync j := rfl
@[simp] theorem setSource_tank_at (i : SourceNo) (r : Source) (j : SourceNo) :
    (setSource i r s).tank j = s.tank j := rfl
@[simp] theorem setSource_delivery_at (i : SourceNo) (r : Source) (j : SlotNo) :
    (setSource i r s).delivery j = s.delivery j := rfl
@[simp] theorem setSource_lastEnded_at (i : SourceNo) (r : Source) (j : SourceNo) :
    (setSource i r s).lastEnded j = s.lastEnded j := rfl
@[simp] theorem setSource_chan_at (i : SourceNo) (r : Source) (j : ChannelNo) :
    (setSource i r s).chan j = s.chan j := rfl
@[simp] theorem setSource_account_at (i : SourceNo) (r : Source) (j : AccountNo) :
    (setSource i r s).account j = s.account j := rfl
@[simp] theorem setSource_watch_at (i : SourceNo) (r : Source) (j : WatchNo) :
    (setSource i r s).watch j = s.watch j := rfl
@[simp] theorem setSource_input_at (i : SourceNo) (r : Source) (n : SupplyNo) (x : Input) :
    (setSource i r s).input n x = s.input n x := rfl

/-! ## setSupply -/

@[simp] theorem setSupply_now (n : SupplyNo) (r : Supply) : (setSupply n r s).now = s.now := rfl
@[simp] theorem setSupply_lnk (n : SupplyNo) (r : Supply) : (setSupply n r s).lnk = s.lnk := rfl
@[simp] theorem setSupply_stn (n : SupplyNo) (r : Supply) : (setSupply n r s).stn = s.stn := rfl
@[simp] theorem setSupply_src (n : SupplyNo) (r : Supply) : (setSupply n r s).src = s.src := rfl
@[simp] theorem setSupply_xfr (n : SupplyNo) (r : Supply) : (setSupply n r s).xfr = s.xfr := rfl
@[simp] theorem setSupply_syn (n : SupplyNo) (r : Supply) : (setSupply n r s).syn = s.syn := rfl
@[simp] theorem setSupply_tnk (n : SupplyNo) (r : Supply) : (setSupply n r s).tnk = s.tnk := rfl
@[simp] theorem setSupply_dlv (n : SupplyNo) (r : Supply) : (setSupply n r s).dlv = s.dlv := rfl
@[simp] theorem setSupply_mtr (n : SupplyNo) (r : Supply) : (setSupply n r s).mtr = s.mtr := rfl
@[simp] theorem setSupply_stl (n : SupplyNo) (r : Supply) : (setSupply n r s).stl = s.stl := rfl
@[simp] theorem setSupply_wch (n : SupplyNo) (r : Supply) : (setSupply n r s).wch = s.wch := rfl
@[simp] theorem setSupply_log (n : SupplyNo) (r : Supply) : (setSupply n r s).log = s.log := rfl
@[simp] theorem setSupply_pending (n : SupplyNo) (r : Supply) : (setSupply n r s).pending = s.pending := rfl
@[simp] theorem setSupply_ms (n : SupplyNo) (r : Supply) : (setSupply n r s).ms = s.ms := rfl
@[simp] theorem setSupply_clock_now (n : SupplyNo) (r : Supply) : (setSupply n r s).clock = s.clock := rfl
@[simp] theorem setSupply_port_at (n : SupplyNo) (r : Supply) (j : PortNo) :
    (setSupply n r s).port j = s.port j := rfl
@[simp] theorem setSupply_station_at (n : SupplyNo) (r : Supply) (j : StationNo) :
    (setSupply n r s).station j = s.station j := rfl
@[simp] theorem setSupply_source_at (n : SupplyNo) (r : Supply) (j : SourceNo) :
    (setSupply n r s).source j = s.source j := rfl
@[simp] theorem setSupply_supply (n : SupplyNo) (r : Supply) (j : SupplyNo) :
    (setSupply n r s).supply j = if n = j then r else s.supply j := by
  simp [setSupply, State.supply]
@[simp] theorem setSupply_slot_at (n : SupplyNo) (r : Supply) (j : SupplyNo) :
    (setSupply n r s).slot j = s.slot j := rfl
@[simp] theorem setSupply_sync_at (n : SupplyNo) (r : Supply) (j : SyncNo) :
    (setSupply n r s).sync j = s.sync j := rfl
@[simp] theorem setSupply_tank_at (n : SupplyNo) (r : Supply) (j : SourceNo) :
    (setSupply n r s).tank j = s.tank j := rfl
@[simp] theorem setSupply_delivery_at (n : SupplyNo) (r : Supply) (j : SlotNo) :
    (setSupply n r s).delivery j = s.delivery j := rfl
@[simp] theorem setSupply_lastEnded_at (n : SupplyNo) (r : Supply) (j : SourceNo) :
    (setSupply n r s).lastEnded j = s.lastEnded j := rfl
@[simp] theorem setSupply_chan_at (n : SupplyNo) (r : Supply) (j : ChannelNo) :
    (setSupply n r s).chan j = s.chan j := rfl
@[simp] theorem setSupply_account_at (n : SupplyNo) (r : Supply) (j : AccountNo) :
    (setSupply n r s).account j = s.account j := rfl
@[simp] theorem setSupply_watch_at (n : SupplyNo) (r : Supply) (j : WatchNo) :
    (setSupply n r s).watch j = s.watch j := rfl

/-! ## setSlot -/

@[simp] theorem setSlot_now (n : SupplyNo) (r : Option Transfer) : (setSlot n r s).now = s.now := rfl
@[simp] theorem setSlot_lnk (n : SupplyNo) (r : Option Transfer) : (setSlot n r s).lnk = s.lnk := rfl
@[simp] theorem setSlot_stn (n : SupplyNo) (r : Option Transfer) : (setSlot n r s).stn = s.stn := rfl
@[simp] theorem setSlot_src (n : SupplyNo) (r : Option Transfer) : (setSlot n r s).src = s.src := rfl
@[simp] theorem setSlot_sup (n : SupplyNo) (r : Option Transfer) : (setSlot n r s).sup = s.sup := rfl
@[simp] theorem setSlot_syn (n : SupplyNo) (r : Option Transfer) : (setSlot n r s).syn = s.syn := rfl
@[simp] theorem setSlot_tnk (n : SupplyNo) (r : Option Transfer) : (setSlot n r s).tnk = s.tnk := rfl
@[simp] theorem setSlot_dlv (n : SupplyNo) (r : Option Transfer) : (setSlot n r s).dlv = s.dlv := rfl
@[simp] theorem setSlot_mtr (n : SupplyNo) (r : Option Transfer) : (setSlot n r s).mtr = s.mtr := rfl
@[simp] theorem setSlot_stl (n : SupplyNo) (r : Option Transfer) : (setSlot n r s).stl = s.stl := rfl
@[simp] theorem setSlot_wch (n : SupplyNo) (r : Option Transfer) : (setSlot n r s).wch = s.wch := rfl
@[simp] theorem setSlot_log (n : SupplyNo) (r : Option Transfer) : (setSlot n r s).log = s.log := rfl
@[simp] theorem setSlot_pending (n : SupplyNo) (r : Option Transfer) : (setSlot n r s).pending = s.pending := rfl
@[simp] theorem setSlot_counter (n : SupplyNo) (r : Option Transfer) :
    (setSlot n r s).xfr.counter = s.xfr.counter := rfl
@[simp] theorem setSlot_ms (n : SupplyNo) (r : Option Transfer) : (setSlot n r s).ms = s.ms := rfl
@[simp] theorem setSlot_clock_now (n : SupplyNo) (r : Option Transfer) : (setSlot n r s).clock = s.clock := rfl
@[simp] theorem setSlot_port_at (n : SupplyNo) (r : Option Transfer) (j : PortNo) :
    (setSlot n r s).port j = s.port j := rfl
@[simp] theorem setSlot_station_at (n : SupplyNo) (r : Option Transfer) (j : StationNo) :
    (setSlot n r s).station j = s.station j := rfl
@[simp] theorem setSlot_source_at (n : SupplyNo) (r : Option Transfer) (j : SourceNo) :
    (setSlot n r s).source j = s.source j := rfl
@[simp] theorem setSlot_supply_at (n : SupplyNo) (r : Option Transfer) (j : SupplyNo) :
    (setSlot n r s).supply j = s.supply j := rfl
@[simp] theorem setSlot_slot (n : SupplyNo) (r : Option Transfer) (j : SupplyNo) :
    (setSlot n r s).slot j = if n = j then r else s.slot j := by
  simp [setSlot, State.slot]
@[simp] theorem setSlot_sync_at (n : SupplyNo) (r : Option Transfer) (j : SyncNo) :
    (setSlot n r s).sync j = s.sync j := rfl
@[simp] theorem setSlot_tank_at (n : SupplyNo) (r : Option Transfer) (j : SourceNo) :
    (setSlot n r s).tank j = s.tank j := rfl
@[simp] theorem setSlot_delivery_at (n : SupplyNo) (r : Option Transfer) (j : SlotNo) :
    (setSlot n r s).delivery j = s.delivery j := rfl
@[simp] theorem setSlot_lastEnded_at (n : SupplyNo) (r : Option Transfer) (j : SourceNo) :
    (setSlot n r s).lastEnded j = s.lastEnded j := rfl
@[simp] theorem setSlot_chan_at (n : SupplyNo) (r : Option Transfer) (j : ChannelNo) :
    (setSlot n r s).chan j = s.chan j := rfl
@[simp] theorem setSlot_account_at (n : SupplyNo) (r : Option Transfer) (j : AccountNo) :
    (setSlot n r s).account j = s.account j := rfl
@[simp] theorem setSlot_watch_at (n : SupplyNo) (r : Option Transfer) (j : WatchNo) :
    (setSlot n r s).watch j = s.watch j := rfl
@[simp] theorem setSlot_input_at (m : SupplyNo) (r : Option Transfer) (n : SupplyNo) (x : Input) :
    (setSlot m r s).input n x = s.input n x := rfl

/-! ## setCounter -/

@[simp] theorem setCounter_now (k : Nat) : (setCounter k s).now = s.now := rfl
@[simp] theorem setCounter_lnk (k : Nat) : (setCounter k s).lnk = s.lnk := rfl
@[simp] theorem setCounter_stn (k : Nat) : (setCounter k s).stn = s.stn := rfl
@[simp] theorem setCounter_src (k : Nat) : (setCounter k s).src = s.src := rfl
@[simp] theorem setCounter_sup (k : Nat) : (setCounter k s).sup = s.sup := rfl
@[simp] theorem setCounter_syn (k : Nat) : (setCounter k s).syn = s.syn := rfl
@[simp] theorem setCounter_tnk (k : Nat) : (setCounter k s).tnk = s.tnk := rfl
@[simp] theorem setCounter_dlv (k : Nat) : (setCounter k s).dlv = s.dlv := rfl
@[simp] theorem setCounter_mtr (k : Nat) : (setCounter k s).mtr = s.mtr := rfl
@[simp] theorem setCounter_stl (k : Nat) : (setCounter k s).stl = s.stl := rfl
@[simp] theorem setCounter_wch (k : Nat) : (setCounter k s).wch = s.wch := rfl
@[simp] theorem setCounter_log (k : Nat) : (setCounter k s).log = s.log := rfl
@[simp] theorem setCounter_pending (k : Nat) : (setCounter k s).pending = s.pending := rfl
@[simp] theorem setCounter_slots (k : Nat) : (setCounter k s).xfr.slots = s.xfr.slots := rfl
@[simp] theorem setCounter_counter (k : Nat) : (setCounter k s).xfr.counter = k := rfl
@[simp] theorem setCounter_ms (k : Nat) : (setCounter k s).ms = s.ms := rfl
@[simp] theorem setCounter_clock_now (k : Nat) : (setCounter k s).clock = s.clock := rfl
@[simp] theorem setCounter_port_at (k : Nat) (j : PortNo) : (setCounter k s).port j = s.port j := rfl
@[simp] theorem setCounter_station_at (k : Nat) (j : StationNo) : (setCounter k s).station j = s.station j := rfl
@[simp] theorem setCounter_source_at (k : Nat) (j : SourceNo) : (setCounter k s).source j = s.source j := rfl
@[simp] theorem setCounter_supply_at (k : Nat) (j : SupplyNo) : (setCounter k s).supply j = s.supply j := rfl
@[simp] theorem setCounter_slot_at (k : Nat) (j : SupplyNo) : (setCounter k s).slot j = s.slot j := rfl
@[simp] theorem setCounter_sync_at (k : Nat) (j : SyncNo) : (setCounter k s).sync j = s.sync j := rfl
@[simp] theorem setCounter_tank_at (k : Nat) (j : SourceNo) : (setCounter k s).tank j = s.tank j := rfl
@[simp] theorem setCounter_delivery_at (k : Nat) (j : SlotNo) : (setCounter k s).delivery j = s.delivery j := rfl
@[simp] theorem setCounter_lastEnded_at (k : Nat) (j : SourceNo) : (setCounter k s).lastEnded j = s.lastEnded j := rfl
@[simp] theorem setCounter_chan_at (k : Nat) (j : ChannelNo) : (setCounter k s).chan j = s.chan j := rfl
@[simp] theorem setCounter_account_at (k : Nat) (j : AccountNo) : (setCounter k s).account j = s.account j := rfl
@[simp] theorem setCounter_watch_at (k : Nat) (j : WatchNo) : (setCounter k s).watch j = s.watch j := rfl
@[simp] theorem setCounter_input_at (k : Nat) (n : SupplyNo) (x : Input) :
    (setCounter k s).input n x = s.input n x := rfl

/-! ## setSync -/

@[simp] theorem setSync_now (c : SyncNo) (r : SyncChan) : (setSync c r s).now = s.now := rfl
@[simp] theorem setSync_lnk (c : SyncNo) (r : SyncChan) : (setSync c r s).lnk = s.lnk := rfl
@[simp] theorem setSync_stn (c : SyncNo) (r : SyncChan) : (setSync c r s).stn = s.stn := rfl
@[simp] theorem setSync_src (c : SyncNo) (r : SyncChan) : (setSync c r s).src = s.src := rfl
@[simp] theorem setSync_sup (c : SyncNo) (r : SyncChan) : (setSync c r s).sup = s.sup := rfl
@[simp] theorem setSync_xfr (c : SyncNo) (r : SyncChan) : (setSync c r s).xfr = s.xfr := rfl
@[simp] theorem setSync_tnk (c : SyncNo) (r : SyncChan) : (setSync c r s).tnk = s.tnk := rfl
@[simp] theorem setSync_dlv (c : SyncNo) (r : SyncChan) : (setSync c r s).dlv = s.dlv := rfl
@[simp] theorem setSync_mtr (c : SyncNo) (r : SyncChan) : (setSync c r s).mtr = s.mtr := rfl
@[simp] theorem setSync_stl (c : SyncNo) (r : SyncChan) : (setSync c r s).stl = s.stl := rfl
@[simp] theorem setSync_wch (c : SyncNo) (r : SyncChan) : (setSync c r s).wch = s.wch := rfl
@[simp] theorem setSync_log (c : SyncNo) (r : SyncChan) : (setSync c r s).log = s.log := rfl
@[simp] theorem setSync_pending (c : SyncNo) (r : SyncChan) : (setSync c r s).pending = s.pending := rfl
@[simp] theorem setSync_queue (c : SyncNo) (r : SyncChan) : (setSync c r s).syn.queue = s.syn.queue := rfl
@[simp] theorem setSync_limits (c : SyncNo) (r : SyncChan) : (setSync c r s).syn.limits = s.syn.limits := rfl
@[simp] theorem setSync_ms (c : SyncNo) (r : SyncChan) : (setSync c r s).ms = s.ms := rfl
@[simp] theorem setSync_clock_now (c : SyncNo) (r : SyncChan) : (setSync c r s).clock = s.clock := rfl
@[simp] theorem setSync_port_at (c : SyncNo) (r : SyncChan) (j : PortNo) : (setSync c r s).port j = s.port j := rfl
@[simp] theorem setSync_station_at (c : SyncNo) (r : SyncChan) (j : StationNo) :
    (setSync c r s).station j = s.station j := rfl
@[simp] theorem setSync_source_at (c : SyncNo) (r : SyncChan) (j : SourceNo) :
    (setSync c r s).source j = s.source j := rfl
@[simp] theorem setSync_supply_at (c : SyncNo) (r : SyncChan) (j : SupplyNo) :
    (setSync c r s).supply j = s.supply j := rfl
@[simp] theorem setSync_slot_at (c : SyncNo) (r : SyncChan) (j : SupplyNo) : (setSync c r s).slot j = s.slot j := rfl
@[simp] theorem setSync_sync (c : SyncNo) (r : SyncChan) (j : SyncNo) :
    (setSync c r s).sync j = if c = j then r else s.sync j := by
  simp [setSync, State.sync]
@[simp] theorem setSync_tank_at (c : SyncNo) (r : SyncChan) (j : SourceNo) : (setSync c r s).tank j = s.tank j := rfl
@[simp] theorem setSync_delivery_at (c : SyncNo) (r : SyncChan) (j : SlotNo) :
    (setSync c r s).delivery j = s.delivery j := rfl
@[simp] theorem setSync_lastEnded_at (c : SyncNo) (r : SyncChan) (j : SourceNo) :
    (setSync c r s).lastEnded j = s.lastEnded j := rfl
@[simp] theorem setSync_chan_at (c : SyncNo) (r : SyncChan) (j : ChannelNo) : (setSync c r s).chan j = s.chan j := rfl
@[simp] theorem setSync_account_at (c : SyncNo) (r : SyncChan) (j : AccountNo) :
    (setSync c r s).account j = s.account j := rfl
@[simp] theorem setSync_watch_at (c : SyncNo) (r : SyncChan) (j : WatchNo) :
    (setSync c r s).watch j = s.watch j := rfl
@[simp] theorem setSync_input_at (c : SyncNo) (r : SyncChan) (n : SupplyNo) (x : Input) :
    (setSync c r s).input n x = s.input n x := rfl

/-! ## setQueue -/

@[simp] theorem setQueue_now (q : List QueueEntry) : (setQueue q s).now = s.now := rfl
@[simp] theorem setQueue_lnk (q : List QueueEntry) : (setQueue q s).lnk = s.lnk := rfl
@[simp] theorem setQueue_stn (q : List QueueEntry) : (setQueue q s).stn = s.stn := rfl
@[simp] theorem setQueue_src (q : List QueueEntry) : (setQueue q s).src = s.src := rfl
@[simp] theorem setQueue_sup (q : List QueueEntry) : (setQueue q s).sup = s.sup := rfl
@[simp] theorem setQueue_xfr (q : List QueueEntry) : (setQueue q s).xfr = s.xfr := rfl
@[simp] theorem setQueue_tnk (q : List QueueEntry) : (setQueue q s).tnk = s.tnk := rfl
@[simp] theorem setQueue_dlv (q : List QueueEntry) : (setQueue q s).dlv = s.dlv := rfl
@[simp] theorem setQueue_mtr (q : List QueueEntry) : (setQueue q s).mtr = s.mtr := rfl
@[simp] theorem setQueue_stl (q : List QueueEntry) : (setQueue q s).stl = s.stl := rfl
@[simp] theorem setQueue_wch (q : List QueueEntry) : (setQueue q s).wch = s.wch := rfl
@[simp] theorem setQueue_log (q : List QueueEntry) : (setQueue q s).log = s.log := rfl
@[simp] theorem setQueue_pending (q : List QueueEntry) : (setQueue q s).pending = s.pending := rfl
@[simp] theorem setQueue_channels (q : List QueueEntry) : (setQueue q s).syn.channels = s.syn.channels := rfl
@[simp] theorem setQueue_limits (q : List QueueEntry) : (setQueue q s).syn.limits = s.syn.limits := rfl
@[simp] theorem setQueue_queue (q : List QueueEntry) : (setQueue q s).syn.queue = q := rfl
@[simp] theorem setQueue_ms (q : List QueueEntry) : (setQueue q s).ms = s.ms := rfl
@[simp] theorem setQueue_clock_now (q : List QueueEntry) : (setQueue q s).clock = s.clock := rfl
@[simp] theorem setQueue_port_at (q : List QueueEntry) (j : PortNo) : (setQueue q s).port j = s.port j := rfl
@[simp] theorem setQueue_station_at (q : List QueueEntry) (j : StationNo) :
    (setQueue q s).station j = s.station j := rfl
@[simp] theorem setQueue_source_at (q : List QueueEntry) (j : SourceNo) : (setQueue q s).source j = s.source j := rfl
@[simp] theorem setQueue_supply_at (q : List QueueEntry) (j : SupplyNo) : (setQueue q s).supply j = s.supply j := rfl
@[simp] theorem setQueue_slot_at (q : List QueueEntry) (j : SupplyNo) : (setQueue q s).slot j = s.slot j := rfl
@[simp] theorem setQueue_sync_at (q : List QueueEntry) (j : SyncNo) : (setQueue q s).sync j = s.sync j := rfl
@[simp] theorem setQueue_tank_at (q : List QueueEntry) (j : SourceNo) : (setQueue q s).tank j = s.tank j := rfl
@[simp] theorem setQueue_delivery_at (q : List QueueEntry) (j : SlotNo) :
    (setQueue q s).delivery j = s.delivery j := rfl
@[simp] theorem setQueue_lastEnded_at (q : List QueueEntry) (j : SourceNo) :
    (setQueue q s).lastEnded j = s.lastEnded j := rfl
@[simp] theorem setQueue_chan_at (q : List QueueEntry) (j : ChannelNo) : (setQueue q s).chan j = s.chan j := rfl
@[simp] theorem setQueue_account_at (q : List QueueEntry) (j : AccountNo) :
    (setQueue q s).account j = s.account j := rfl
@[simp] theorem setQueue_watch_at (q : List QueueEntry) (j : WatchNo) : (setQueue q s).watch j = s.watch j := rfl
@[simp] theorem setQueue_input_at (q : List QueueEntry) (n : SupplyNo) (x : Input) :
    (setQueue q s).input n x = s.input n x := rfl

/-! ## setLimits -/

@[simp] theorem setLimits_now (l : SyncLimits) : (setLimits l s).now = s.now := rfl
@[simp] theorem setLimits_lnk (l : SyncLimits) : (setLimits l s).lnk = s.lnk := rfl
@[simp] theorem setLimits_stn (l : SyncLimits) : (setLimits l s).stn = s.stn := rfl
@[simp] theorem setLimits_src (l : SyncLimits) : (setLimits l s).src = s.src := rfl
@[simp] theorem setLimits_sup (l : SyncLimits) : (setLimits l s).sup = s.sup := rfl
@[simp] theorem setLimits_xfr (l : SyncLimits) : (setLimits l s).xfr = s.xfr := rfl
@[simp] theorem setLimits_tnk (l : SyncLimits) : (setLimits l s).tnk = s.tnk := rfl
@[simp] theorem setLimits_dlv (l : SyncLimits) : (setLimits l s).dlv = s.dlv := rfl
@[simp] theorem setLimits_mtr (l : SyncLimits) : (setLimits l s).mtr = s.mtr := rfl
@[simp] theorem setLimits_stl (l : SyncLimits) : (setLimits l s).stl = s.stl := rfl
@[simp] theorem setLimits_wch (l : SyncLimits) : (setLimits l s).wch = s.wch := rfl
@[simp] theorem setLimits_log (l : SyncLimits) : (setLimits l s).log = s.log := rfl
@[simp] theorem setLimits_pending (l : SyncLimits) : (setLimits l s).pending = s.pending := rfl
@[simp] theorem setLimits_channels (l : SyncLimits) : (setLimits l s).syn.channels = s.syn.channels := rfl
@[simp] theorem setLimits_queue (l : SyncLimits) : (setLimits l s).syn.queue = s.syn.queue := rfl
@[simp] theorem setLimits_limits (l : SyncLimits) : (setLimits l s).syn.limits = l := rfl
@[simp] theorem setLimits_ms (l : SyncLimits) : (setLimits l s).ms = s.ms := rfl
@[simp] theorem setLimits_clock_now (l : SyncLimits) : (setLimits l s).clock = s.clock := rfl
@[simp] theorem setLimits_port_at (l : SyncLimits) (j : PortNo) : (setLimits l s).port j = s.port j := rfl
@[simp] theorem setLimits_station_at (l : SyncLimits) (j : StationNo) : (setLimits l s).station j = s.station j := rfl
@[simp] theorem setLimits_source_at (l : SyncLimits) (j : SourceNo) : (setLimits l s).source j = s.source j := rfl
@[simp] theorem setLimits_supply_at (l : SyncLimits) (j : SupplyNo) : (setLimits l s).supply j = s.supply j := rfl
@[simp] theorem setLimits_slot_at (l : SyncLimits) (j : SupplyNo) : (setLimits l s).slot j = s.slot j := rfl
@[simp] theorem setLimits_sync_at (l : SyncLimits) (j : SyncNo) : (setLimits l s).sync j = s.sync j := rfl
@[simp] theorem setLimits_tank_at (l : SyncLimits) (j : SourceNo) : (setLimits l s).tank j = s.tank j := rfl
@[simp] theorem setLimits_delivery_at (l : SyncLimits) (j : SlotNo) : (setLimits l s).delivery j = s.delivery j := rfl
@[simp] theorem setLimits_lastEnded_at (l : SyncLimits) (j : SourceNo) :
    (setLimits l s).lastEnded j = s.lastEnded j := rfl
@[simp] theorem setLimits_chan_at (l : SyncLimits) (j : ChannelNo) : (setLimits l s).chan j = s.chan j := rfl
@[simp] theorem setLimits_account_at (l : SyncLimits) (j : AccountNo) : (setLimits l s).account j = s.account j := rfl
@[simp] theorem setLimits_watch_at (l : SyncLimits) (j : WatchNo) : (setLimits l s).watch j = s.watch j := rfl
@[simp] theorem setLimits_input_at (l : SyncLimits) (n : SupplyNo) (x : Input) :
    (setLimits l s).input n x = s.input n x := rfl

/-! ## setTankRec -/

@[simp] theorem setTankRec_now (i : SourceNo) (r : Tank) : (setTankRec i r s).now = s.now := rfl
@[simp] theorem setTankRec_lnk (i : SourceNo) (r : Tank) : (setTankRec i r s).lnk = s.lnk := rfl
@[simp] theorem setTankRec_stn (i : SourceNo) (r : Tank) : (setTankRec i r s).stn = s.stn := rfl
@[simp] theorem setTankRec_src (i : SourceNo) (r : Tank) : (setTankRec i r s).src = s.src := rfl
@[simp] theorem setTankRec_sup (i : SourceNo) (r : Tank) : (setTankRec i r s).sup = s.sup := rfl
@[simp] theorem setTankRec_xfr (i : SourceNo) (r : Tank) : (setTankRec i r s).xfr = s.xfr := rfl
@[simp] theorem setTankRec_syn (i : SourceNo) (r : Tank) : (setTankRec i r s).syn = s.syn := rfl
@[simp] theorem setTankRec_dlv (i : SourceNo) (r : Tank) : (setTankRec i r s).dlv = s.dlv := rfl
@[simp] theorem setTankRec_mtr (i : SourceNo) (r : Tank) : (setTankRec i r s).mtr = s.mtr := rfl
@[simp] theorem setTankRec_stl (i : SourceNo) (r : Tank) : (setTankRec i r s).stl = s.stl := rfl
@[simp] theorem setTankRec_wch (i : SourceNo) (r : Tank) : (setTankRec i r s).wch = s.wch := rfl
@[simp] theorem setTankRec_log (i : SourceNo) (r : Tank) : (setTankRec i r s).log = s.log := rfl
@[simp] theorem setTankRec_pending (i : SourceNo) (r : Tank) : (setTankRec i r s).pending = s.pending := rfl
@[simp] theorem setTankRec_price (i : SourceNo) (r : Tank) : (setTankRec i r s).tnk.price = s.tnk.price := rfl
@[simp] theorem setTankRec_ms (i : SourceNo) (r : Tank) : (setTankRec i r s).ms = s.ms := rfl
@[simp] theorem setTankRec_clock_now (i : SourceNo) (r : Tank) : (setTankRec i r s).clock = s.clock := rfl
@[simp] theorem setTankRec_port_at (i : SourceNo) (r : Tank) (j : PortNo) :
    (setTankRec i r s).port j = s.port j := rfl
@[simp] theorem setTankRec_station_at (i : SourceNo) (r : Tank) (j : StationNo) :
    (setTankRec i r s).station j = s.station j := rfl
@[simp] theorem setTankRec_source_at (i : SourceNo) (r : Tank) (j : SourceNo) :
    (setTankRec i r s).source j = s.source j := rfl
@[simp] theorem setTankRec_supply_at (i : SourceNo) (r : Tank) (j : SupplyNo) :
    (setTankRec i r s).supply j = s.supply j := rfl
@[simp] theorem setTankRec_slot_at (i : SourceNo) (r : Tank) (j : SupplyNo) :
    (setTankRec i r s).slot j = s.slot j := rfl
@[simp] theorem setTankRec_sync_at (i : SourceNo) (r : Tank) (j : SyncNo) :
    (setTankRec i r s).sync j = s.sync j := rfl
@[simp] theorem setTankRec_tank (i : SourceNo) (r : Tank) (j : SourceNo) :
    (setTankRec i r s).tank j = if i = j then r else s.tank j := by
  simp [setTankRec, State.tank]
@[simp] theorem setTankRec_delivery_at (i : SourceNo) (r : Tank) (j : SlotNo) :
    (setTankRec i r s).delivery j = s.delivery j := rfl
@[simp] theorem setTankRec_lastEnded_at (i : SourceNo) (r : Tank) (j : SourceNo) :
    (setTankRec i r s).lastEnded j = s.lastEnded j := rfl
@[simp] theorem setTankRec_chan_at (i : SourceNo) (r : Tank) (j : ChannelNo) :
    (setTankRec i r s).chan j = s.chan j := rfl
@[simp] theorem setTankRec_account_at (i : SourceNo) (r : Tank) (j : AccountNo) :
    (setTankRec i r s).account j = s.account j := rfl
@[simp] theorem setTankRec_watch_at (i : SourceNo) (r : Tank) (j : WatchNo) :
    (setTankRec i r s).watch j = s.watch j := rfl
@[simp] theorem setTankRec_input_at (i : SourceNo) (r : Tank) (n : SupplyNo) (x : Input) :
    (setTankRec i r s).input n x = s.input n x := rfl

/-! ## setPrice -/

@[simp] theorem setPrice_now (k : Nat) : (setPrice k s).now = s.now := rfl
@[simp] theorem setPrice_lnk (k : Nat) : (setPrice k s).lnk = s.lnk := rfl
@[simp] theorem setPrice_stn (k : Nat) : (setPrice k s).stn = s.stn := rfl
@[simp] theorem setPrice_src (k : Nat) : (setPrice k s).src = s.src := rfl
@[simp] theorem setPrice_sup (k : Nat) : (setPrice k s).sup = s.sup := rfl
@[simp] theorem setPrice_xfr (k : Nat) : (setPrice k s).xfr = s.xfr := rfl
@[simp] theorem setPrice_syn (k : Nat) : (setPrice k s).syn = s.syn := rfl
@[simp] theorem setPrice_dlv (k : Nat) : (setPrice k s).dlv = s.dlv := rfl
@[simp] theorem setPrice_mtr (k : Nat) : (setPrice k s).mtr = s.mtr := rfl
@[simp] theorem setPrice_stl (k : Nat) : (setPrice k s).stl = s.stl := rfl
@[simp] theorem setPrice_wch (k : Nat) : (setPrice k s).wch = s.wch := rfl
@[simp] theorem setPrice_log (k : Nat) : (setPrice k s).log = s.log := rfl
@[simp] theorem setPrice_pending (k : Nat) : (setPrice k s).pending = s.pending := rfl
@[simp] theorem setPrice_tanks (k : Nat) : (setPrice k s).tnk.tanks = s.tnk.tanks := rfl
@[simp] theorem setPrice_price (k : Nat) : (setPrice k s).tnk.price = k := rfl
@[simp] theorem setPrice_ms (k : Nat) : (setPrice k s).ms = s.ms := rfl
@[simp] theorem setPrice_clock_now (k : Nat) : (setPrice k s).clock = s.clock := rfl
@[simp] theorem setPrice_port_at (k : Nat) (j : PortNo) : (setPrice k s).port j = s.port j := rfl
@[simp] theorem setPrice_station_at (k : Nat) (j : StationNo) : (setPrice k s).station j = s.station j := rfl
@[simp] theorem setPrice_source_at (k : Nat) (j : SourceNo) : (setPrice k s).source j = s.source j := rfl
@[simp] theorem setPrice_supply_at (k : Nat) (j : SupplyNo) : (setPrice k s).supply j = s.supply j := rfl
@[simp] theorem setPrice_slot_at (k : Nat) (j : SupplyNo) : (setPrice k s).slot j = s.slot j := rfl
@[simp] theorem setPrice_sync_at (k : Nat) (j : SyncNo) : (setPrice k s).sync j = s.sync j := rfl
@[simp] theorem setPrice_tank_at (k : Nat) (j : SourceNo) : (setPrice k s).tank j = s.tank j := rfl
@[simp] theorem setPrice_delivery_at (k : Nat) (j : SlotNo) : (setPrice k s).delivery j = s.delivery j := rfl
@[simp] theorem setPrice_lastEnded_at (k : Nat) (j : SourceNo) : (setPrice k s).lastEnded j = s.lastEnded j := rfl
@[simp] theorem setPrice_chan_at (k : Nat) (j : ChannelNo) : (setPrice k s).chan j = s.chan j := rfl
@[simp] theorem setPrice_account_at (k : Nat) (j : AccountNo) : (setPrice k s).account j = s.account j := rfl
@[simp] theorem setPrice_watch_at (k : Nat) (j : WatchNo) : (setPrice k s).watch j = s.watch j := rfl
@[simp] theorem setPrice_input_at (k : Nat) (n : SupplyNo) (x : Input) : (setPrice k s).input n x = s.input n x := rfl

/-! ## setDelivery -/

@[simp] theorem setDelivery_now (d : SlotNo) (r : Option Delivery) : (setDelivery d r s).now = s.now := rfl
@[simp] theorem setDelivery_lnk (d : SlotNo) (r : Option Delivery) : (setDelivery d r s).lnk = s.lnk := rfl
@[simp] theorem setDelivery_stn (d : SlotNo) (r : Option Delivery) : (setDelivery d r s).stn = s.stn := rfl
@[simp] theorem setDelivery_src (d : SlotNo) (r : Option Delivery) : (setDelivery d r s).src = s.src := rfl
@[simp] theorem setDelivery_sup (d : SlotNo) (r : Option Delivery) : (setDelivery d r s).sup = s.sup := rfl
@[simp] theorem setDelivery_xfr (d : SlotNo) (r : Option Delivery) : (setDelivery d r s).xfr = s.xfr := rfl
@[simp] theorem setDelivery_syn (d : SlotNo) (r : Option Delivery) : (setDelivery d r s).syn = s.syn := rfl
@[simp] theorem setDelivery_tnk (d : SlotNo) (r : Option Delivery) : (setDelivery d r s).tnk = s.tnk := rfl
@[simp] theorem setDelivery_mtr (d : SlotNo) (r : Option Delivery) : (setDelivery d r s).mtr = s.mtr := rfl
@[simp] theorem setDelivery_stl (d : SlotNo) (r : Option Delivery) : (setDelivery d r s).stl = s.stl := rfl
@[simp] theorem setDelivery_wch (d : SlotNo) (r : Option Delivery) : (setDelivery d r s).wch = s.wch := rfl
@[simp] theorem setDelivery_log (d : SlotNo) (r : Option Delivery) : (setDelivery d r s).log = s.log := rfl
@[simp] theorem setDelivery_pending (d : SlotNo) (r : Option Delivery) :
    (setDelivery d r s).pending = s.pending := rfl
@[simp] theorem setDelivery_lastEnded (d : SlotNo) (r : Option Delivery) :
    (setDelivery d r s).dlv.lastEnded = s.dlv.lastEnded := rfl
@[simp] theorem setDelivery_returns (d : SlotNo) (r : Option Delivery) :
    (setDelivery d r s).dlv.returns = s.dlv.returns := rfl
@[simp] theorem setDelivery_fill (d : SlotNo) (r : Option Delivery) : (setDelivery d r s).dlv.fill = s.dlv.fill := rfl
@[simp] theorem setDelivery_fillUnread (d : SlotNo) (r : Option Delivery) :
    (setDelivery d r s).dlv.fillUnread = s.dlv.fillUnread := rfl
@[simp] theorem setDelivery_ms (d : SlotNo) (r : Option Delivery) : (setDelivery d r s).ms = s.ms := rfl
@[simp] theorem setDelivery_clock_now (d : SlotNo) (r : Option Delivery) : (setDelivery d r s).clock = s.clock := rfl
@[simp] theorem setDelivery_port_at (d : SlotNo) (r : Option Delivery) (j : PortNo) :
    (setDelivery d r s).port j = s.port j := rfl
@[simp] theorem setDelivery_station_at (d : SlotNo) (r : Option Delivery) (j : StationNo) :
    (setDelivery d r s).station j = s.station j := rfl
@[simp] theorem setDelivery_source_at (d : SlotNo) (r : Option Delivery) (j : SourceNo) :
    (setDelivery d r s).source j = s.source j := rfl
@[simp] theorem setDelivery_supply_at (d : SlotNo) (r : Option Delivery) (j : SupplyNo) :
    (setDelivery d r s).supply j = s.supply j := rfl
@[simp] theorem setDelivery_slot_at (d : SlotNo) (r : Option Delivery) (j : SupplyNo) :
    (setDelivery d r s).slot j = s.slot j := rfl
@[simp] theorem setDelivery_sync_at (d : SlotNo) (r : Option Delivery) (j : SyncNo) :
    (setDelivery d r s).sync j = s.sync j := rfl
@[simp] theorem setDelivery_tank_at (d : SlotNo) (r : Option Delivery) (j : SourceNo) :
    (setDelivery d r s).tank j = s.tank j := rfl
@[simp] theorem setDelivery_delivery (d : SlotNo) (r : Option Delivery) (j : SlotNo) :
    (setDelivery d r s).delivery j = if d = j then r else s.delivery j := by
  simp [setDelivery, State.delivery]
@[simp] theorem setDelivery_lastEnded_at (d : SlotNo) (r : Option Delivery) (j : SourceNo) :
    (setDelivery d r s).lastEnded j = s.lastEnded j := rfl
@[simp] theorem setDelivery_chan_at (d : SlotNo) (r : Option Delivery) (j : ChannelNo) :
    (setDelivery d r s).chan j = s.chan j := rfl
@[simp] theorem setDelivery_account_at (d : SlotNo) (r : Option Delivery) (j : AccountNo) :
    (setDelivery d r s).account j = s.account j := rfl
@[simp] theorem setDelivery_watch_at (d : SlotNo) (r : Option Delivery) (j : WatchNo) :
    (setDelivery d r s).watch j = s.watch j := rfl
@[simp] theorem setDelivery_input_at (d : SlotNo) (r : Option Delivery) (n : SupplyNo) (x : Input) :
    (setDelivery d r s).input n x = s.input n x := rfl

/-! ## setLastEnded -/

@[simp] theorem setLastEnded_now (i : SourceNo) (r : Option Delivery) : (setLastEnded i r s).now = s.now := rfl
@[simp] theorem setLastEnded_lnk (i : SourceNo) (r : Option Delivery) : (setLastEnded i r s).lnk = s.lnk := rfl
@[simp] theorem setLastEnded_stn (i : SourceNo) (r : Option Delivery) : (setLastEnded i r s).stn = s.stn := rfl
@[simp] theorem setLastEnded_src (i : SourceNo) (r : Option Delivery) : (setLastEnded i r s).src = s.src := rfl
@[simp] theorem setLastEnded_sup (i : SourceNo) (r : Option Delivery) : (setLastEnded i r s).sup = s.sup := rfl
@[simp] theorem setLastEnded_xfr (i : SourceNo) (r : Option Delivery) : (setLastEnded i r s).xfr = s.xfr := rfl
@[simp] theorem setLastEnded_syn (i : SourceNo) (r : Option Delivery) : (setLastEnded i r s).syn = s.syn := rfl
@[simp] theorem setLastEnded_tnk (i : SourceNo) (r : Option Delivery) : (setLastEnded i r s).tnk = s.tnk := rfl
@[simp] theorem setLastEnded_mtr (i : SourceNo) (r : Option Delivery) : (setLastEnded i r s).mtr = s.mtr := rfl
@[simp] theorem setLastEnded_stl (i : SourceNo) (r : Option Delivery) : (setLastEnded i r s).stl = s.stl := rfl
@[simp] theorem setLastEnded_wch (i : SourceNo) (r : Option Delivery) : (setLastEnded i r s).wch = s.wch := rfl
@[simp] theorem setLastEnded_log (i : SourceNo) (r : Option Delivery) : (setLastEnded i r s).log = s.log := rfl
@[simp] theorem setLastEnded_pending (i : SourceNo) (r : Option Delivery) :
    (setLastEnded i r s).pending = s.pending := rfl
@[simp] theorem setLastEnded_slots (i : SourceNo) (r : Option Delivery) :
    (setLastEnded i r s).dlv.slots = s.dlv.slots := rfl
@[simp] theorem setLastEnded_returns (i : SourceNo) (r : Option Delivery) :
    (setLastEnded i r s).dlv.returns = s.dlv.returns := rfl
@[simp] theorem setLastEnded_fill (i : SourceNo) (r : Option Delivery) :
    (setLastEnded i r s).dlv.fill = s.dlv.fill := rfl
@[simp] theorem setLastEnded_fillUnread (i : SourceNo) (r : Option Delivery) :
    (setLastEnded i r s).dlv.fillUnread = s.dlv.fillUnread := rfl
@[simp] theorem setLastEnded_ms (i : SourceNo) (r : Option Delivery) : (setLastEnded i r s).ms = s.ms := rfl
@[simp] theorem setLastEnded_clock_now (i : SourceNo) (r : Option Delivery) :
    (setLastEnded i r s).clock = s.clock := rfl
@[simp] theorem setLastEnded_port_at (i : SourceNo) (r : Option Delivery) (j : PortNo) :
    (setLastEnded i r s).port j = s.port j := rfl
@[simp] theorem setLastEnded_station_at (i : SourceNo) (r : Option Delivery) (j : StationNo) :
    (setLastEnded i r s).station j = s.station j := rfl
@[simp] theorem setLastEnded_source_at (i : SourceNo) (r : Option Delivery) (j : SourceNo) :
    (setLastEnded i r s).source j = s.source j := rfl
@[simp] theorem setLastEnded_supply_at (i : SourceNo) (r : Option Delivery) (j : SupplyNo) :
    (setLastEnded i r s).supply j = s.supply j := rfl
@[simp] theorem setLastEnded_slot_at (i : SourceNo) (r : Option Delivery) (j : SupplyNo) :
    (setLastEnded i r s).slot j = s.slot j := rfl
@[simp] theorem setLastEnded_sync_at (i : SourceNo) (r : Option Delivery) (j : SyncNo) :
    (setLastEnded i r s).sync j = s.sync j := rfl
@[simp] theorem setLastEnded_tank_at (i : SourceNo) (r : Option Delivery) (j : SourceNo) :
    (setLastEnded i r s).tank j = s.tank j := rfl
@[simp] theorem setLastEnded_delivery_at (i : SourceNo) (r : Option Delivery) (j : SlotNo) :
    (setLastEnded i r s).delivery j = s.delivery j := rfl
@[simp] theorem setLastEnded_lastEnded (i : SourceNo) (r : Option Delivery) (j : SourceNo) :
    (setLastEnded i r s).lastEnded j = if i = j then r else s.lastEnded j := by
  simp [setLastEnded, State.lastEnded]
@[simp] theorem setLastEnded_chan_at (i : SourceNo) (r : Option Delivery) (j : ChannelNo) :
    (setLastEnded i r s).chan j = s.chan j := rfl
@[simp] theorem setLastEnded_account_at (i : SourceNo) (r : Option Delivery) (j : AccountNo) :
    (setLastEnded i r s).account j = s.account j := rfl
@[simp] theorem setLastEnded_watch_at (i : SourceNo) (r : Option Delivery) (j : WatchNo) :
    (setLastEnded i r s).watch j = s.watch j := rfl
@[simp] theorem setLastEnded_input_at (i : SourceNo) (r : Option Delivery) (n : SupplyNo) (x : Input) :
    (setLastEnded i r s).input n x = s.input n x := rfl

/-! ## setReturns -/

@[simp] theorem setReturns_now (l : List ReturnEntry) : (setReturns l s).now = s.now := rfl
@[simp] theorem setReturns_lnk (l : List ReturnEntry) : (setReturns l s).lnk = s.lnk := rfl
@[simp] theorem setReturns_stn (l : List ReturnEntry) : (setReturns l s).stn = s.stn := rfl
@[simp] theorem setReturns_src (l : List ReturnEntry) : (setReturns l s).src = s.src := rfl
@[simp] theorem setReturns_sup (l : List ReturnEntry) : (setReturns l s).sup = s.sup := rfl
@[simp] theorem setReturns_xfr (l : List ReturnEntry) : (setReturns l s).xfr = s.xfr := rfl
@[simp] theorem setReturns_syn (l : List ReturnEntry) : (setReturns l s).syn = s.syn := rfl
@[simp] theorem setReturns_tnk (l : List ReturnEntry) : (setReturns l s).tnk = s.tnk := rfl
@[simp] theorem setReturns_mtr (l : List ReturnEntry) : (setReturns l s).mtr = s.mtr := rfl
@[simp] theorem setReturns_stl (l : List ReturnEntry) : (setReturns l s).stl = s.stl := rfl
@[simp] theorem setReturns_wch (l : List ReturnEntry) : (setReturns l s).wch = s.wch := rfl
@[simp] theorem setReturns_log (l : List ReturnEntry) : (setReturns l s).log = s.log := rfl
@[simp] theorem setReturns_pending (l : List ReturnEntry) : (setReturns l s).pending = s.pending := rfl
@[simp] theorem setReturns_slots (l : List ReturnEntry) : (setReturns l s).dlv.slots = s.dlv.slots := rfl
@[simp] theorem setReturns_lastEnded (l : List ReturnEntry) : (setReturns l s).dlv.lastEnded = s.dlv.lastEnded := rfl
@[simp] theorem setReturns_fill (l : List ReturnEntry) : (setReturns l s).dlv.fill = s.dlv.fill := rfl
@[simp] theorem setReturns_fillUnread (l : List ReturnEntry) :
    (setReturns l s).dlv.fillUnread = s.dlv.fillUnread := rfl
@[simp] theorem setReturns_returns (l : List ReturnEntry) : (setReturns l s).dlv.returns = l := rfl
@[simp] theorem setReturns_ms (l : List ReturnEntry) : (setReturns l s).ms = s.ms := rfl
@[simp] theorem setReturns_clock_now (l : List ReturnEntry) : (setReturns l s).clock = s.clock := rfl
@[simp] theorem setReturns_port_at (l : List ReturnEntry) (j : PortNo) : (setReturns l s).port j = s.port j := rfl
@[simp] theorem setReturns_station_at (l : List ReturnEntry) (j : StationNo) :
    (setReturns l s).station j = s.station j := rfl
@[simp] theorem setReturns_source_at (l : List ReturnEntry) (j : SourceNo) :
    (setReturns l s).source j = s.source j := rfl
@[simp] theorem setReturns_supply_at (l : List ReturnEntry) (j : SupplyNo) :
    (setReturns l s).supply j = s.supply j := rfl
@[simp] theorem setReturns_slot_at (l : List ReturnEntry) (j : SupplyNo) : (setReturns l s).slot j = s.slot j := rfl
@[simp] theorem setReturns_sync_at (l : List ReturnEntry) (j : SyncNo) : (setReturns l s).sync j = s.sync j := rfl
@[simp] theorem setReturns_tank_at (l : List ReturnEntry) (j : SourceNo) : (setReturns l s).tank j = s.tank j := rfl
@[simp] theorem setReturns_delivery_at (l : List ReturnEntry) (j : SlotNo) :
    (setReturns l s).delivery j = s.delivery j := rfl
@[simp] theorem setReturns_lastEnded_at (l : List ReturnEntry) (j : SourceNo) :
    (setReturns l s).lastEnded j = s.lastEnded j := rfl
@[simp] theorem setReturns_chan_at (l : List ReturnEntry) (j : ChannelNo) : (setReturns l s).chan j = s.chan j := rfl
@[simp] theorem setReturns_account_at (l : List ReturnEntry) (j : AccountNo) :
    (setReturns l s).account j = s.account j := rfl
@[simp] theorem setReturns_watch_at (l : List ReturnEntry) (j : WatchNo) : (setReturns l s).watch j = s.watch j := rfl
@[simp] theorem setReturns_input_at (l : List ReturnEntry) (n : SupplyNo) (x : Input) :
    (setReturns l s).input n x = s.input n x := rfl

/-! ## setFill -/

@[simp] theorem setFill_now (i : SourceNo) (b : Bool) : (setFill i b s).now = s.now := rfl
@[simp] theorem setFill_lnk (i : SourceNo) (b : Bool) : (setFill i b s).lnk = s.lnk := rfl
@[simp] theorem setFill_stn (i : SourceNo) (b : Bool) : (setFill i b s).stn = s.stn := rfl
@[simp] theorem setFill_src (i : SourceNo) (b : Bool) : (setFill i b s).src = s.src := rfl
@[simp] theorem setFill_sup (i : SourceNo) (b : Bool) : (setFill i b s).sup = s.sup := rfl
@[simp] theorem setFill_xfr (i : SourceNo) (b : Bool) : (setFill i b s).xfr = s.xfr := rfl
@[simp] theorem setFill_syn (i : SourceNo) (b : Bool) : (setFill i b s).syn = s.syn := rfl
@[simp] theorem setFill_tnk (i : SourceNo) (b : Bool) : (setFill i b s).tnk = s.tnk := rfl
@[simp] theorem setFill_mtr (i : SourceNo) (b : Bool) : (setFill i b s).mtr = s.mtr := rfl
@[simp] theorem setFill_stl (i : SourceNo) (b : Bool) : (setFill i b s).stl = s.stl := rfl
@[simp] theorem setFill_wch (i : SourceNo) (b : Bool) : (setFill i b s).wch = s.wch := rfl
@[simp] theorem setFill_log (i : SourceNo) (b : Bool) : (setFill i b s).log = s.log := rfl
@[simp] theorem setFill_pending (i : SourceNo) (b : Bool) : (setFill i b s).pending = s.pending := rfl
@[simp] theorem setFill_slots (i : SourceNo) (b : Bool) : (setFill i b s).dlv.slots = s.dlv.slots := rfl
@[simp] theorem setFill_lastEnded (i : SourceNo) (b : Bool) : (setFill i b s).dlv.lastEnded = s.dlv.lastEnded := rfl
@[simp] theorem setFill_returns (i : SourceNo) (b : Bool) : (setFill i b s).dlv.returns = s.dlv.returns := rfl
@[simp] theorem setFill_fillUnread (i : SourceNo) (b : Bool) :
    (setFill i b s).dlv.fillUnread = s.dlv.fillUnread := rfl
@[simp] theorem setFill_fill (i : SourceNo) (b : Bool) : (setFill i b s).dlv.fill = upd s.dlv.fill i b := rfl
@[simp] theorem setFill_ms (i : SourceNo) (b : Bool) : (setFill i b s).ms = s.ms := rfl
@[simp] theorem setFill_clock_now (i : SourceNo) (b : Bool) : (setFill i b s).clock = s.clock := rfl
@[simp] theorem setFill_port_at (i : SourceNo) (b : Bool) (j : PortNo) : (setFill i b s).port j = s.port j := rfl
@[simp] theorem setFill_station_at (i : SourceNo) (b : Bool) (j : StationNo) :
    (setFill i b s).station j = s.station j := rfl
@[simp] theorem setFill_source_at (i : SourceNo) (b : Bool) (j : SourceNo) :
    (setFill i b s).source j = s.source j := rfl
@[simp] theorem setFill_supply_at (i : SourceNo) (b : Bool) (j : SupplyNo) :
    (setFill i b s).supply j = s.supply j := rfl
@[simp] theorem setFill_slot_at (i : SourceNo) (b : Bool) (j : SupplyNo) : (setFill i b s).slot j = s.slot j := rfl
@[simp] theorem setFill_sync_at (i : SourceNo) (b : Bool) (j : SyncNo) : (setFill i b s).sync j = s.sync j := rfl
@[simp] theorem setFill_tank_at (i : SourceNo) (b : Bool) (j : SourceNo) : (setFill i b s).tank j = s.tank j := rfl
@[simp] theorem setFill_delivery_at (i : SourceNo) (b : Bool) (j : SlotNo) :
    (setFill i b s).delivery j = s.delivery j := rfl
@[simp] theorem setFill_lastEnded_at (i : SourceNo) (b : Bool) (j : SourceNo) :
    (setFill i b s).lastEnded j = s.lastEnded j := rfl
@[simp] theorem setFill_chan_at (i : SourceNo) (b : Bool) (j : ChannelNo) : (setFill i b s).chan j = s.chan j := rfl
@[simp] theorem setFill_account_at (i : SourceNo) (b : Bool) (j : AccountNo) :
    (setFill i b s).account j = s.account j := rfl
@[simp] theorem setFill_watch_at (i : SourceNo) (b : Bool) (j : WatchNo) : (setFill i b s).watch j = s.watch j := rfl
@[simp] theorem setFill_input_at (i : SourceNo) (b : Bool) (n : SupplyNo) (x : Input) :
    (setFill i b s).input n x = s.input n x := rfl

/-! ## setFillUnread -/

@[simp] theorem setFillUnread_now (i : SourceNo) (b : Bool) : (setFillUnread i b s).now = s.now := rfl
@[simp] theorem setFillUnread_lnk (i : SourceNo) (b : Bool) : (setFillUnread i b s).lnk = s.lnk := rfl
@[simp] theorem setFillUnread_stn (i : SourceNo) (b : Bool) : (setFillUnread i b s).stn = s.stn := rfl
@[simp] theorem setFillUnread_src (i : SourceNo) (b : Bool) : (setFillUnread i b s).src = s.src := rfl
@[simp] theorem setFillUnread_sup (i : SourceNo) (b : Bool) : (setFillUnread i b s).sup = s.sup := rfl
@[simp] theorem setFillUnread_xfr (i : SourceNo) (b : Bool) : (setFillUnread i b s).xfr = s.xfr := rfl
@[simp] theorem setFillUnread_syn (i : SourceNo) (b : Bool) : (setFillUnread i b s).syn = s.syn := rfl
@[simp] theorem setFillUnread_tnk (i : SourceNo) (b : Bool) : (setFillUnread i b s).tnk = s.tnk := rfl
@[simp] theorem setFillUnread_mtr (i : SourceNo) (b : Bool) : (setFillUnread i b s).mtr = s.mtr := rfl
@[simp] theorem setFillUnread_stl (i : SourceNo) (b : Bool) : (setFillUnread i b s).stl = s.stl := rfl
@[simp] theorem setFillUnread_wch (i : SourceNo) (b : Bool) : (setFillUnread i b s).wch = s.wch := rfl
@[simp] theorem setFillUnread_log (i : SourceNo) (b : Bool) : (setFillUnread i b s).log = s.log := rfl
@[simp] theorem setFillUnread_pending (i : SourceNo) (b : Bool) : (setFillUnread i b s).pending = s.pending := rfl
@[simp] theorem setFillUnread_slots (i : SourceNo) (b : Bool) : (setFillUnread i b s).dlv.slots = s.dlv.slots := rfl
@[simp] theorem setFillUnread_lastEnded (i : SourceNo) (b : Bool) :
    (setFillUnread i b s).dlv.lastEnded = s.dlv.lastEnded := rfl
@[simp] theorem setFillUnread_returns (i : SourceNo) (b : Bool) :
    (setFillUnread i b s).dlv.returns = s.dlv.returns := rfl
@[simp] theorem setFillUnread_fill (i : SourceNo) (b : Bool) : (setFillUnread i b s).dlv.fill = s.dlv.fill := rfl
@[simp] theorem setFillUnread_fillUnread (i : SourceNo) (b : Bool) :
    (setFillUnread i b s).dlv.fillUnread = upd s.dlv.fillUnread i b := rfl
@[simp] theorem setFillUnread_ms (i : SourceNo) (b : Bool) : (setFillUnread i b s).ms = s.ms := rfl
@[simp] theorem setFillUnread_clock_now (i : SourceNo) (b : Bool) : (setFillUnread i b s).clock = s.clock := rfl
@[simp] theorem setFillUnread_port_at (i : SourceNo) (b : Bool) (j : PortNo) :
    (setFillUnread i b s).port j = s.port j := rfl
@[simp] theorem setFillUnread_station_at (i : SourceNo) (b : Bool) (j : StationNo) :
    (setFillUnread i b s).station j = s.station j := rfl
@[simp] theorem setFillUnread_source_at (i : SourceNo) (b : Bool) (j : SourceNo) :
    (setFillUnread i b s).source j = s.source j := rfl
@[simp] theorem setFillUnread_supply_at (i : SourceNo) (b : Bool) (j : SupplyNo) :
    (setFillUnread i b s).supply j = s.supply j := rfl
@[simp] theorem setFillUnread_slot_at (i : SourceNo) (b : Bool) (j : SupplyNo) :
    (setFillUnread i b s).slot j = s.slot j := rfl
@[simp] theorem setFillUnread_sync_at (i : SourceNo) (b : Bool) (j : SyncNo) :
    (setFillUnread i b s).sync j = s.sync j := rfl
@[simp] theorem setFillUnread_tank_at (i : SourceNo) (b : Bool) (j : SourceNo) :
    (setFillUnread i b s).tank j = s.tank j := rfl
@[simp] theorem setFillUnread_delivery_at (i : SourceNo) (b : Bool) (j : SlotNo) :
    (setFillUnread i b s).delivery j = s.delivery j := rfl
@[simp] theorem setFillUnread_lastEnded_at (i : SourceNo) (b : Bool) (j : SourceNo) :
    (setFillUnread i b s).lastEnded j = s.lastEnded j := rfl
@[simp] theorem setFillUnread_chan_at (i : SourceNo) (b : Bool) (j : ChannelNo) :
    (setFillUnread i b s).chan j = s.chan j := rfl
@[simp] theorem setFillUnread_account_at (i : SourceNo) (b : Bool) (j : AccountNo) :
    (setFillUnread i b s).account j = s.account j := rfl
@[simp] theorem setFillUnread_watch_at (i : SourceNo) (b : Bool) (j : WatchNo) :
    (setFillUnread i b s).watch j = s.watch j := rfl
@[simp] theorem setFillUnread_input_at (i : SourceNo) (b : Bool) (n : SupplyNo) (x : Input) :
    (setFillUnread i b s).input n x = s.input n x := rfl

/-! ## setChan -/

@[simp] theorem setChan_now (c : ChannelNo) (r : Chan) : (setChan c r s).now = s.now := rfl
@[simp] theorem setChan_lnk (c : ChannelNo) (r : Chan) : (setChan c r s).lnk = s.lnk := rfl
@[simp] theorem setChan_stn (c : ChannelNo) (r : Chan) : (setChan c r s).stn = s.stn := rfl
@[simp] theorem setChan_src (c : ChannelNo) (r : Chan) : (setChan c r s).src = s.src := rfl
@[simp] theorem setChan_sup (c : ChannelNo) (r : Chan) : (setChan c r s).sup = s.sup := rfl
@[simp] theorem setChan_xfr (c : ChannelNo) (r : Chan) : (setChan c r s).xfr = s.xfr := rfl
@[simp] theorem setChan_syn (c : ChannelNo) (r : Chan) : (setChan c r s).syn = s.syn := rfl
@[simp] theorem setChan_tnk (c : ChannelNo) (r : Chan) : (setChan c r s).tnk = s.tnk := rfl
@[simp] theorem setChan_dlv (c : ChannelNo) (r : Chan) : (setChan c r s).dlv = s.dlv := rfl
@[simp] theorem setChan_stl (c : ChannelNo) (r : Chan) : (setChan c r s).stl = s.stl := rfl
@[simp] theorem setChan_wch (c : ChannelNo) (r : Chan) : (setChan c r s).wch = s.wch := rfl
@[simp] theorem setChan_log (c : ChannelNo) (r : Chan) : (setChan c r s).log = s.log := rfl
@[simp] theorem setChan_pending (c : ChannelNo) (r : Chan) : (setChan c r s).pending = s.pending := rfl
@[simp] theorem setChan_matrix (c : ChannelNo) (r : Chan) : (setChan c r s).mtr.matrix = s.mtr.matrix := rfl
@[simp] theorem setChan_ms (c : ChannelNo) (r : Chan) : (setChan c r s).ms = s.ms := rfl
@[simp] theorem setChan_clock_now (c : ChannelNo) (r : Chan) : (setChan c r s).clock = s.clock := rfl
@[simp] theorem setChan_port_at (c : ChannelNo) (r : Chan) (j : PortNo) : (setChan c r s).port j = s.port j := rfl
@[simp] theorem setChan_station_at (c : ChannelNo) (r : Chan) (j : StationNo) :
    (setChan c r s).station j = s.station j := rfl
@[simp] theorem setChan_source_at (c : ChannelNo) (r : Chan) (j : SourceNo) :
    (setChan c r s).source j = s.source j := rfl
@[simp] theorem setChan_supply_at (c : ChannelNo) (r : Chan) (j : SupplyNo) :
    (setChan c r s).supply j = s.supply j := rfl
@[simp] theorem setChan_slot_at (c : ChannelNo) (r : Chan) (j : SupplyNo) : (setChan c r s).slot j = s.slot j := rfl
@[simp] theorem setChan_sync_at (c : ChannelNo) (r : Chan) (j : SyncNo) : (setChan c r s).sync j = s.sync j := rfl
@[simp] theorem setChan_tank_at (c : ChannelNo) (r : Chan) (j : SourceNo) : (setChan c r s).tank j = s.tank j := rfl
@[simp] theorem setChan_delivery_at (c : ChannelNo) (r : Chan) (j : SlotNo) :
    (setChan c r s).delivery j = s.delivery j := rfl
@[simp] theorem setChan_lastEnded_at (c : ChannelNo) (r : Chan) (j : SourceNo) :
    (setChan c r s).lastEnded j = s.lastEnded j := rfl
@[simp] theorem setChan_chan (c : ChannelNo) (r : Chan) (j : ChannelNo) :
    (setChan c r s).chan j = if c = j then r else s.chan j := by
  simp [setChan, State.chan]
@[simp] theorem setChan_account_at (c : ChannelNo) (r : Chan) (j : AccountNo) :
    (setChan c r s).account j = s.account j := rfl
@[simp] theorem setChan_watch_at (c : ChannelNo) (r : Chan) (j : WatchNo) : (setChan c r s).watch j = s.watch j := rfl
@[simp] theorem setChan_input_at (c : ChannelNo) (r : Chan) (n : SupplyNo) (x : Input) :
    (setChan c r s).input n x = s.input n x := rfl

/-! ## setMatrix -/

@[simp] theorem setMatrix_now (m : Matrix) : (setMatrix m s).now = s.now := rfl
@[simp] theorem setMatrix_lnk (m : Matrix) : (setMatrix m s).lnk = s.lnk := rfl
@[simp] theorem setMatrix_stn (m : Matrix) : (setMatrix m s).stn = s.stn := rfl
@[simp] theorem setMatrix_src (m : Matrix) : (setMatrix m s).src = s.src := rfl
@[simp] theorem setMatrix_sup (m : Matrix) : (setMatrix m s).sup = s.sup := rfl
@[simp] theorem setMatrix_xfr (m : Matrix) : (setMatrix m s).xfr = s.xfr := rfl
@[simp] theorem setMatrix_syn (m : Matrix) : (setMatrix m s).syn = s.syn := rfl
@[simp] theorem setMatrix_tnk (m : Matrix) : (setMatrix m s).tnk = s.tnk := rfl
@[simp] theorem setMatrix_dlv (m : Matrix) : (setMatrix m s).dlv = s.dlv := rfl
@[simp] theorem setMatrix_stl (m : Matrix) : (setMatrix m s).stl = s.stl := rfl
@[simp] theorem setMatrix_wch (m : Matrix) : (setMatrix m s).wch = s.wch := rfl
@[simp] theorem setMatrix_log (m : Matrix) : (setMatrix m s).log = s.log := rfl
@[simp] theorem setMatrix_pending (m : Matrix) : (setMatrix m s).pending = s.pending := rfl
@[simp] theorem setMatrix_channels (m : Matrix) : (setMatrix m s).mtr.channels = s.mtr.channels := rfl
@[simp] theorem setMatrix_matrix (m : Matrix) : (setMatrix m s).mtr.matrix = m := rfl
@[simp] theorem setMatrix_ms (m : Matrix) : (setMatrix m s).ms = s.ms := rfl
@[simp] theorem setMatrix_clock_now (m : Matrix) : (setMatrix m s).clock = s.clock := rfl
@[simp] theorem setMatrix_port_at (m : Matrix) (j : PortNo) : (setMatrix m s).port j = s.port j := rfl
@[simp] theorem setMatrix_station_at (m : Matrix) (j : StationNo) : (setMatrix m s).station j = s.station j := rfl
@[simp] theorem setMatrix_source_at (m : Matrix) (j : SourceNo) : (setMatrix m s).source j = s.source j := rfl
@[simp] theorem setMatrix_supply_at (m : Matrix) (j : SupplyNo) : (setMatrix m s).supply j = s.supply j := rfl
@[simp] theorem setMatrix_slot_at (m : Matrix) (j : SupplyNo) : (setMatrix m s).slot j = s.slot j := rfl
@[simp] theorem setMatrix_sync_at (m : Matrix) (j : SyncNo) : (setMatrix m s).sync j = s.sync j := rfl
@[simp] theorem setMatrix_tank_at (m : Matrix) (j : SourceNo) : (setMatrix m s).tank j = s.tank j := rfl
@[simp] theorem setMatrix_delivery_at (m : Matrix) (j : SlotNo) : (setMatrix m s).delivery j = s.delivery j := rfl
@[simp] theorem setMatrix_lastEnded_at (m : Matrix) (j : SourceNo) :
    (setMatrix m s).lastEnded j = s.lastEnded j := rfl
@[simp] theorem setMatrix_chan_at (m : Matrix) (j : ChannelNo) : (setMatrix m s).chan j = s.chan j := rfl
@[simp] theorem setMatrix_account_at (m : Matrix) (j : AccountNo) : (setMatrix m s).account j = s.account j := rfl
@[simp] theorem setMatrix_watch_at (m : Matrix) (j : WatchNo) : (setMatrix m s).watch j = s.watch j := rfl
@[simp] theorem setMatrix_input_at (m : Matrix) (n : SupplyNo) (x : Input) :
    (setMatrix m s).input n x = s.input n x := rfl

/-! ## setClock -/

@[simp] theorem setClock_now (c : Clock) : (setClock c s).now = s.now := rfl
@[simp] theorem setClock_lnk (c : Clock) : (setClock c s).lnk = s.lnk := rfl
@[simp] theorem setClock_stn (c : Clock) : (setClock c s).stn = s.stn := rfl
@[simp] theorem setClock_src (c : Clock) : (setClock c s).src = s.src := rfl
@[simp] theorem setClock_sup (c : Clock) : (setClock c s).sup = s.sup := rfl
@[simp] theorem setClock_xfr (c : Clock) : (setClock c s).xfr = s.xfr := rfl
@[simp] theorem setClock_syn (c : Clock) : (setClock c s).syn = s.syn := rfl
@[simp] theorem setClock_tnk (c : Clock) : (setClock c s).tnk = s.tnk := rfl
@[simp] theorem setClock_dlv (c : Clock) : (setClock c s).dlv = s.dlv := rfl
@[simp] theorem setClock_mtr (c : Clock) : (setClock c s).mtr = s.mtr := rfl
@[simp] theorem setClock_wch (c : Clock) : (setClock c s).wch = s.wch := rfl
@[simp] theorem setClock_log (c : Clock) : (setClock c s).log = s.log := rfl
@[simp] theorem setClock_pending (c : Clock) : (setClock c s).pending = s.pending := rfl
@[simp] theorem setClock_records (c : Clock) : (setClock c s).stl.records = s.stl.records := rfl
@[simp] theorem setClock_accounts (c : Clock) : (setClock c s).stl.accounts = s.stl.accounts := rfl
@[simp] theorem setClock_bankA (c : Clock) : (setClock c s).stl.bankA = s.stl.bankA := rfl
@[simp] theorem setClock_bankB (c : Clock) : (setClock c s).stl.bankB = s.stl.bankB := rfl
@[simp] theorem setClock_closePending (c : Clock) : (setClock c s).stl.closePending = s.stl.closePending := rfl
@[simp] theorem setClock_settled (c : Clock) : (setClock c s).stl.settled = s.stl.settled := rfl
@[simp] theorem setClock_clock (c : Clock) : (setClock c s).stl.clock = c := rfl
@[simp] theorem setClock_ms (c : Clock) : (setClock c s).ms = s.ms := rfl
@[simp] theorem setClock_port_at (c : Clock) (j : PortNo) : (setClock c s).port j = s.port j := rfl
@[simp] theorem setClock_station_at (c : Clock) (j : StationNo) : (setClock c s).station j = s.station j := rfl
@[simp] theorem setClock_source_at (c : Clock) (j : SourceNo) : (setClock c s).source j = s.source j := rfl
@[simp] theorem setClock_supply_at (c : Clock) (j : SupplyNo) : (setClock c s).supply j = s.supply j := rfl
@[simp] theorem setClock_slot_at (c : Clock) (j : SupplyNo) : (setClock c s).slot j = s.slot j := rfl
@[simp] theorem setClock_sync_at (c : Clock) (j : SyncNo) : (setClock c s).sync j = s.sync j := rfl
@[simp] theorem setClock_tank_at (c : Clock) (j : SourceNo) : (setClock c s).tank j = s.tank j := rfl
@[simp] theorem setClock_delivery_at (c : Clock) (j : SlotNo) : (setClock c s).delivery j = s.delivery j := rfl
@[simp] theorem setClock_lastEnded_at (c : Clock) (j : SourceNo) : (setClock c s).lastEnded j = s.lastEnded j := rfl
@[simp] theorem setClock_chan_at (c : Clock) (j : ChannelNo) : (setClock c s).chan j = s.chan j := rfl
@[simp] theorem setClock_account_at (c : Clock) (j : AccountNo) : (setClock c s).account j = s.account j := rfl
@[simp] theorem setClock_watch_at (c : Clock) (j : WatchNo) : (setClock c s).watch j = s.watch j := rfl
@[simp] theorem setClock_input_at (c : Clock) (n : SupplyNo) (x : Input) :
    (setClock c s).input n x = s.input n x := rfl

/-! ## setRecords -/

@[simp] theorem setRecords_now (l : List SettleRec) : (setRecords l s).now = s.now := rfl
@[simp] theorem setRecords_lnk (l : List SettleRec) : (setRecords l s).lnk = s.lnk := rfl
@[simp] theorem setRecords_stn (l : List SettleRec) : (setRecords l s).stn = s.stn := rfl
@[simp] theorem setRecords_src (l : List SettleRec) : (setRecords l s).src = s.src := rfl
@[simp] theorem setRecords_sup (l : List SettleRec) : (setRecords l s).sup = s.sup := rfl
@[simp] theorem setRecords_xfr (l : List SettleRec) : (setRecords l s).xfr = s.xfr := rfl
@[simp] theorem setRecords_syn (l : List SettleRec) : (setRecords l s).syn = s.syn := rfl
@[simp] theorem setRecords_tnk (l : List SettleRec) : (setRecords l s).tnk = s.tnk := rfl
@[simp] theorem setRecords_dlv (l : List SettleRec) : (setRecords l s).dlv = s.dlv := rfl
@[simp] theorem setRecords_mtr (l : List SettleRec) : (setRecords l s).mtr = s.mtr := rfl
@[simp] theorem setRecords_wch (l : List SettleRec) : (setRecords l s).wch = s.wch := rfl
@[simp] theorem setRecords_log (l : List SettleRec) : (setRecords l s).log = s.log := rfl
@[simp] theorem setRecords_pending (l : List SettleRec) : (setRecords l s).pending = s.pending := rfl
@[simp] theorem setRecords_clock (l : List SettleRec) : (setRecords l s).stl.clock = s.stl.clock := rfl
@[simp] theorem setRecords_accounts (l : List SettleRec) : (setRecords l s).stl.accounts = s.stl.accounts := rfl
@[simp] theorem setRecords_bankA (l : List SettleRec) : (setRecords l s).stl.bankA = s.stl.bankA := rfl
@[simp] theorem setRecords_bankB (l : List SettleRec) : (setRecords l s).stl.bankB = s.stl.bankB := rfl
@[simp] theorem setRecords_closePending (l : List SettleRec) :
    (setRecords l s).stl.closePending = s.stl.closePending := rfl
@[simp] theorem setRecords_settled (l : List SettleRec) : (setRecords l s).stl.settled = s.stl.settled := rfl
@[simp] theorem setRecords_records (l : List SettleRec) : (setRecords l s).stl.records = l := rfl
@[simp] theorem setRecords_ms (l : List SettleRec) : (setRecords l s).ms = s.ms := rfl
@[simp] theorem setRecords_clock_now (l : List SettleRec) : (setRecords l s).clock = s.clock := rfl
@[simp] theorem setRecords_port_at (l : List SettleRec) (j : PortNo) : (setRecords l s).port j = s.port j := rfl
@[simp] theorem setRecords_station_at (l : List SettleRec) (j : StationNo) :
    (setRecords l s).station j = s.station j := rfl
@[simp] theorem setRecords_source_at (l : List SettleRec) (j : SourceNo) :
    (setRecords l s).source j = s.source j := rfl
@[simp] theorem setRecords_supply_at (l : List SettleRec) (j : SupplyNo) :
    (setRecords l s).supply j = s.supply j := rfl
@[simp] theorem setRecords_slot_at (l : List SettleRec) (j : SupplyNo) : (setRecords l s).slot j = s.slot j := rfl
@[simp] theorem setRecords_sync_at (l : List SettleRec) (j : SyncNo) : (setRecords l s).sync j = s.sync j := rfl
@[simp] theorem setRecords_tank_at (l : List SettleRec) (j : SourceNo) : (setRecords l s).tank j = s.tank j := rfl
@[simp] theorem setRecords_delivery_at (l : List SettleRec) (j : SlotNo) :
    (setRecords l s).delivery j = s.delivery j := rfl
@[simp] theorem setRecords_lastEnded_at (l : List SettleRec) (j : SourceNo) :
    (setRecords l s).lastEnded j = s.lastEnded j := rfl
@[simp] theorem setRecords_chan_at (l : List SettleRec) (j : ChannelNo) : (setRecords l s).chan j = s.chan j := rfl
@[simp] theorem setRecords_account_at (l : List SettleRec) (j : AccountNo) :
    (setRecords l s).account j = s.account j := rfl
@[simp] theorem setRecords_watch_at (l : List SettleRec) (j : WatchNo) : (setRecords l s).watch j = s.watch j := rfl
@[simp] theorem setRecords_input_at (l : List SettleRec) (n : SupplyNo) (x : Input) :
    (setRecords l s).input n x = s.input n x := rfl

/-! ## setAccount -/

@[simp] theorem setAccount_now (a : AccountNo) (r : Account) : (setAccount a r s).now = s.now := rfl
@[simp] theorem setAccount_lnk (a : AccountNo) (r : Account) : (setAccount a r s).lnk = s.lnk := rfl
@[simp] theorem setAccount_stn (a : AccountNo) (r : Account) : (setAccount a r s).stn = s.stn := rfl
@[simp] theorem setAccount_src (a : AccountNo) (r : Account) : (setAccount a r s).src = s.src := rfl
@[simp] theorem setAccount_sup (a : AccountNo) (r : Account) : (setAccount a r s).sup = s.sup := rfl
@[simp] theorem setAccount_xfr (a : AccountNo) (r : Account) : (setAccount a r s).xfr = s.xfr := rfl
@[simp] theorem setAccount_syn (a : AccountNo) (r : Account) : (setAccount a r s).syn = s.syn := rfl
@[simp] theorem setAccount_tnk (a : AccountNo) (r : Account) : (setAccount a r s).tnk = s.tnk := rfl
@[simp] theorem setAccount_dlv (a : AccountNo) (r : Account) : (setAccount a r s).dlv = s.dlv := rfl
@[simp] theorem setAccount_mtr (a : AccountNo) (r : Account) : (setAccount a r s).mtr = s.mtr := rfl
@[simp] theorem setAccount_wch (a : AccountNo) (r : Account) : (setAccount a r s).wch = s.wch := rfl
@[simp] theorem setAccount_log (a : AccountNo) (r : Account) : (setAccount a r s).log = s.log := rfl
@[simp] theorem setAccount_pending (a : AccountNo) (r : Account) : (setAccount a r s).pending = s.pending := rfl
@[simp] theorem setAccount_clock (a : AccountNo) (r : Account) : (setAccount a r s).stl.clock = s.stl.clock := rfl
@[simp] theorem setAccount_records (a : AccountNo) (r : Account) :
    (setAccount a r s).stl.records = s.stl.records := rfl
@[simp] theorem setAccount_bankA (a : AccountNo) (r : Account) : (setAccount a r s).stl.bankA = s.stl.bankA := rfl
@[simp] theorem setAccount_bankB (a : AccountNo) (r : Account) : (setAccount a r s).stl.bankB = s.stl.bankB := rfl
@[simp] theorem setAccount_closePending (a : AccountNo) (r : Account) :
    (setAccount a r s).stl.closePending = s.stl.closePending := rfl
@[simp] theorem setAccount_settled (a : AccountNo) (r : Account) :
    (setAccount a r s).stl.settled = s.stl.settled := rfl
@[simp] theorem setAccount_ms (a : AccountNo) (r : Account) : (setAccount a r s).ms = s.ms := rfl
@[simp] theorem setAccount_clock_now (a : AccountNo) (r : Account) : (setAccount a r s).clock = s.clock := rfl
@[simp] theorem setAccount_port_at (a : AccountNo) (r : Account) (j : PortNo) :
    (setAccount a r s).port j = s.port j := rfl
@[simp] theorem setAccount_station_at (a : AccountNo) (r : Account) (j : StationNo) :
    (setAccount a r s).station j = s.station j := rfl
@[simp] theorem setAccount_source_at (a : AccountNo) (r : Account) (j : SourceNo) :
    (setAccount a r s).source j = s.source j := rfl
@[simp] theorem setAccount_supply_at (a : AccountNo) (r : Account) (j : SupplyNo) :
    (setAccount a r s).supply j = s.supply j := rfl
@[simp] theorem setAccount_slot_at (a : AccountNo) (r : Account) (j : SupplyNo) :
    (setAccount a r s).slot j = s.slot j := rfl
@[simp] theorem setAccount_sync_at (a : AccountNo) (r : Account) (j : SyncNo) :
    (setAccount a r s).sync j = s.sync j := rfl
@[simp] theorem setAccount_tank_at (a : AccountNo) (r : Account) (j : SourceNo) :
    (setAccount a r s).tank j = s.tank j := rfl
@[simp] theorem setAccount_delivery_at (a : AccountNo) (r : Account) (j : SlotNo) :
    (setAccount a r s).delivery j = s.delivery j := rfl
@[simp] theorem setAccount_lastEnded_at (a : AccountNo) (r : Account) (j : SourceNo) :
    (setAccount a r s).lastEnded j = s.lastEnded j := rfl
@[simp] theorem setAccount_chan_at (a : AccountNo) (r : Account) (j : ChannelNo) :
    (setAccount a r s).chan j = s.chan j := rfl
@[simp] theorem setAccount_account (a : AccountNo) (r : Account) (j : AccountNo) :
    (setAccount a r s).account j = if a = j then r else s.account j := by
  simp [setAccount, State.account]
@[simp] theorem setAccount_watch_at (a : AccountNo) (r : Account) (j : WatchNo) :
    (setAccount a r s).watch j = s.watch j := rfl
@[simp] theorem setAccount_input_at (a : AccountNo) (r : Account) (n : SupplyNo) (x : Input) :
    (setAccount a r s).input n x = s.input n x := rfl

/-! ## setWatch -/

@[simp] theorem setWatch_now (w : WatchNo) (r : Watch) : (setWatch w r s).now = s.now := rfl
@[simp] theorem setWatch_lnk (w : WatchNo) (r : Watch) : (setWatch w r s).lnk = s.lnk := rfl
@[simp] theorem setWatch_stn (w : WatchNo) (r : Watch) : (setWatch w r s).stn = s.stn := rfl
@[simp] theorem setWatch_src (w : WatchNo) (r : Watch) : (setWatch w r s).src = s.src := rfl
@[simp] theorem setWatch_sup (w : WatchNo) (r : Watch) : (setWatch w r s).sup = s.sup := rfl
@[simp] theorem setWatch_xfr (w : WatchNo) (r : Watch) : (setWatch w r s).xfr = s.xfr := rfl
@[simp] theorem setWatch_syn (w : WatchNo) (r : Watch) : (setWatch w r s).syn = s.syn := rfl
@[simp] theorem setWatch_tnk (w : WatchNo) (r : Watch) : (setWatch w r s).tnk = s.tnk := rfl
@[simp] theorem setWatch_dlv (w : WatchNo) (r : Watch) : (setWatch w r s).dlv = s.dlv := rfl
@[simp] theorem setWatch_mtr (w : WatchNo) (r : Watch) : (setWatch w r s).mtr = s.mtr := rfl
@[simp] theorem setWatch_stl (w : WatchNo) (r : Watch) : (setWatch w r s).stl = s.stl := rfl
@[simp] theorem setWatch_log (w : WatchNo) (r : Watch) : (setWatch w r s).log = s.log := rfl
@[simp] theorem setWatch_pending (w : WatchNo) (r : Watch) : (setWatch w r s).pending = s.pending := rfl
@[simp] theorem setWatch_ms (w : WatchNo) (r : Watch) : (setWatch w r s).ms = s.ms := rfl
@[simp] theorem setWatch_clock_now (w : WatchNo) (r : Watch) : (setWatch w r s).clock = s.clock := rfl
@[simp] theorem setWatch_port_at (w : WatchNo) (r : Watch) (j : PortNo) : (setWatch w r s).port j = s.port j := rfl
@[simp] theorem setWatch_station_at (w : WatchNo) (r : Watch) (j : StationNo) :
    (setWatch w r s).station j = s.station j := rfl
@[simp] theorem setWatch_source_at (w : WatchNo) (r : Watch) (j : SourceNo) :
    (setWatch w r s).source j = s.source j := rfl
@[simp] theorem setWatch_supply_at (w : WatchNo) (r : Watch) (j : SupplyNo) :
    (setWatch w r s).supply j = s.supply j := rfl
@[simp] theorem setWatch_slot_at (w : WatchNo) (r : Watch) (j : SupplyNo) : (setWatch w r s).slot j = s.slot j := rfl
@[simp] theorem setWatch_sync_at (w : WatchNo) (r : Watch) (j : SyncNo) : (setWatch w r s).sync j = s.sync j := rfl
@[simp] theorem setWatch_tank_at (w : WatchNo) (r : Watch) (j : SourceNo) : (setWatch w r s).tank j = s.tank j := rfl
@[simp] theorem setWatch_delivery_at (w : WatchNo) (r : Watch) (j : SlotNo) :
    (setWatch w r s).delivery j = s.delivery j := rfl
@[simp] theorem setWatch_lastEnded_at (w : WatchNo) (r : Watch) (j : SourceNo) :
    (setWatch w r s).lastEnded j = s.lastEnded j := rfl
@[simp] theorem setWatch_chan_at (w : WatchNo) (r : Watch) (j : ChannelNo) : (setWatch w r s).chan j = s.chan j := rfl
@[simp] theorem setWatch_account_at (w : WatchNo) (r : Watch) (j : AccountNo) :
    (setWatch w r s).account j = s.account j := rfl
@[simp] theorem setWatch_watch (w : WatchNo) (r : Watch) (j : WatchNo) :
    (setWatch w r s).watch j = if w = j then r else s.watch j := by
  simp [setWatch, State.watch]
@[simp] theorem setWatch_input_at (w : WatchNo) (r : Watch) (n : SupplyNo) (x : Input) :
    (setWatch w r s).input n x = s.input n x := rfl

/-! ## setLog -/

@[simp] theorem setLog_now (l : Log) : (setLog l s).now = s.now := rfl
@[simp] theorem setLog_lnk (l : Log) : (setLog l s).lnk = s.lnk := rfl
@[simp] theorem setLog_stn (l : Log) : (setLog l s).stn = s.stn := rfl
@[simp] theorem setLog_src (l : Log) : (setLog l s).src = s.src := rfl
@[simp] theorem setLog_sup (l : Log) : (setLog l s).sup = s.sup := rfl
@[simp] theorem setLog_xfr (l : Log) : (setLog l s).xfr = s.xfr := rfl
@[simp] theorem setLog_syn (l : Log) : (setLog l s).syn = s.syn := rfl
@[simp] theorem setLog_tnk (l : Log) : (setLog l s).tnk = s.tnk := rfl
@[simp] theorem setLog_dlv (l : Log) : (setLog l s).dlv = s.dlv := rfl
@[simp] theorem setLog_mtr (l : Log) : (setLog l s).mtr = s.mtr := rfl
@[simp] theorem setLog_stl (l : Log) : (setLog l s).stl = s.stl := rfl
@[simp] theorem setLog_wch (l : Log) : (setLog l s).wch = s.wch := rfl
@[simp] theorem setLog_pending (l : Log) : (setLog l s).pending = s.pending := rfl
@[simp] theorem setLog_log (l : Log) : (setLog l s).log = l := rfl
@[simp] theorem setLog_ms (l : Log) : (setLog l s).ms = s.ms := rfl
@[simp] theorem setLog_clock_now (l : Log) : (setLog l s).clock = s.clock := rfl
@[simp] theorem setLog_port_at (l : Log) (j : PortNo) : (setLog l s).port j = s.port j := rfl
@[simp] theorem setLog_station_at (l : Log) (j : StationNo) : (setLog l s).station j = s.station j := rfl
@[simp] theorem setLog_source_at (l : Log) (j : SourceNo) : (setLog l s).source j = s.source j := rfl
@[simp] theorem setLog_supply_at (l : Log) (j : SupplyNo) : (setLog l s).supply j = s.supply j := rfl
@[simp] theorem setLog_slot_at (l : Log) (j : SupplyNo) : (setLog l s).slot j = s.slot j := rfl
@[simp] theorem setLog_sync_at (l : Log) (j : SyncNo) : (setLog l s).sync j = s.sync j := rfl
@[simp] theorem setLog_tank_at (l : Log) (j : SourceNo) : (setLog l s).tank j = s.tank j := rfl
@[simp] theorem setLog_delivery_at (l : Log) (j : SlotNo) : (setLog l s).delivery j = s.delivery j := rfl
@[simp] theorem setLog_lastEnded_at (l : Log) (j : SourceNo) : (setLog l s).lastEnded j = s.lastEnded j := rfl
@[simp] theorem setLog_chan_at (l : Log) (j : ChannelNo) : (setLog l s).chan j = s.chan j := rfl
@[simp] theorem setLog_account_at (l : Log) (j : AccountNo) : (setLog l s).account j = s.account j := rfl
@[simp] theorem setLog_watch_at (l : Log) (j : WatchNo) : (setLog l s).watch j = s.watch j := rfl
@[simp] theorem setLog_input_at (l : Log) (n : SupplyNo) (x : Input) : (setLog l s).input n x = s.input n x := rfl

/-! ## advanceTo -/

@[simp] theorem advanceTo_lnk (t : Nat) : (advanceTo t s).lnk = s.lnk := rfl
@[simp] theorem advanceTo_stn (t : Nat) : (advanceTo t s).stn = s.stn := rfl
@[simp] theorem advanceTo_src (t : Nat) : (advanceTo t s).src = s.src := rfl
@[simp] theorem advanceTo_sup (t : Nat) : (advanceTo t s).sup = s.sup := rfl
@[simp] theorem advanceTo_xfr (t : Nat) : (advanceTo t s).xfr = s.xfr := rfl
@[simp] theorem advanceTo_syn (t : Nat) : (advanceTo t s).syn = s.syn := rfl
@[simp] theorem advanceTo_tnk (t : Nat) : (advanceTo t s).tnk = s.tnk := rfl
@[simp] theorem advanceTo_dlv (t : Nat) : (advanceTo t s).dlv = s.dlv := rfl
@[simp] theorem advanceTo_mtr (t : Nat) : (advanceTo t s).mtr = s.mtr := rfl
@[simp] theorem advanceTo_stl (t : Nat) : (advanceTo t s).stl = s.stl := rfl
@[simp] theorem advanceTo_wch (t : Nat) : (advanceTo t s).wch = s.wch := rfl
@[simp] theorem advanceTo_log (t : Nat) : (advanceTo t s).log = s.log := rfl
@[simp] theorem advanceTo_pending (t : Nat) : (advanceTo t s).pending = s.pending := rfl
@[simp] theorem advanceTo_now (t : Nat) : (advanceTo t s).now = max s.now t := rfl
@[simp] theorem advanceTo_clock_now (t : Nat) : (advanceTo t s).clock = s.clock := rfl
@[simp] theorem advanceTo_port_at (t : Nat) (j : PortNo) : (advanceTo t s).port j = s.port j := rfl
@[simp] theorem advanceTo_station_at (t : Nat) (j : StationNo) : (advanceTo t s).station j = s.station j := rfl
@[simp] theorem advanceTo_source_at (t : Nat) (j : SourceNo) : (advanceTo t s).source j = s.source j := rfl
@[simp] theorem advanceTo_supply_at (t : Nat) (j : SupplyNo) : (advanceTo t s).supply j = s.supply j := rfl
@[simp] theorem advanceTo_slot_at (t : Nat) (j : SupplyNo) : (advanceTo t s).slot j = s.slot j := rfl
@[simp] theorem advanceTo_sync_at (t : Nat) (j : SyncNo) : (advanceTo t s).sync j = s.sync j := rfl
@[simp] theorem advanceTo_tank_at (t : Nat) (j : SourceNo) : (advanceTo t s).tank j = s.tank j := rfl
@[simp] theorem advanceTo_delivery_at (t : Nat) (j : SlotNo) : (advanceTo t s).delivery j = s.delivery j := rfl
@[simp] theorem advanceTo_lastEnded_at (t : Nat) (j : SourceNo) : (advanceTo t s).lastEnded j = s.lastEnded j := rfl
@[simp] theorem advanceTo_chan_at (t : Nat) (j : ChannelNo) : (advanceTo t s).chan j = s.chan j := rfl
@[simp] theorem advanceTo_account_at (t : Nat) (j : AccountNo) : (advanceTo t s).account j = s.account j := rfl
@[simp] theorem advanceTo_watch_at (t : Nat) (j : WatchNo) : (advanceTo t s).watch j = s.watch j := rfl
@[simp] theorem advanceTo_input_at (t : Nat) (n : SupplyNo) (x : Input) :
    (advanceTo t s).input n x = s.input n x := rfl

/-! ## A record written twice -/

@[simp] theorem setPort_twice (p : PortNo) (x y : Port) : setPort p y (setPort p x s) = setPort p y s := by
  simp [setPort]
@[simp] theorem setStation_twice (n : StationNo) (x y : Option Station) : setStation n y (setStation n x s) = setStation n y s := by
  simp [setStation]
@[simp] theorem setSource_twice (i : SourceNo) (x y : Source) : setSource i y (setSource i x s) = setSource i y s := by
  simp [setSource]
@[simp] theorem setSupply_twice (n : SupplyNo) (x y : Supply) : setSupply n y (setSupply n x s) = setSupply n y s := by
  simp [setSupply]
@[simp] theorem setSlot_twice (n : SupplyNo) (x y : Option Transfer) : setSlot n y (setSlot n x s) = setSlot n y s := by
  simp [setSlot]
@[simp] theorem setSync_twice (c : SyncNo) (x y : SyncChan) : setSync c y (setSync c x s) = setSync c y s := by
  simp [setSync]
@[simp] theorem setTankRec_twice (i : SourceNo) (x y : Tank) : setTankRec i y (setTankRec i x s) = setTankRec i y s := by
  simp [setTankRec]
@[simp] theorem setDelivery_twice (d : SlotNo) (x y : Option Delivery) : setDelivery d y (setDelivery d x s) = setDelivery d y s := by
  simp [setDelivery]
@[simp] theorem setLastEnded_twice (i : SourceNo) (x y : Option Delivery) : setLastEnded i y (setLastEnded i x s) = setLastEnded i y s := by
  simp [setLastEnded]
@[simp] theorem setChan_twice (c : ChannelNo) (x y : Chan) : setChan c y (setChan c x s) = setChan c y s := by
  simp [setChan]
@[simp] theorem setAccount_twice (a : AccountNo) (x y : Account) : setAccount a y (setAccount a x s) = setAccount a y s := by
  simp [setAccount]
@[simp] theorem setWatch_twice (w : WatchNo) (x y : Watch) : setWatch w y (setWatch w x s) = setWatch w y s := by
  simp [setWatch]

/-! ## Inputs -/

@[simp] theorem put_get {α : Type} (v : Abc α) (x y : Input) (r : α) :
    (v.put x r).get y = if x = y then r else v.get y := by
  cases x <;> cases y <;> rfl

@[simp] theorem setSupply_input (n : SupplyNo) (r : Supply) (m : SupplyNo) (y : Input) :
    (setSupply n r s).input m y = if n = m then r.inputs.get y else s.input m y := by
  by_cases h : n = m <;> simp [State.input, h]

@[simp] theorem setInput_input (n : SupplyNo) (x : Input) (r : InputRec) (m : SupplyNo) (y : Input) :
    (setInput n x r s).input m y = if n = m ∧ x = y then r else s.input m y := by
  by_cases h : n = m
  · subst h
    by_cases hx : x = y <;> simp [setInput, State.input, hx]
  · simp [setInput, h]

end Sys2Proof.Machine
end

