-- ==== Sys2Proof/Laws/Requests.lean ====
section
/-! SUPPORT. Laws/Requests.lean: the listing a request is judged by (R156, R157), what STN makes of a request, and what
an answer (R152), a raise (R160) and a log record (R162) change. -/

namespace Sys2Proof.Machine

/-! ## The request that a frame carries -/

/-- R152, R167: what the receiver runs for a payload is the meaning of the command it spells. -/
theorem servePassed_readRequest (rq : Request) (kind : Nat) (pl : List Byte) (s : State) :
    servePassed (readRequest rq kind pl) s = exec (readRequest rq kind pl) s := by
  unfold readRequest
  split <;> rfl

/-! ## The station a request comes from -/

/-- The test of `stationAt`, by the record. -/
theorem stationAt_some (s : State) (p : PortNo) (addr : Nat) (n : StationNo) (h : stationAt s p addr = some n) :
    ∃ st, s.station n = some st ∧ st.port = p ∧ st.addr = addr := by
  have k := List.find?_some h
  cases e : s.station n with
  | none => simp [e] at k
  | some st =>
    simp only [e, Bool.and_eq_true, beq_iff_eq] at k
    exact ⟨st, rfl, k.1, k.2⟩

/-- R156: under the address law a listed station is found by its port and its address. -/
theorem stationAt_listed (s : State) (n : StationNo) (st : Station) (law : AddressLaw s) (h : s.station n = some st) :
    stationAt s st.port st.addr = some n := by
  cases e : stationAt s st.port st.addr with
  | none =>
    have k := List.find?_eq_none.mp e n (mem_indices n)
    simp [h] at k
  | some m =>
    obtain ⟨st', h1, h2, h3⟩ := stationAt_some s _ _ m e
    rw [law m n st' st h1 h h2 h3]

/-- No listed station on the port at the address, none found. -/
theorem stationAt_none (s : State) (p : PortNo) (addr : Nat)
    (h : ∀ n st, s.station n = some st → ¬ (st.port = p ∧ st.addr = addr)) : stationAt s p addr = none := by
  cases e : stationAt s p addr with
  | none => rfl
  | some m =>
    obtain ⟨st, h1, h2, h3⟩ := stationAt_some s p addr m e
    exact absurd ⟨h2, h3⟩ (h m st h1)

@[simp] theorem enabled_advanceTo (t : Nat) (s : State) (p : PortNo) : enabled (advanceTo t s) p = enabled s p := rfl

@[simp] theorem stationAt_advanceTo (t : Nat) (s : State) (p : PortNo) (addr : Nat) :
    stationAt (advanceTo t s) p addr = stationAt s p addr := rfl

@[simp] theorem station_heard (rq : Request) (n : StationNo) (s : State) (m : StationNo) :
    (heard rq n s).station m =
      if n = m then (s.station n).map fun st => { st with lastRequest := (advanceTo rq.t s).ms } else s.station m := by
  simp [heard, touch, modStation]

@[simp] theorem hold_heard (rq : Request) (n : StationNo) (s : State) : (heard rq n s).stn.hold = s.stn.hold := rfl

@[simp] theorem heard_lnk (rq : Request) (n : StationNo) (s : State) : (heard rq n s).lnk = s.lnk := rfl
@[simp] theorem heard_src (rq : Request) (n : StationNo) (s : State) : (heard rq n s).src = s.src := rfl
@[simp] theorem heard_sup (rq : Request) (n : StationNo) (s : State) : (heard rq n s).sup = s.sup := rfl
@[simp] theorem heard_xfr (rq : Request) (n : StationNo) (s : State) : (heard rq n s).xfr = s.xfr := rfl
@[simp] theorem heard_syn (rq : Request) (n : StationNo) (s : State) : (heard rq n s).syn = s.syn := rfl
@[simp] theorem heard_tnk (rq : Request) (n : StationNo) (s : State) : (heard rq n s).tnk = s.tnk := rfl
@[simp] theorem heard_dlv (rq : Request) (n : StationNo) (s : State) : (heard rq n s).dlv = s.dlv := rfl
@[simp] theorem heard_mtr (rq : Request) (n : StationNo) (s : State) : (heard rq n s).mtr = s.mtr := rfl
@[simp] theorem heard_stl (rq : Request) (n : StationNo) (s : State) : (heard rq n s).stl = s.stl := rfl
@[simp] theorem heard_wch (rq : Request) (n : StationNo) (s : State) : (heard rq n s).wch = s.wch := rfl
@[simp] theorem heard_log (rq : Request) (n : StationNo) (s : State) : (heard rq n s).log = s.log := rfl
@[simp] theorem heard_pending (rq : Request) (n : StationNo) (s : State) : (heard rq n s).pending = s.pending := rfl
@[simp] theorem heard_now (rq : Request) (n : StationNo) (s : State) : (heard rq n s).now = max s.now rq.t := rfl
@[simp] theorem heard_clock (rq : Request) (n : StationNo) (s : State) : (heard rq n s).clock = s.clock := rfl
@[simp] theorem heard_port_at (rq : Request) (n : StationNo) (s : State) (j : PortNo) :
    (heard rq n s).port j = s.port j := rfl
@[simp] theorem heard_source_at (rq : Request) (n : StationNo) (s : State) (j : SourceNo) :
    (heard rq n s).source j = s.source j := rfl
@[simp] theorem heard_supply_at (rq : Request) (n : StationNo) (s : State) (j : SupplyNo) :
    (heard rq n s).supply j = s.supply j := rfl
@[simp] theorem heard_slot_at (rq : Request) (n : StationNo) (s : State) (j : SupplyNo) :
    (heard rq n s).slot j = s.slot j := rfl
@[simp] theorem heard_sync_at (rq : Request) (n : StationNo) (s : State) (j : SyncNo) :
    (heard rq n s).sync j = s.sync j := rfl
@[simp] theorem heard_tank_at (rq : Request) (n : StationNo) (s : State) (j : SourceNo) :
    (heard rq n s).tank j = s.tank j := rfl
@[simp] theorem heard_delivery_at (rq : Request) (n : StationNo) (s : State) (j : SlotNo) :
    (heard rq n s).delivery j = s.delivery j := rfl
@[simp] theorem heard_lastEnded_at (rq : Request) (n : StationNo) (s : State) (j : SourceNo) :
    (heard rq n s).lastEnded j = s.lastEnded j := rfl
@[simp] theorem heard_chan_at (rq : Request) (n : StationNo) (s : State) (j : ChannelNo) :
    (heard rq n s).chan j = s.chan j := rfl
@[simp] theorem heard_account_at (rq : Request) (n : StationNo) (s : State) (j : AccountNo) :
    (heard rq n s).account j = s.account j := rfl
@[simp] theorem heard_watch_at (rq : Request) (n : StationNo) (s : State) (j : WatchNo) :
    (heard rq n s).watch j = s.watch j := rfl
@[simp] theorem heard_input_at (rq : Request) (n : StationNo) (s : State) (m : SupplyNo) (x : Input) :
    (heard rq n s).input m x = s.input m x := rfl

/-! ## What STN makes of a request (R157) -/

/-- A request through a disabled port has no effect but the time. -/
theorem request_disabled (rq : Request) (k : Kind) (scope : Station → State → Bool)
    (owner : StationNo → Station → State → Done) (s : State) (h : enabled s rq.port = false) :
    request rq k scope owner s = advanceTo rq.t s := by
  simp [request, h]

/-- R152: a request that arrives while its port serves is discarded with OVERRUN. -/
theorem request_serving (rq : Request) (k : Kind) (scope : Station → State → Bool)
    (owner : StationNo → Station → State → Done) (s : State) (h : enabled s rq.port = true)
    (b : (s.port rq.port).serving = true) :
    request rq k scope owner s = setPortFlag rq.port .overrun (advanceTo rq.t s) := by
  simp [request, h, b]

/-- R157 check 1. -/
theorem request_unlisted (rq : Request) (k : Kind) (scope : Station → State → Bool)
    (owner : StationNo → Station → State → Done) (s : State) (h : enabled s rq.port = true)
    (b : (s.port rq.port).serving = false) (u : stationAt s rq.port rq.addr = none) :
    request rq k scope owner s = answer rq k.code none .denied .empty (advanceTo rq.t s) := by
  simp [request, h, b, u]

/-- R157: a request of a listed station is judged with its last-request time set. -/
theorem request_heard (rq : Request) (k : Kind) (scope : Station → State → Bool)
    (owner : StationNo → Station → State → Done) (n : StationNo) (st : Station) (s : State) (h : Heard rq n st s) :
    request rq k scope owner s = judged rq k scope owner n (requester rq st s) (heard rq n s) := by
  have a := stationAt_listed s n st h.distinct h.listed
  rw [h.onPort, h.atAddr] at a
  have e : (touch n (advanceTo rq.t s)).station n = some (requester rq st s) := by
    have := station_heard rq n s n
    simp only [heard, h.listed] at this
    simpa [requester] using this
  simp [request, h.open_, h.idle, a, e, heard]

/-- R157: a request that passes every check is handed to its owner, whose answer is the reply. -/
theorem request_taken (rq : Request) (k : Kind) (scope : Station → State → Bool)
    (owner : StationNo → Station → State → Done) (n : StationNo) (st : Station) (s : State) (h : Taken rq k n st s)
    (sc : st.role = .stage → scope (requester rq st s) (heard rq n s) = true) :
    request rq k scope owner s =
      answer rq k.code (some n) (owner n (requester rq st s) (heard rq n s)).status
        (owner n (requester rq st s) (heard rq n s)).body (owner n (requester rq st s) (heard rq n s)).state := by
  rw [request_heard rq k scope owner n st s h.toHeard]
  have r : requestRefusal rq k scope n (requester rq st s) (heard rq n s) = none := by
    have hr : (requester rq st s).role ∈ k.roles := h.role
    have hh : holdRefusal k n (heard rq n s) = none := by
      unfold holdRefusal
      cases e : k.hold with
      | false => rfl
      | true => simp [h.hold e]
    have hs : ((requester rq st s).role == .stage && !scope (requester rq st s) (heard rq n s)) = false := by
      cases e : (requester rq st s).role == .stage with
      | false => rfl
      | true => simp [sc (by simpa [requester] using e)]
    simp [requestRefusal, h.length, hr, hs, hh]
  simp [judged, r]

/-- R157: a request that passes every check, by what its owner makes of it. -/
theorem request_done (rq : Request) (k : Kind) (scope : Station → State → Bool)
    (owner : StationNo → Station → State → Done) (n : StationNo) (st : Station) (s : State) (h : Taken rq k n st s)
    (sc : st.role = .stage → scope (requester rq st s) (heard rq n s) = true) (u : State) (status : Status) (body : Body)
    (e : owner n (requester rq st s) (heard rq n s) = ⟨u, status, body⟩) :
    (.next (request rq k scope owner s) : Host.Outcome State Fault Refusal) = replied rq k n status body u := by
  rw [request_taken rq k scope owner n st s h sc, e, replied]

/-- R157 checks 3 to 5: a request that fails one is answered with the first failure. -/
theorem request_refused (rq : Request) (k : Kind) (scope : Station → State → Bool)
    (owner : StationNo → Station → State → Done) (n : StationNo) (st : Station) (s : State) (h : Heard rq n st s)
    (e : Status) (b : Body)
    (r : requestRefusal rq k scope n (requester rq st s) (heard rq n s) = some (e, b)) :
    request rq k scope owner s = answer rq k.code (some n) e b (heard rq n s) := by
  rw [request_heard rq k scope owner n st s h]
  simp [judged, r]

/-! ## Answers (R152) -/

section
variable (rq : Request) (code : Nat) (n : Option StationNo) (status : Status) (body : Body) (s : State)

/-- R152, R161: the port serves, with the reply formed. -/
theorem answer_port (p : PortNo) : (answer rq code n status body s).port p =
    if rq.port = p then
      { s.port rq.port with serving := true,
                            reply := some { dest := rq.addr, src := (s.port rq.port).current.address,
                                            kind := code + 0x80, status := status, attention := indication s n,
                                            body := body } }
    else s.port p := by
  simp [answer, modPort]

@[simp] theorem answer_now : (answer rq code n status body s).now = s.now := rfl
@[simp] theorem answer_stn : (answer rq code n status body s).stn = s.stn := rfl
@[simp] theorem answer_src : (answer rq code n status body s).src = s.src := rfl
@[simp] theorem answer_sup : (answer rq code n status body s).sup = s.sup := rfl
@[simp] theorem answer_xfr : (answer rq code n status body s).xfr = s.xfr := rfl
@[simp] theorem answer_syn : (answer rq code n status body s).syn = s.syn := rfl
@[simp] theorem answer_tnk : (answer rq code n status body s).tnk = s.tnk := rfl
@[simp] theorem answer_dlv : (answer rq code n status body s).dlv = s.dlv := rfl
@[simp] theorem answer_mtr : (answer rq code n status body s).mtr = s.mtr := rfl
@[simp] theorem answer_stl : (answer rq code n status body s).stl = s.stl := rfl
@[simp] theorem answer_wch : (answer rq code n status body s).wch = s.wch := rfl
@[simp] theorem answer_pending : (answer rq code n status body s).pending = s.pending := rfl

end

/-! ## Raises (R160) and log records (R162) -/

/-- R160: every station named keeps the detail, and no other station changes. -/
theorem raise_station (d : Detail) (who : StationNo → Station → Bool) (s : State) (n : StationNo) :
    (raise d who s).station n = (s.station n).map fun st => if who n st then withFlag d st else st := by
  simp [raise, eachStation, State.station]

/-- R162: an append changes no station but to mark a gap. -/
theorem logAppend_station (kind : LogKind) (subject v1 v2 : Option Nat) (s : State) (n : StationNo) :
    (logAppend kind subject v1 v2 s).station n =
      if s.log.next ≤ max32 ∧ Config.ringSize ≤ s.log.ring.length then
        (s.station n).map (markGap (oldestOf s.log) (oldestOf (logAppend kind subject v1 v2 s).log))
      else s.station n := by
  unfold logAppend
  by_cases h : s.log.next ≤ max32
  · by_cases k : s.log.ring.length < Config.ringSize
    · simp [h, k, Nat.not_le_of_lt k]
    · simp [h, k, eachStation, State.station, Nat.le_of_not_lt k]
  · simp [h]

section
variable (d : Detail) (who : StationNo → Station → Bool) (kind : LogKind) (subject v1 v2 : Option Nat) (s : State)

@[simp] theorem raise_now : (raise d who s).now = s.now := by simp only [raise, eachStation]
@[simp] theorem raise_lnk : (raise d who s).lnk = s.lnk := by simp only [raise, eachStation]
@[simp] theorem raise_src : (raise d who s).src = s.src := by simp only [raise, eachStation]
@[simp] theorem raise_sup : (raise d who s).sup = s.sup := by simp only [raise, eachStation]
@[simp] theorem raise_xfr : (raise d who s).xfr = s.xfr := by simp only [raise, eachStation]
@[simp] theorem raise_syn : (raise d who s).syn = s.syn := by simp only [raise, eachStation]
@[simp] theorem raise_tnk : (raise d who s).tnk = s.tnk := by simp only [raise, eachStation]
@[simp] theorem raise_dlv : (raise d who s).dlv = s.dlv := by simp only [raise, eachStation]
@[simp] theorem raise_mtr : (raise d who s).mtr = s.mtr := by simp only [raise, eachStation]
@[simp] theorem raise_stl : (raise d who s).stl = s.stl := by simp only [raise, eachStation]
@[simp] theorem raise_wch : (raise d who s).wch = s.wch := by simp only [raise, eachStation]
@[simp] theorem raise_hold : (raise d who s).stn.hold = s.stn.hold := by simp only [raise, eachStation]
@[simp] theorem raise_pending : (raise d who s).pending = s.pending := by simp only [raise, eachStation]

/-- R162: what an append leaves alone. -/
theorem logAppend_frame :
    (logAppend kind subject v1 v2 s).now = s.now ∧ (logAppend kind subject v1 v2 s).lnk = s.lnk ∧
      (logAppend kind subject v1 v2 s).stn.hold = s.stn.hold ∧ (logAppend kind subject v1 v2 s).src = s.src ∧
      (logAppend kind subject v1 v2 s).sup = s.sup ∧ (logAppend kind subject v1 v2 s).xfr = s.xfr ∧
      (logAppend kind subject v1 v2 s).syn = s.syn ∧ (logAppend kind subject v1 v2 s).tnk = s.tnk ∧
      (logAppend kind subject v1 v2 s).dlv = s.dlv ∧ (logAppend kind subject v1 v2 s).mtr = s.mtr ∧
      (logAppend kind subject v1 v2 s).stl = s.stl ∧ (logAppend kind subject v1 v2 s).wch = s.wch ∧
      (logAppend kind subject v1 v2 s).pending = s.pending := by
  unfold logAppend
  dsimp only
  (repeat' split) <;> simp [eachStation]

end

/-! ## What a raise and a log record leave alone, record by record -/

section
variable (d : Detail) (who : StationNo → Station → Bool) (kind : LogKind) (subject v1 v2 : Option Nat) (s : State)

@[simp] theorem logAppend_now : (logAppend kind subject v1 v2 s).now = s.now := by
  simp [logAppend_frame kind subject v1 v2 s]
@[simp] theorem logAppend_lnk : (logAppend kind subject v1 v2 s).lnk = s.lnk := by
  simp [logAppend_frame kind subject v1 v2 s]
@[simp] theorem logAppend_src : (logAppend kind subject v1 v2 s).src = s.src := by
  simp [logAppend_frame kind subject v1 v2 s]
@[simp] theorem logAppend_sup : (logAppend kind subject v1 v2 s).sup = s.sup := by
  simp [logAppend_frame kind subject v1 v2 s]
@[simp] theorem logAppend_xfr : (logAppend kind subject v1 v2 s).xfr = s.xfr := by
  simp [logAppend_frame kind subject v1 v2 s]
@[simp] theorem logAppend_syn : (logAppend kind subject v1 v2 s).syn = s.syn := by
  simp [logAppend_frame kind subject v1 v2 s]
@[simp] theorem logAppend_tnk : (logAppend kind subject v1 v2 s).tnk = s.tnk := by
  simp [logAppend_frame kind subject v1 v2 s]
@[simp] theorem logAppend_dlv : (logAppend kind subject v1 v2 s).dlv = s.dlv := by
  simp [logAppend_frame kind subject v1 v2 s]
@[simp] theorem logAppend_mtr : (logAppend kind subject v1 v2 s).mtr = s.mtr := by
  simp [logAppend_frame kind subject v1 v2 s]
@[simp] theorem logAppend_stl : (logAppend kind subject v1 v2 s).stl = s.stl := by
  simp [logAppend_frame kind subject v1 v2 s]
@[simp] theorem logAppend_wch : (logAppend kind subject v1 v2 s).wch = s.wch := by
  simp [logAppend_frame kind subject v1 v2 s]
@[simp] theorem logAppend_pending : (logAppend kind subject v1 v2 s).pending = s.pending := by
  simp [logAppend_frame kind subject v1 v2 s]
@[simp] theorem logAppend_hold : (logAppend kind subject v1 v2 s).stn.hold = s.stn.hold := by
  simp [logAppend_frame kind subject v1 v2 s]
@[simp] theorem raise_port_at (j : PortNo) : (raise d who s).port j = s.port j := by simp [State.port]
@[simp] theorem logAppend_port_at (j : PortNo) : (logAppend kind subject v1 v2 s).port j = s.port j := by
  simp [State.port]
@[simp] theorem raise_source_at (j : SourceNo) : (raise d who s).source j = s.source j := by simp [State.source]
@[simp] theorem logAppend_source_at (j : SourceNo) : (logAppend kind subject v1 v2 s).source j = s.source j := by
  simp [State.source]
@[simp] theorem raise_supply_at (j : SupplyNo) : (raise d who s).supply j = s.supply j := by simp [State.supply]
@[simp] theorem logAppend_supply_at (j : SupplyNo) : (logAppend kind subject v1 v2 s).supply j = s.supply j := by
  simp [State.supply]
@[simp] theorem raise_slot_at (j : SupplyNo) : (raise d who s).slot j = s.slot j := by simp [State.slot]
@[simp] theorem logAppend_slot_at (j : SupplyNo) : (logAppend kind subject v1 v2 s).slot j = s.slot j := by
  simp [State.slot]
@[simp] theorem raise_sync_at (j : SyncNo) : (raise d who s).sync j = s.sync j := by simp [State.sync]
@[simp] theorem logAppend_sync_at (j : SyncNo) : (logAppend kind subject v1 v2 s).sync j = s.sync j := by
  simp [State.sync]
@[simp] theorem raise_tank_at (j : SourceNo) : (raise d who s).tank j = s.tank j := by simp [State.tank]
@[simp] theorem logAppend_tank_at (j : SourceNo) : (logAppend kind subject v1 v2 s).tank j = s.tank j := by
  simp [State.tank]
@[simp] theorem raise_delivery_at (j : SlotNo) : (raise d who s).delivery j = s.delivery j := by simp [State.delivery]
@[simp] theorem logAppend_delivery_at (j : SlotNo) : (logAppend kind subject v1 v2 s).delivery j = s.delivery j := by
  simp [State.delivery]
@[simp] theorem raise_lastEnded_at (j : SourceNo) : (raise d who s).lastEnded j = s.lastEnded j := by simp [State.lastEnded]
@[simp] theorem logAppend_lastEnded_at (j : SourceNo) : (logAppend kind subject v1 v2 s).lastEnded j = s.lastEnded j := by
  simp [State.lastEnded]
@[simp] theorem raise_chan_at (j : ChannelNo) : (raise d who s).chan j = s.chan j := by simp [State.chan]
@[simp] theorem logAppend_chan_at (j : ChannelNo) : (logAppend kind subject v1 v2 s).chan j = s.chan j := by
  simp [State.chan]
@[simp] theorem raise_account_at (j : AccountNo) : (raise d who s).account j = s.account j := by simp [State.account]
@[simp] theorem logAppend_account_at (j : AccountNo) : (logAppend kind subject v1 v2 s).account j = s.account j := by
  simp [State.account]
@[simp] theorem raise_watch_at (j : WatchNo) : (raise d who s).watch j = s.watch j := by simp [State.watch]
@[simp] theorem logAppend_watch_at (j : WatchNo) : (logAppend kind subject v1 v2 s).watch j = s.watch j := by
  simp [State.watch]
@[simp] theorem raise_input_at (m : SupplyNo) (x : Input) : (raise d who s).input m x = s.input m x := by
  simp [State.input]
@[simp] theorem logAppend_input_at (m : SupplyNo) (x : Input) :
    (logAppend kind subject v1 v2 s).input m x = s.input m x := by simp [State.input]
@[simp] theorem raise_ms : (raise d who s).ms = s.ms := by simp [State.ms]
@[simp] theorem logAppend_ms : (logAppend kind subject v1 v2 s).ms = s.ms := by simp [State.ms]
@[simp] theorem raise_clock : (raise d who s).clock = s.clock := by simp [State.clock]
@[simp] theorem logAppend_clock : (logAppend kind subject v1 v2 s).clock = s.clock := by simp [State.clock]

end

end Sys2Proof.Machine
end

