-- ==== Sys2Proof/Laws/Kept.lean ====
section
/-! SUPPORT. Laws/Kept.lean: what the shared operations of XFR, SUP, SRC, DLV, TNK, WCH and SYN can do to the panels and to
the transfer slots, said once, for any law `P` of the state: an operation keeps every law that the few writes it is built
from keep. One lemma per shared operation. The commands that stand alone have no lemma here: a contact that changes, the
in-step report, the two starts. -/

namespace Sys2Proof.Machine

theorem kept_of_eq {P : State → Prop} {α : Type} {r : With α} {t : State} {v : α} (e : r = ⟨t, v⟩) (h : P r.state) :
    P t := by
  rw [e] at h
  exact h

theorem kept_foldl {P : State → Prop} {α : Type} (f : State → α → State) (h : ∀ s a, P s → P (f s a))
    (l : List α) (s : State) (k : P s) : P (l.foldl f s) := by
  induction l generalizing s with
  | nil => exact k
  | cons a l ih => exact ih _ (h s a k)

/-- A law kept by every write that leaves XFR's records and the contacts alone and asserts no close pulse, by every write
of a slot that keeps its ticket and makes no ended transfer fly again, and by a close command without the in-step
report. -/
structure Quiet (P : State → Prop) : Prop where
  panel : ∀ s t : State, t.xfr = s.xfr → (∀ n x, (t.input n x).aux = (s.input n x).aux ∧
    ((t.input n x).closePulse = (s.input n x).closePulse ∨ (t.input n x).closePulse = none)) → P s → P t
  slot : ∀ n f s, (∀ t : Transfer, (f t).ticket = t.ticket ∧ ((f t).result = none → t.result = none)) → P s →
    P (modSlot n f s)
  close : ∀ n x s, P s → P (commandClose n x false s)

/-- A law that the restore requests of the supplies keep too. -/
structure Base (P : State → Prop) : Prop extends Quiet P where
  restores : ∀ ns s, ns.length ≤ 12 → P s → P (restoreRequests ns s)

/-- A law that every request for a transfer keeps too. -/
structure Kept (P : State → Prop) : Prop extends Base P where
  admits : ∀ q s, P s → P (admitOrPreempt q s).state

section
variable {P : State → Prop} (k : Quiet P)
include k

/-! ## The named updates -/

theorem Quiet.on_other {s t : State} (h : P s) (e : t.sup = s.sup) (f : t.xfr = s.xfr) : P t :=
  k.panel s t f (fun n x => by simp [State.input, State.supply, e]) h

theorem Quiet.on_setSource (i : SourceNo) (r : Source) (s : State) (h : P s) : P
    (setSource i r s) := k.on_other h rfl rfl
theorem Quiet.on_setSync (c : SyncNo) (r : SyncChan) (s : State) (h : P s) : P (setSync c r s) := k.on_other h rfl rfl
theorem Quiet.on_setQueue (q : List QueueEntry) (s : State) (h : P s) : P (setQueue q s) := k.on_other h rfl rfl
theorem Quiet.on_setLimits (l : SyncLimits) (s : State) (h : P s) : P (setLimits l s) := k.on_other h rfl rfl
theorem Quiet.on_setTankRec (i : SourceNo) (r : Tank) (s : State) (h : P s) : P
    (setTankRec i r s) := k.on_other h rfl rfl
theorem Quiet.on_setPrice (v : Nat) (s : State) (h : P s) : P (setPrice v s) := k.on_other h rfl rfl
theorem Quiet.on_setDelivery (d : SlotNo) (r : Option Delivery) (s : State) (h : P s) : P (setDelivery d r s) :=
  k.on_other h rfl rfl
theorem Quiet.on_setLastEnded (i : SourceNo) (r : Option Delivery) (s : State) (h : P s) : P (setLastEnded i r s) :=
  k.on_other h rfl rfl
theorem Quiet.on_setReturns (l : List ReturnEntry) (s : State) (h : P s) : P (setReturns l s) := k.on_other h rfl rfl
theorem Quiet.on_setFill (i : SourceNo) (b : Bool) (s : State) (h : P s) : P (setFill i b s) := k.on_other h rfl rfl
theorem Quiet.on_setFillUnread (i : SourceNo) (b : Bool) (s : State) (h : P s) : P (setFillUnread i b s) :=
  k.on_other h rfl rfl
theorem Quiet.on_setWatch (w : WatchNo) (r : Watch) (s : State) (h : P s) : P (setWatch w r s) := k.on_other h rfl rfl
theorem Quiet.on_advanceTo (t : Nat) (s : State) (h : P s) : P (advanceTo t s) := k.on_other h rfl rfl
theorem Quiet.on_advanceToMs (t : Nat) (s : State) (h : P s) : P (advanceToMs t s) := k.on_other h rfl rfl
theorem Quiet.on_modSource (i : SourceNo) (f : Source → Source) (s : State) (h : P s) : P (modSource i f s) :=
  k.on_other h rfl rfl
theorem Quiet.on_modDelivery (d : SlotNo) (f : Delivery → Delivery) (s : State) (h : P s) : P (modDelivery d f s) :=
  k.on_other h rfl rfl
theorem Quiet.on_modWatch (w : WatchNo) (f : Watch → Watch) (s : State) (h : P s) : P
    (modWatch w f s) := k.on_other h rfl rfl
theorem Quiet.on_resetRuns (s : State) (h : P s) : P (resetRuns s) := k.on_other h rfl rfl
theorem Quiet.on_eachWatch (mask : Word) (f : Watch → Watch) (s : State) (h : P s) : P (eachWatch mask f s) :=
  k.on_other h (by simp only [eachWatch]) (by simp only [eachWatch])
theorem Quiet.on_syncCrossing (n : SupplyNo) (x : Input) (time period : Nat) (s : State) (h : P s) :
    P (syncCrossing n x time period s) := k.on_other h rfl rfl
omit k in
theorem Quiet.on_refuse (_ : Quiet P) (e : Status) (s : State) (h : P s) : P (refuse e s).state := h

theorem Quiet.on_raise (d : Detail) (who : StationNo → Station → Bool) (s : State) (h : P s) : P (raise d who s) :=
  k.on_other h (by simp) (by simp)
theorem Quiet.on_logAppend (kind : LogKind) (subject v1 v2 : Option Nat) (s : State) (h : P s) :
    P (logAppend kind subject v1 v2 s) := k.on_other h (by simp) (by simp)

theorem Quiet.on_modSlot (n : SupplyNo) (f : Transfer → Transfer) (s : State) (h : P s)
    (g : ∀ t : Transfer, (f t).ticket = t.ticket ∧ ((f t).result = none → t.result = none)) : P (modSlot n f s) :=
  k.slot n f s g h

theorem Quiet.on_modSupply (n : SupplyNo) (f : Supply → Supply) (s : State) (h : P s)
    (g : ∀ r x, ((f r).inputs.get x).aux = (r.inputs.get x).aux ∧
      (((f r).inputs.get x).closePulse = (r.inputs.get x).closePulse ∨ ((f r).inputs.get x).closePulse = none)) :
    P (modSupply n f s) := by
  refine k.panel s _ rfl (fun m x => ?_) h
  by_cases e : n = m
  · subst e
    simpa [modSupply, setSupply, State.input, State.supply] using g (s.supply n) x
  · simp [modSupply, setSupply, State.input, State.supply, e]

theorem Quiet.on_modInput (n : SupplyNo) (x : Input) (f : InputRec → InputRec) (s : State) (h : P s)
    (g : ∀ r, (f r).aux = r.aux ∧ ((f r).closePulse = r.closePulse ∨ (f r).closePulse = none)) :
    P (modInput n x f s) := by
  refine k.panel s _ rfl (fun m y => ?_) h
  by_cases e : n = m
  · subst e
    cases x <;> cases y <;>
      simp [modInput, setInput, setSupply, State.input, State.supply, Abc.get, Abc.put, g]
  · simp [modInput, setInput, setSupply, State.input, State.supply, e]

theorem Quiet.on_showHoldAll (value : Bool) (s : State) (h : P s) : P (showHoldAll value s) := by
  refine k.panel s _ rfl (fun n x => ?_) h
  have e : (showHoldAll value s).input n x = s.input n x := by
    by_cases d : (look s.sup n).defined = true <;> simp [showHoldAll, State.input, State.supply, d]
  rw [e]
  exact ⟨rfl, .inl rfl⟩

/-- A pulse to open asserts no close pulse. -/
theorem Quiet.on_startPulse (n : SupplyNo) (x : Input) (restart : Bool) (s : State) (h : P s) :
    P (startPulse n x .toOpen restart s) := by
  unfold startPulse
  exact k.on_modInput n x _ s h fun _ => ⟨rfl, .inl rfl⟩

theorem Quiet.on_commandClose (n : SupplyNo) (x : Input) (s : State) (h : P s) : P (commandClose n x false s) :=
  k.close n x s h

/-! ## Machine/Sync.lean -/

theorem Quiet.on_grantChannel (c : SyncNo) (n : SupplyNo) (s : State) (h : P s) :
    P (grantChannel c n s) := by
  unfold grantChannel
  try dsimp only
  (repeat' split) <;> (with_reducible repeat' first | exact h | apply k.on_setSync)

theorem Quiet.on_requestChannel (n : SupplyNo) (s : State) (h : P s) :
    P (requestChannel n s) := by
  unfold requestChannel
  try dsimp only
  (repeat' split) <;> (with_reducible repeat' first
      | exact h | apply k.on_setQueue | apply k.on_modSlot | apply k.on_grantChannel) <;>
    exact fun _ => ⟨rfl, id⟩

theorem Quiet.on_releaseChannel (ticket : Nat) (s : State) (h : P s) :
    P (releaseChannel ticket s) := by
  unfold releaseChannel
  try dsimp only
  (repeat' split) <;> (with_reducible repeat' first
      | exact h | apply k.on_setSync | apply k.on_setQueue | apply k.on_grantChannel)

/-! ## Machine/Admission.lean -/

theorem Quiet.on_openOrigin (n : SupplyNo) (t : Transfer) (s : State) (h : P s) :
    P (openOrigin n t s) := by
  unfold openOrigin
  try dsimp only
  (repeat' split) <;> (with_reducible repeat' first | exact h | apply k.on_startPulse)

theorem Quiet.on_enterOpening (n : SupplyNo) (s : State) (h : P s) :
    P (enterOpening n s) := by
  unfold enterOpening
  try dsimp only
  (repeat' split) <;> (with_reducible repeat' first | exact h | apply k.on_modSlot | apply k.on_openOrigin) <;>
    exact fun _ => ⟨rfl, id⟩

theorem Quiet.on_enterDead (n : SupplyNo) (s : State) (h : P s) :
    P (enterDead n s) := by
  unfold enterDead
  try dsimp only
  (repeat' split) <;> (with_reducible repeat' first | exact h | apply k.on_modSlot) <;>
    exact fun _ => ⟨rfl, id⟩

theorem Quiet.on_enterClosing (n : SupplyNo) (s : State) (h : P s) :
    P (enterClosing n s) := by
  unfold enterClosing
  try dsimp only
  (repeat' split) <;> (with_reducible repeat' first | exact h | apply k.on_modSlot | apply k.on_commandClose) <;>
    exact fun _ => ⟨rfl, id⟩

theorem Quiet.on_enterReclose (n : SupplyNo) (result : Result) (s : State) (h : P s) :
    P (enterReclose n result s) := by
  unfold enterReclose
  try dsimp only
  (repeat' split) <;> (with_reducible repeat' first | exact h | apply k.on_modSlot | apply k.on_commandClose) <;>
    exact fun _ => ⟨rfl, id⟩

theorem Quiet.on_enterParallelOpen (n : SupplyNo) (s : State) (h : P s) :
    P (enterParallelOpen n s) := by
  unfold enterParallelOpen
  try dsimp only
  (repeat' split) <;> (with_reducible repeat' first | exact h | apply k.on_modSlot | apply k.on_openOrigin) <;>
    exact fun _ => ⟨rfl, id⟩

theorem Quiet.on_enterSettle (n : SupplyNo) (s : State) (h : P s) :
    P (enterSettle n s) := by
  unfold enterSettle
  try dsimp only
  (repeat' split) <;> (with_reducible repeat' first | exact h | apply k.on_modSlot) <;>
    exact fun _ => ⟨rfl, id⟩

theorem Quiet.on_enterSyncWait (n : SupplyNo) (s : State) (h : P s) :
    P (enterSyncWait n s) := by
  unfold enterSyncWait
  try dsimp only
  (repeat' split) <;> (with_reducible repeat' first | exact h | apply k.on_modSlot | apply k.on_requestChannel) <;>
    exact fun _ => ⟨rfl, id⟩

theorem Quiet.on_feedFrom (n : SupplyNo) (closed : Option Input) (record : Option SourceNo) (s : State)
    (h : P s) :
    P (feedFrom n closed record s) := by
  unfold feedFrom
  try dsimp only
  (repeat' split) <;> (with_reducible repeat' first
      | exact h | apply k.on_modSupply) <;>
    exact fun _ x => by cases x <;> exact ⟨rfl, .inl rfl⟩

theorem Quiet.on_enterFirst (n : SupplyNo) (m : ModeEff) (s : State) (h : P s) :
    P (enterFirst n m s) := by
  unfold enterFirst
  try dsimp only
  (repeat' split) <;> (with_reducible repeat' first
      | exact h | apply k.on_enterOpening | apply k.on_enterClosing | apply k.on_enterSyncWait)

theorem Quiet.on_setClaim (c : Chosen) (s : State) (h : P s) :
    P (setClaim c s) := by
  unfold setClaim
  try dsimp only
  (repeat' split) <;> (with_reducible repeat' first | exact h | apply k.on_modSource)

theorem Quiet.on_restoreRefused (n : SupplyNo) (e : Status) (s : State) (h : P s) :
    P (restoreRefused n e s) := by
  unfold restoreRefused
  try dsimp only
  (repeat' split) <;> (with_reducible repeat' first
      | exact h | apply k.on_modSupply) <;>
    exact fun _ x => by cases x <;> exact ⟨rfl, .inl rfl⟩

/-! ## Machine/Moves.lean -/

theorem Quiet.on_reportBlock (d : SlotNo) (n : SupplyNo) (why : StatusOrResult) (s : State) (h : P s) :
    P (reportBlock d n why s) := by
  unfold reportBlock
  try dsimp only
  (repeat' split) <;> (with_reducible repeat' first
      | exact h | apply k.on_modDelivery | apply k.on_raise | apply k.on_logAppend)

theorem Quiet.on_putReturn (e : ReturnEntry) (s : State) (h : P s) :
    P (putReturn e s) := by
  unfold putReturn
  try dsimp only
  (repeat' split) <;> (with_reducible repeat' first | exact h | apply k.on_setReturns)

theorem Quiet.on_dropReturn (n : SupplyNo) (s : State) (h : P s) :
    P (dropReturn n s) := by
  unfold dropReturn
  try dsimp only
  (repeat' split) <;> (with_reducible repeat' first | exact h | apply k.on_setReturns)

theorem Quiet.on_abandonReturn (e : ReturnEntry) (s : State) (h : P s) :
    P (abandonReturn e s) := by
  unfold abandonReturn
  try dsimp only
  (repeat' split) <;> (with_reducible repeat' first
      | exact h | apply k.on_raise | apply k.on_logAppend | apply k.on_dropReturn)

theorem Quiet.on_unloadFailed (d : SlotNo) (n : SupplyNo) (result : Result) (s : State) (h : P s) :
    P (unloadFailed d n result s) := by
  unfold unloadFailed
  try dsimp only
  (repeat' split) <;> (with_reducible repeat' first | exact h | apply k.on_modDelivery | apply k.on_reportBlock)

theorem Quiet.on_tellUnloadFailed (n : SupplyNo) (t : Transfer) (result : Result) (s : State) (h : P s) :
    P (tellUnloadFailed n t result s) := by
  unfold tellUnloadFailed
  try dsimp only
  (repeat' split) <;> (with_reducible repeat' first
      | exact h | apply k.on_setLastEnded | apply k.on_unloadFailed)

theorem Quiet.on_tellReturnFailed (t : Transfer) (result : Result) (s : State) (h : P s) :
    P (tellReturnFailed t result s) := by
  unfold tellReturnFailed
  try dsimp only
  (repeat' split) <;> (with_reducible repeat' first | exact h | apply k.on_putReturn | apply k.on_abandonReturn)

/-! ## Machine/Preempt.lean -/

theorem Quiet.on_closeWindows (n : SupplyNo) (s : State) (h : P s) :
    P (closeWindows n s) := by
  unfold closeWindows
  try dsimp only
  (repeat' split) <;> (with_reducible repeat' first
      | exact h | apply k.on_modSupply) <;>
    exact fun _ x => by cases x <;> exact ⟨rfl, .inl rfl⟩

theorem Quiet.on_reportEnd (n : SupplyNo) (t : Transfer) (result : Result) (s : State) (h : P s) :
    P (reportEnd n t result s) := by
  unfold reportEnd
  try dsimp only
  (repeat' split) <;> (with_reducible repeat' first | exact h | apply k.on_raise | apply k.on_logAppend)

theorem Quiet.on_tellWatch (w : WatchNo) (t : Transfer) (result : Result) (s : State) (h : P s) :
    P (tellWatch w t result s) := by
  unfold tellWatch
  try dsimp only
  (repeat' split) <;> (with_reducible repeat' first | exact h | apply k.on_modWatch)

theorem Quiet.on_tellFailed (n : SupplyNo) (t : Transfer) (result : Result) (s : State) (h : P s) :
    P (tellFailed n t result s) := by
  unfold tellFailed
  try dsimp only
  (repeat' split) <;> (with_reducible repeat' first
      | exact h | apply k.on_tellUnloadFailed | apply k.on_tellReturnFailed | apply k.on_tellWatch)

end

section
variable {P : State → Prop} (k : Base P)
include k

/-! ## Restore requests, and the common steps of a transfer's end -/

theorem Base.on_restoreRequest (n : SupplyNo) (s : State) (h : P s) : P (restoreRequest n s) :=
  k.restores [n] s (by simp) h

theorem Base.on_reportAvailable (i : SourceNo) (s : State) (h : P s) : P (reportAvailable i s) :=
  k.restores _ s (List.length_filter_le _ _) h

theorem Base.on_changeSource (i : SourceNo) (f : Source → Source) (s : State) (h : P s) : P (changeSource i f s) := by
  unfold changeSource
  dsimp only
  split
  · exact k.on_reportAvailable _ _ (k.on_modSource _ _ _ h)
  · exact k.on_modSource _ _ _ h

theorem Base.on_releaseSteps (n : SupplyNo) (t : Transfer) (result : Result) (s : State) (h : P s) :
    P (releaseSteps n t result s) := by
  refine k.on_changeSource _ _ _ (k.on_closeWindows _ _ (k.on_modSlot _ _ _ (k.on_releaseChannel _ _ (k.on_modSlot _ _ _ h ?_)) ?_))
  · exact fun _ => ⟨rfl, fun e => by cases e⟩
  · exact fun _ => ⟨rfl, id⟩

theorem Base.on_endPreempted (n : SupplyNo) (s : State) (h : P s) : P (endPreempted n s) := by
  unfold endPreempted
  split
  · exact k.on_tellFailed _ _ _ _ (k.on_reportEnd _ _ _ _ (k.on_releaseSteps _ _ _ _ h))
  · exact h

end


section
variable {P : State → Prop} (k : Kept P)
include k

/-! ## Machine/Delivery.lean -/

/-! ## Machine/Delivery.lean -/

theorem Kept.on_surveyStepOne (d : SlotNo) (s : State) (h : P s) :
    P (surveyStepOne d s).state := by
  unfold surveyStepOne
  try dsimp only
  (repeat' split) <;> (with_reducible repeat' first | exact h | apply k.on_modSource | apply k.on_modDelivery)

theorem Kept.on_clearBlocked (d : SlotNo) (s : State) (h : P s) :
    P (clearBlocked d s) := by
  unfold clearBlocked
  try dsimp only
  (repeat' split) <;> (with_reducible repeat' first | exact h | apply k.on_modDelivery)

theorem Kept.on_requestUnload (d : SlotNo) (s : State) (n : SupplyNo) (h : P s) :
    P (requestUnload d s n) := by
  unfold requestUnload
  try dsimp only
  (repeat' split) <;> first
    | (rename_i e; have g := kept_of_eq e (k.admits _ s h); first
      | exact k.on_modDelivery _ _ _ g
      | exact k.on_reportBlock _ _ _ _ (k.on_modDelivery _ _ _ g))
    | exact h

theorem Kept.on_survey (d : SlotNo) (s : State) (h : P s) : P (survey d s) := by
  unfold survey
  split
  · rename_i e
    exact kept_of_eq e (k.on_surveyStepOne d s h)
  · rename_i e
    exact kept_foldl (requestUnload d) (fun s n h => k.on_requestUnload d s n h) _ _
      (k.on_clearBlocked d _ (kept_of_eq e (k.on_surveyStepOne d s h)))

theorem Kept.on_startSurveyTimer (d : SlotNo) (s : State) (h : P s) :
    P (startSurveyTimer d s) := by
  unfold startSurveyTimer
  try dsimp only
  (repeat' split) <;> (with_reducible repeat' first | exact h | apply k.on_modDelivery)

theorem Kept.on_returnAttempt (n : SupplyNo) (s : State) (h : P s) : P (returnAttempt n s) := by
  unfold returnAttempt
  try dsimp only
  (repeat' split) <;> first
    | (rename_i e; exact k.on_putReturn _ _ (kept_of_eq e (k.admits _ s h)))
    | exact k.on_dropReturn _ _ h
    | exact h

theorem Kept.on_makeReturn (i : SourceNo) (d : SlotNo) (s : State) (m : MovedEntry) (h : P s) :
    P (makeReturn i d s m) := by
  unfold makeReturn
  try dsimp only
  (repeat' split) <;> (with_reducible repeat' first | exact h | apply k.on_putReturn | apply k.on_returnAttempt)

theorem Kept.on_tankCredit (i : SourceNo) (credit : Nat) (s : State) (h : P s) :
    P (tankCredit i credit s) := by
  unfold tankCredit
  try dsimp only
  (repeat' split) <;> (with_reducible repeat' first | exact h | apply k.on_setTankRec)

theorem Kept.on_endDelivery (d : SlotNo) (st : DeliveryState) (credit : Nat) (s : State) (h : P s) :
    P (endDelivery d st credit s) := by
  unfold endDelivery
  split
  · dsimp only
    apply k.on_raise
    apply k.on_logAppend
    apply k.on_setDelivery
    apply k.on_setLastEnded
    apply kept_foldl _ (fun s m h => k.on_makeReturn _ _ s m h)
    (repeat' split) <;> (with_reducible repeat' first
      | exact h | apply k.on_changeSource | apply k.on_tankCredit | apply k.on_setDelivery)
  · exact h

theorem Kept.on_raiseLoaded (d : SlotNo) (s : State) (h : P s) :
    P (raiseLoaded d s) := by
  unfold raiseLoaded
  try dsimp only
  (repeat' split) <;> (with_reducible repeat' first | exact h | apply k.on_raise)

theorem Kept.on_loadedByHand (i : SourceNo) (s : State) (h : P s) :
    P (loadedByHand i s) := by
  unfold loadedByHand
  try dsimp only
  (repeat' split) <;> (with_reducible repeat' first
      | exact h | apply k.on_modDelivery | apply k.on_survey | apply k.on_startSurveyTimer
      | apply k.on_raiseLoaded)

/-! ## Machine/Panel.lean -/

theorem Kept.on_markFaulted (n : SupplyNo) (x : Input) (dir : Dir) (s : State) (h : P s) :
    P (markFaulted n x dir s) := by
  unfold markFaulted
  try dsimp only
  (repeat' split) <;> (with_reducible repeat' first
      | exact h | apply k.on_logAppend | apply k.on_modInput) <;>
    exact fun _ => ⟨rfl, .inl rfl⟩

theorem Kept.on_clearWaiting (n : SupplyNo) (s : State) (h : P s) :
    P (clearWaiting n s) := by
  unfold clearWaiting
  try dsimp only
  (repeat' split) <;> (with_reducible repeat' first
      | exact h | apply k.on_modSupply) <;>
    exact fun _ x => by cases x <;> exact ⟨rfl, .inl rfl⟩

theorem Kept.on_derived (n : SupplyNo) (st : SupplyState) (closed : Option Input) (record : Option SourceNo)
    (s : State) (h : P s) :
    P (derived n st closed record s) := by
  unfold derived
  try dsimp only
  (repeat' split) <;> (with_reducible repeat' first
      | exact h | apply k.on_modSupply) <;>
    exact fun _ x => by cases x <;> exact ⟨rfl, .inl rfl⟩

theorem Kept.on_reportTrip (n : SupplyNo) (x : Input) (s : State) (h : P s) :
    P (reportTrip n x s) := by
  unfold reportTrip
  try dsimp only
  (repeat' split) <;> (with_reducible repeat' first | exact h | apply k.on_raise | apply k.on_logAppend)

theorem Kept.on_restoreIfSet (n : SupplyNo) (s : State) (h : P s) :
    P (restoreIfSet n s) := by
  unfold restoreIfSet
  try dsimp only
  (repeat' split) <;> (with_reducible repeat' first | exact h | apply k.on_restoreRequest)

theorem Kept.on_panelFault (n : SupplyNo) (x : Input) (closed : Bool) (s : State) (h : P s) :
    P (panelFault n x closed s) := by
  unfold panelFault
  try dsimp only
  (repeat' split) <;> (with_reducible repeat' first
      | exact h | apply k.on_raise | apply k.on_changeSource | apply k.on_loadedByHand
      | apply k.on_derived)

theorem Kept.on_logUncommanded (n : SupplyNo) (x : Input) (closed : Bool) (s : State) (h : P s) :
    P (logUncommanded n x closed s) := by
  unfold logUncommanded
  try dsimp only
  (repeat' split) <;> (with_reducible repeat' first | exact h | apply k.on_logAppend)

theorem Kept.on_deriveFault (n : SupplyNo) (s : State) (h : P s) :
    P (deriveFault n s) := by
  unfold deriveFault
  try dsimp only
  (repeat' split) <;> (with_reducible repeat' first
      | exact h | apply k.on_raise | apply k.on_clearWaiting | apply k.on_derived)

theorem Kept.on_deriveOne (n : SupplyNo) (x : Input) (s : State) (h : P s) :
    P (deriveOne n x s) := by
  unfold deriveOne
  try dsimp only
  (repeat' split) <;> (with_reducible repeat' first
      | exact h | apply k.on_clearWaiting | apply k.on_derived | apply k.on_reportTrip
      | apply k.on_restoreIfSet | apply k.on_panelFault | apply k.on_logUncommanded
      | apply k.on_deriveFault)

theorem Kept.on_derive (n : SupplyNo) (s : State) (h : P s) :
    P (derive n s) := by
  unfold derive
  try dsimp only
  (repeat' split) <;> (with_reducible repeat' first
      | exact h | apply k.on_derived | apply k.on_restoreIfSet | apply k.on_deriveFault
      | apply k.on_deriveOne)

/-! ## Machine/TransferEnd.lean -/

theorem Kept.on_unloadDone (d : SlotNo) (n : SupplyNo) (t : Transfer) (s : State) (h : P s) :
    P (unloadDone d n t s) := by
  unfold unloadDone
  try dsimp only
  (repeat' split) <;> (with_reducible repeat' first
      | exact h | apply k.on_modDelivery | apply k.on_surveyStepOne)

theorem Kept.on_lateUnloadDone (i : SourceNo) (r : Delivery) (n : SupplyNo) (t : Transfer) (s : State)
    (h : P s) :
    P (lateUnloadDone i r n t s) := by
  unfold lateUnloadDone
  try dsimp only
  (repeat' split) <;> (with_reducible repeat' first | exact h | apply k.on_setLastEnded | apply k.on_makeReturn)

theorem Kept.on_tellUnloadDone (n : SupplyNo) (t : Transfer) (s : State) (h : P s) :
    P (tellUnloadDone n t s) := by
  unfold tellUnloadDone
  try dsimp only
  (repeat' split) <;> (with_reducible repeat' first
      | exact h | apply k.on_unloadDone | apply k.on_lateUnloadDone)

theorem Kept.on_tellReturnDone (t : Transfer) (s : State) (h : P s) :
    P (tellReturnDone t s) := by
  unfold tellReturnDone
  try dsimp only
  (repeat' split) <;> (with_reducible repeat' first | exact h | apply k.on_dropReturn)

theorem Kept.on_tellCompleted (n : SupplyNo) (t : Transfer) (result : Result) (s : State) (h : P s) :
    P (tellCompleted n t result s) := by
  unfold tellCompleted
  try dsimp only
  (repeat' split) <;> (with_reducible repeat' first
      | exact h | apply k.on_tellWatch | apply k.on_tellUnloadDone | apply k.on_tellReturnDone)

theorem Kept.on_tellOriginator (n : SupplyNo) (t : Transfer) (result : Result) (s : State) (h : P s) :
    P (tellOriginator n t result s) := by
  unfold tellOriginator
  try dsimp only
  (repeat' split) <;> (with_reducible repeat' first
      | exact h | apply k.on_tellFailed | apply k.on_tellCompleted)

theorem Kept.on_afterEnd (a : After) (n : SupplyNo) (s : State) (h : P s) :
    P (afterEnd a n s) := by
  unfold afterEnd
  try dsimp only
  (repeat' split) <;> (with_reducible repeat' first | exact h | apply k.on_derived | apply k.on_derive)

theorem Kept.on_raiseFault (n : SupplyNo) (x : Option Input) (s : State) (h : P s) :
    P (raiseFault n x s) := by
  unfold raiseFault
  try dsimp only
  (repeat' split) <;> (with_reducible repeat' first | exact h | apply k.on_raise)

theorem Kept.on_endWith (a : After) (fault : Option Input) (n : SupplyNo) (result : Result) (s : State)
    (h : P s) :
    P (endWith a fault n result s) := by
  unfold endWith
  try dsimp only
  (repeat' split) <;> (with_reducible repeat' first
      | exact h | apply k.on_releaseSteps | apply k.on_reportEnd | apply k.on_tellOriginator
      | apply k.on_afterEnd | apply k.on_raiseFault)

theorem Kept.on_endTransfer (n : SupplyNo) (result : Result) (s : State) (h : P s) :
    P (endTransfer n result s) := by
  unfold endTransfer
  try dsimp only
  (repeat' split) <;> (with_reducible repeat' first | exact h | apply k.on_endWith)

theorem Kept.on_endBoth (n : SupplyNo) (x : Input) (s : State) (h : P s) :
    P (endBoth n x s) := by
  unfold endBoth
  try dsimp only
  (repeat' split) <;> (with_reducible repeat' first | exact h | apply k.on_endWith)

theorem Kept.on_uncommanded (n : SupplyNo) (x : Input) (closed : Bool) (s : State) (h : P s) :
    P (uncommanded n x closed s) := by
  unfold uncommanded
  try dsimp only
  (repeat' split) <;> (with_reducible repeat' first
      | exact h | apply k.on_panelFault | apply k.on_logUncommanded | apply k.on_endTransfer)

/-! ## Machine/Transfers.lean -/

theorem Kept.on_ownerTransfer (supply target mode priority : Nat) (n : StationNo) (st : Station) (s : State)
    (h : P s) : P (ownerTransfer supply target mode priority n st s).state := by
  unfold ownerTransfer
  try dsimp only
  (repeat' split) <;> first
    | (rename_i e; exact kept_of_eq e (k.admits _ s h))
    | exact h

theorem Kept.on_takeGrant (n : SupplyNo) (s : State) (h : P s) :
    P (takeGrant n s) := by
  unfold takeGrant
  try dsimp only
  (repeat' split) <;> (with_reducible repeat' first | exact h | apply k.on_modSlot) <;>
    exact fun _ => ⟨rfl, id⟩

theorem Kept.on_leaveSync (n : SupplyNo) (t : Transfer) (s : State) (h : P s) :
    P (leaveSync n t s) := by
  unfold leaveSync
  try dsimp only
  (repeat' split) <;> (with_reducible repeat' first | exact h | apply k.on_modSlot | apply k.on_releaseChannel) <;>
    exact fun _ => ⟨rfl, id⟩

theorem Kept.on_syncTimeout (n : SupplyNo) (s : State) (h : P s) :
    P (syncTimeout n s) := by
  unfold syncTimeout
  try dsimp only
  (repeat' split) <;> (with_reducible repeat' first
      | exact h | apply k.on_advanceToMs | apply k.on_modSlot | apply k.on_enterOpening
      | apply k.on_endTransfer | apply k.on_leaveSync) <;>
    exact fun _ => ⟨rfl, id⟩

theorem Kept.on_convertToBreak (n : SupplyNo) (t : Transfer) (s : State) (h : P s) :
    P (convertToBreak n t s) := by
  unfold convertToBreak
  try dsimp only
  (repeat' split) <;> (with_reducible repeat' first
      | exact h | apply k.on_modSlot | apply k.on_enterOpening | apply k.on_leaveSync) <;>
    exact fun _ => ⟨rfl, id⟩

theorem Kept.on_handleTrip (n : SupplyNo) (t : Transfer) (x : Input) (s : State) (h : P s) :
    P (handleTrip n t x s) := by
  unfold handleTrip
  try dsimp only
  (repeat' split) <;> (with_reducible repeat' first
      | exact h | apply k.on_modSlot | apply k.on_endTransfer | apply k.on_convertToBreak) <;>
    exact fun _ => ⟨rfl, id⟩

theorem Kept.on_takeTripReport (n : SupplyNo) (s : State) (h : P s) :
    P (takeTripReport n s) := by
  unfold takeTripReport
  try dsimp only
  (repeat' split) <;> (with_reducible repeat' first | exact h | apply k.on_modSlot | apply k.on_handleTrip) <;>
    exact fun _ => ⟨rfl, id⟩

theorem Kept.on_afterOpening (n : SupplyNo) (t : Transfer) (s : State) (h : P s) :
    P (afterOpening n t s) := by
  unfold afterOpening
  try dsimp only
  (repeat' split) <;> (with_reducible repeat' first
      | exact h | apply k.on_enterDead | apply k.on_enterClosing | apply k.on_enterReclose
      | apply k.on_endTransfer)

theorem Kept.on_originOpened (n : SupplyNo) (t : Transfer) (s : State) (h : P s) :
    P (originOpened n t s) := by
  unfold originOpened
  try dsimp only
  (repeat' split) <;> (with_reducible repeat' first | exact h | apply k.on_enterSettle | apply k.on_feedFrom)

theorem Kept.on_confirmed (n : SupplyNo) (x : Input) (closed : Bool) (s : State) (h : P s) :
    P (confirmed n x closed s) := by
  unfold confirmed
  try dsimp only
  (repeat' split) <;> (with_reducible repeat' first
      | exact h | apply k.on_enterParallelOpen | apply k.on_enterSettle | apply k.on_feedFrom
      | apply k.on_endTransfer | apply k.on_afterOpening | apply k.on_originOpened)

theorem Kept.on_closingTimedOut (n : SupplyNo) (t : Transfer) (s : State) (h : P s) :
    P (closingTimedOut n t s) := by
  unfold closingTimedOut
  try dsimp only
  (repeat' split) <;> (with_reducible repeat' first
      | exact h | apply k.on_enterReclose | apply k.on_markFaulted | apply k.on_endTransfer)

theorem Kept.on_timedOut (n : SupplyNo) (x : Input) (dir : Dir) (s : State) (h : P s) :
    P (timedOut n x dir s) := by
  unfold timedOut
  try dsimp only
  (repeat' split) <;> (with_reducible repeat' first
      | exact h | apply k.on_markFaulted | apply k.on_endTransfer | apply k.on_endBoth
      | apply k.on_closingTimedOut)

theorem Kept.on_overlapExpiry (n : SupplyNo) (s : State) (h : P s) :
    P (overlapExpiry n s) := by
  unfold overlapExpiry
  try dsimp only
  (repeat' split) <;> (with_reducible repeat' first
      | exact h | apply k.on_advanceToMs | apply k.on_modSlot | apply k.on_startPulse
      | apply k.on_markFaulted) <;>
    exact fun _ => ⟨rfl, id⟩

theorem Kept.on_deadTimeExpiry (n : SupplyNo) (s : State) (h : P s) :
    P (deadTimeExpiry n s) := by
  unfold deadTimeExpiry
  try dsimp only
  (repeat' split) <;> (with_reducible repeat' first
      | exact h | apply k.on_advanceToMs | apply k.on_enterClosing | apply k.on_enterReclose)

theorem Kept.on_settleTimeExpiry (n : SupplyNo) (s : State) (h : P s) :
    P (settleTimeExpiry n s) := by
  unfold settleTimeExpiry
  try dsimp only
  (repeat' split) <;> (with_reducible repeat' first | exact h | apply k.on_advanceToMs | apply k.on_endTransfer)

theorem Kept.on_abortEffect (n : SupplyNo) (t : Transfer) (s : State) (h : P s) :
    P (abortEffect n t s).state := by
  unfold abortEffect
  try dsimp only
  (repeat' split) <;> (with_reducible repeat' first
      | exact h | apply k.on_modSlot | apply k.on_refuse | apply k.on_enterReclose
      | apply k.on_endTransfer) <;>
    exact fun _ => ⟨rfl, id⟩

theorem Kept.on_ownerAbort (supply ticket : Nat) (m : StationNo) (st : Station) (s : State) (h : P s) :
    P (ownerAbort supply ticket m st s).state := by
  unfold ownerAbort
  try dsimp only
  (repeat' split) <;> (with_reducible repeat' first | exact h | apply k.on_refuse | apply k.on_abortEffect)

theorem Kept.on_ownerReadTransfer (supply : Nat) (m : StationNo) (st : Station) (s : State) (h : P s) :
    P (ownerReadTransfer supply m st s).state := by
  unfold ownerReadTransfer
  try dsimp only
  (repeat' split) <;> (with_reducible repeat' first | exact h | apply k.on_refuse)

/-! ## Machine/Supplies.lean -/

theorem Kept.on_afterDefine (n : SupplyNo) (before : Supply) (s : State) (h : P s) :
    P (afterDefine n before s) := by
  unfold afterDefine
  try dsimp only
  (repeat' split) <;> (with_reducible repeat' first
      | exact h | apply k.on_clearWaiting | apply k.on_restoreIfSet | apply k.on_derive)

theorem Kept.on_ownerDefineSupply (supply : Nat) (fields : Option SupplyFields) (m : StationNo) (st : Station)
    (s : State) (h : P s) :
    P (ownerDefineSupply supply fields m st s).state := by
  unfold ownerDefineSupply
  try dsimp only
  (repeat' split) <;> (with_reducible repeat' first
      | exact h | apply k.on_refuse | apply k.on_modSupply | apply k.on_afterDefine) <;>
    exact fun _ x => by cases x <;> exact ⟨rfl, .inl rfl⟩

theorem Kept.on_watchSettle (n : SupplyNo) (x : Input) (before : Bool) (s : State) (h : P s) :
    P (watchSettle n x before s) := by
  unfold watchSettle
  try dsimp only
  (repeat' split) <;> (with_reducible repeat' first | exact h | apply k.on_modSlot) <;>
    exact fun _ => ⟨rfl, id⟩

theorem Kept.on_restored (n : SupplyNo) (x : Input) (s : State) (h : P s) :
    P (restored n x s) := by
  unfold restored
  try dsimp only
  (repeat' split) <;> (with_reducible repeat' first
      | exact h | apply k.on_logAppend | apply k.on_clearWaiting | apply k.on_derived)

theorem Kept.on_gained (n : SupplyNo) (x : Input) (s : State) (h : P s) :
    P (gained n x s) := by
  unfold gained
  try dsimp only
  (repeat' split) <;> (with_reducible repeat' first | exact h | apply k.on_restoreRequest | apply k.on_restored)

theorem Kept.on_senseCrossing (n : SupplyNo) (x : Input) (s : State) (h : P s) :
    P (senseCrossing n x s) := by
  unfold senseCrossing
  try dsimp only
  (repeat' split) <;> (with_reducible repeat' first
      | exact h | apply k.on_modInput | apply k.on_syncCrossing | apply k.on_watchSettle
      | apply k.on_gained) <;>
    exact fun _ => ⟨rfl, .inl rfl⟩

theorem Kept.on_voltageLoss (n : SupplyNo) (x : Input) (s : State) (h : P s) :
    P (voltageLoss n x s) := by
  unfold voltageLoss
  try dsimp only
  (repeat' split) <;> (with_reducible repeat' first
      | exact h | apply k.on_advanceTo | apply k.on_modInput | apply k.on_watchSettle) <;>
    exact fun _ => ⟨rfl, .inl rfl⟩

theorem Kept.on_tripLive (n : SupplyNo) (x : Input) (s : State) (h : P s) :
    P (tripLive n x s) := by
  unfold tripLive
  try dsimp only
  (repeat' split) <;> (with_reducible repeat' first
      | exact h | apply k.on_derived | apply k.on_reportTrip | apply k.on_restoreIfSet)

theorem Kept.on_tripInTransfer (n : SupplyNo) (x : Input) (s : State) (h : P s) :
    P (tripInTransfer n x s) := by
  unfold tripInTransfer
  try dsimp only
  (repeat' split) <;> (with_reducible repeat' first
      | exact h | apply k.on_modSlot | apply k.on_modSupply | apply k.on_reportTrip) <;>
    first
    | exact fun _ x => by cases x <;> exact ⟨rfl, .inl rfl⟩
    | exact fun _ => ⟨rfl, id⟩

theorem Kept.on_supplyTrip (n : SupplyNo) (s : State) (h : P s) :
    P (supplyTrip n s) := by
  unfold supplyTrip
  try dsimp only
  (repeat' split) <;> (with_reducible repeat' first
      | exact h | apply k.on_advanceToMs | apply k.on_tripLive | apply k.on_tripInTransfer)

theorem Kept.on_closeWindow (n : SupplyNo) (x : Input) (s : State) (h : P s) :
    P (closeWindow n x s) := by
  unfold closeWindow
  try dsimp only
  (repeat' split) <;> (with_reducible repeat' first
      | exact h | apply k.on_modInput) <;>
    exact fun _ => ⟨rfl, .inl rfl⟩

theorem Kept.on_judgeChange (n : SupplyNo) (x : Input) (closed : Bool) (w : Option Window) (s : State)
    (h : P s) :
    P (judgeChange n x closed w s) := by
  unfold judgeChange
  try dsimp only
  (repeat' split) <;> (with_reducible repeat' first
      | exact h | apply k.on_derive | apply k.on_uncommanded | apply k.on_confirmed
      | apply k.on_closeWindow)

theorem Kept.on_restartTimedOut (n : SupplyNo) (x : Input) (dir : Dir) (s : State) (h : P s) :
    P (restartTimedOut n x dir s) := by
  unfold restartTimedOut
  try dsimp only
  (repeat' split) <;> (with_reducible repeat' first | exact h | apply k.on_raise | apply k.on_markFaulted)

theorem Kept.on_confirmTimeout (n : SupplyNo) (x : Input) (s : State) (h : P s) :
    P (confirmTimeout n x s) := by
  unfold confirmTimeout
  try dsimp only
  (repeat' split) <;> (with_reducible repeat' first
      | exact h | apply k.on_advanceToMs | apply k.on_timedOut | apply k.on_closeWindow
      | apply k.on_restartTimedOut)

theorem Kept.on_pulseEnd (n : SupplyNo) (x : Input) (dir : Dir) (s : State) (h : P s) :
    P (pulseEnd n x dir s) := by
  unfold pulseEnd
  (repeat' split) <;> first
    | exact h
    | exact k.on_modInput _ _ _ _ (k.on_advanceToMs _ _ h) fun _ => ⟨rfl, .inr rfl⟩
    | exact k.on_modInput _ _ _ _ (k.on_advanceToMs _ _ h) fun _ => ⟨rfl, .inl rfl⟩

theorem Kept.on_clearFaulted (n : SupplyNo) (s : State) (h : P s) :
    P (clearFaulted n s) := by
  unfold clearFaulted
  try dsimp only
  (repeat' split) <;> (with_reducible repeat' first
      | exact h | apply k.on_modSupply) <;>
    exact fun _ x => by cases x <;> exact ⟨rfl, .inl rfl⟩

theorem Kept.on_ownerClearFault (supply : Nat) (m : StationNo) (st : Station) (s : State) (h : P s) :
    P (ownerClearFault supply m st s).state := by
  unfold ownerClearFault
  try dsimp only
  (repeat' split) <;> (with_reducible repeat' first
      | exact h | apply k.on_refuse | apply k.on_derive | apply k.on_clearFaulted)

theorem Kept.on_ownerShowHold (value : Bool) (supply : Nat) (m : StationNo) (st : Station) (s : State)
    (h : P s) :
    P (ownerShowHold value supply m st s).state := by
  unfold ownerShowHold
  try dsimp only
  (repeat' split) <;> (with_reducible repeat' first
      | exact h | apply k.on_refuse | apply k.on_modSupply | apply k.on_showHoldAll) <;>
    exact fun _ x => by cases x <;> exact ⟨rfl, .inl rfl⟩

theorem Kept.on_ownerReadSupply (supply : Nat) (m : StationNo) (st : Station) (s : State) (h : P s) :
    P (ownerReadSupply supply m st s).state := by
  unfold ownerReadSupply
  try dsimp only
  (repeat' split) <;> (with_reducible repeat' first | exact h | apply k.on_refuse)

/-! ## Machine/Fuel.lean -/

theorem Kept.on_ownerSetTank (source capacity floor level : Nat) (m : StationNo) (st : Station) (s : State)
    (h : P s) :
    P (ownerSetTank source capacity floor level m st s).state := by
  unfold ownerSetTank
  try dsimp only
  (repeat' split) <;> (with_reducible repeat' first | exact h | apply k.on_setTankRec | apply k.on_refuse)

theorem Kept.on_ownerReadTank (source : Nat) (m : StationNo) (st : Station) (s : State) (h : P s) :
    P (ownerReadTank source m st s).state := by
  unfold ownerReadTank
  try dsimp only
  (repeat' split) <;> (with_reducible repeat' first | exact h | apply k.on_refuse)

theorem Kept.on_startCold (d : SlotNo) (i : SourceNo) (s : State) (h : P s) :
    P (startCold d i s) := by
  unfold startCold
  try dsimp only
  (repeat' split) <;> (with_reducible repeat' first
      | exact h | apply k.on_modSource | apply k.on_survey | apply k.on_startSurveyTimer)

theorem Kept.on_arm (d : SlotNo) (f : ArmFields) (s : State) (h : P s) :
    P (arm d f s) := by
  unfold arm
  try dsimp only
  (repeat' split) <;> (with_reducible repeat' first
      | exact h | apply k.on_setDelivery | apply k.on_logAppend | apply k.on_startCold)

theorem Kept.on_ownerArmDelivery (fields : Option ArmFields) (m : StationNo) (st : Station) (s : State)
    (h : P s) :
    P (ownerArmDelivery fields m st s).state := by
  unfold ownerArmDelivery
  try dsimp only
  (repeat' split) <;> (with_reducible repeat' first | exact h | apply k.on_refuse | apply k.on_arm)

theorem Kept.on_surveyExpiry (d : SlotNo) (s : State) (h : P s) :
    P (surveyExpiry d s) := by
  unfold surveyExpiry
  try dsimp only
  (repeat' split) <;> (with_reducible repeat' first
      | exact h | apply k.on_advanceToMs | apply k.on_modDelivery | apply k.on_survey
      | apply k.on_startSurveyTimer)

theorem Kept.on_openDelivery (d : SlotNo) (r : Delivery) (loaded : Bool) (s : State) (h : P s) :
    P (openDelivery d r loaded s) := by
  unfold openDelivery
  try dsimp only
  (repeat' split) <;> (with_reducible repeat' first
      | exact h | apply k.on_modDelivery | apply k.on_logAppend | apply k.on_raiseLoaded)

theorem Kept.on_reopen (d : SlotNo) (s : State) (h : P s) :
    P (reopen d s) := by
  unfold reopen
  try dsimp only
  (repeat' split) <;> (with_reducible repeat' first | exact h | apply k.on_modDelivery)

theorem Kept.on_reportUnarmed (i : SourceNo) (slot : Option SlotNo) (s : State) (h : P s) :
    P (reportUnarmed i slot s) := by
  unfold reportUnarmed
  try dsimp only
  (repeat' split) <;> (with_reducible repeat' first | exact h | apply k.on_raise | apply k.on_logAppend)

theorem Kept.on_unarmedFill (d : SlotNo) (i : SourceNo) (s : State) (h : P s) :
    P (unarmedFill d i s) := by
  unfold unarmedFill
  try dsimp only
  (repeat' split) <;> (with_reducible repeat' first
      | exact h | apply k.on_setDelivery | apply k.on_reportUnarmed)

theorem Kept.on_closeUnarmed (i : SourceNo) (s : State) (h : P s) :
    P (closeUnarmed i s) := by
  unfold closeUnarmed
  try dsimp only
  (repeat' split) <;> (with_reducible repeat' first
      | exact h | apply k.on_reportUnarmed | apply k.on_unarmedFill)

theorem Kept.on_fillClosed (i : SourceNo) (s : State) (h : P s) :
    P (fillClosed i s) := by
  unfold fillClosed
  try dsimp only
  (repeat' split) <;> (with_reducible repeat' first
      | exact h | apply k.on_openDelivery | apply k.on_reopen | apply k.on_closeUnarmed)

theorem Kept.on_endUnarmed (d : SlotNo) (r : Delivery) (s : State) (h : P s) :
    P (endUnarmed d r s) := by
  unfold endUnarmed
  try dsimp only
  (repeat' split) <;> (with_reducible repeat' first | exact h | apply k.on_setDelivery | apply k.on_endDelivery)

theorem Kept.on_fillOpened (i : SourceNo) (s : State) (h : P s) :
    P (fillOpened i s) := by
  unfold fillOpened
  try dsimp only
  (repeat' split) <;> (with_reducible repeat' first | exact h | apply k.on_modDelivery | apply k.on_endUnarmed)

theorem Kept.on_compareFill (i : SourceNo) (closed : Bool) (s : State) (h : P s) :
    P (compareFill i closed s) := by
  unfold compareFill
  try dsimp only
  (repeat' split) <;> (with_reducible repeat' first | exact h | apply k.on_fillClosed | apply k.on_fillOpened)

theorem Kept.on_ownerMeterReading (reference register : Nat) (m : StationNo) (st : Station) (s : State)
    (h : P s) :
    P (ownerMeterReading reference register m st s).state := by
  unfold ownerMeterReading
  try dsimp only
  (repeat' split) <;> (with_reducible repeat' first | exact h | apply k.on_setDelivery | apply k.on_refuse)

theorem Kept.on_closeFilled (d : SlotNo) (r : Delivery) (s : State) (h : P s) :
    P (closeFilled d r s) := by
  unfold closeFilled
  try dsimp only
  (repeat' split) <;> (with_reducible repeat' first | exact h | apply k.on_setDelivery | apply k.on_endDelivery)

theorem Kept.on_ownerCloseDelivery (reference register : Nat) (m : StationNo) (st : Station) (s : State)
    (h : P s) :
    P (ownerCloseDelivery reference register m st s).state := by
  unfold ownerCloseDelivery
  try dsimp only
  (repeat' split) <;> (with_reducible repeat' first | exact h | apply k.on_refuse | apply k.on_closeFilled)

theorem Kept.on_finishExpiry (d : SlotNo) (s : State) (h : P s) :
    P (finishExpiry d s) := by
  unfold finishExpiry
  try dsimp only
  (repeat' split) <;> (with_reducible repeat' first | exact h | apply k.on_advanceToMs | apply k.on_closeFilled)

theorem Kept.on_ownerCancel (reference : Nat) (m : StationNo) (st : Station) (s : State) (h : P s) :
    P (ownerCancel reference m st s).state := by
  unfold ownerCancel
  try dsimp only
  (repeat' split) <;> (with_reducible repeat' first | exact h | apply k.on_refuse | apply k.on_endDelivery)

theorem Kept.on_armExpiry (d : SlotNo) (s : State) (h : P s) :
    P (armExpiry d s) := by
  unfold armExpiry
  try dsimp only
  (repeat' split) <;> (with_reducible repeat' first | exact h | apply k.on_advanceToMs | apply k.on_endDelivery)

theorem Kept.on_returnTimer (n : SupplyNo) (s : State) (h : P s) :
    P (returnTimer n s) := by
  unfold returnTimer
  try dsimp only
  (repeat' split) <;> (with_reducible repeat' first
      | exact h | apply k.on_advanceToMs | apply k.on_returnAttempt)

theorem Kept.on_windowExpiry (n : SupplyNo) (s : State) (h : P s) :
    P (windowExpiry n s) := by
  unfold windowExpiry
  try dsimp only
  (repeat' split) <;> (with_reducible repeat' first
      | exact h | apply k.on_advanceToMs | apply k.on_putReturn | apply k.on_abandonReturn)

theorem Kept.on_ownerReadDelivery (source : Nat) (m : StationNo) (st : Station) (s : State) (h : P s) :
    P (ownerReadDelivery source m st s).state := by
  unfold ownerReadDelivery
  try dsimp only
  (repeat' split) <;> (with_reducible repeat' first | exact h | apply k.on_refuse)

/-! ## Machine/Watches.lean -/

theorem Kept.on_logWatchFired (w : WatchNo) (v : Word) (second : Nat) (s : State) (h : P s) :
    P (logWatchFired w v second s) := by
  unfold logWatchFired
  try dsimp only
  (repeat' split) <;> (with_reducible repeat' first | exact h | apply k.on_logAppend)

theorem Kept.on_fireNotify (w : WatchNo) (v : Word) (s : State) (h : P s) :
    P (fireNotify w v s) := by
  unfold fireNotify
  try dsimp only
  (repeat' split) <;> (with_reducible repeat' first
      | exact h | apply k.on_modWatch | apply k.on_raise | apply k.on_logWatchFired)

theorem Kept.on_watchRefused (w : WatchNo) (v : Word) (e : Status) (s : State) (h : P s) :
    P (watchRefused w v e s) := by
  unfold watchRefused
  try dsimp only
  (repeat' split) <;> (with_reducible repeat' first | exact h | apply k.on_modWatch | apply k.on_raise)

theorem Kept.on_askTransfer (w : WatchNo) (v : Word) (retry : Bool) (s : State) (h : P s) :
    P (askTransfer w v retry s) := by
  unfold askTransfer
  split
  · split <;> rename_i e <;> have g := kept_of_eq e (k.admits _ s h) <;>
      with_reducible repeat' first
        | exact g
        | apply k.on_modWatch
        | apply k.on_logWatchFired
        | apply k.on_watchRefused
  · exact h

theorem Kept.on_fire (w : WatchNo) (v : Word) (s : State) (h : P s) :
    P (fire w v s) := by
  unfold fire
  try dsimp only
  (repeat' split) <;> (with_reducible repeat' first | exact h | apply k.on_fireNotify | apply k.on_askTransfer)

theorem Kept.on_countTrue (w : WatchNo) (v : Word) (s : State) (h : P s) :
    P (countTrue w v s) := by
  unfold countTrue
  try dsimp only
  (repeat' split) <;> (with_reducible repeat' first | exact h | apply k.on_modWatch | apply k.on_fire)

theorem Kept.on_countRetry (w : WatchNo) (v : Option Word) (s : State) (h : P s) :
    P (countRetry w v s) := by
  unfold countRetry
  try dsimp only
  (repeat' split) <;> (with_reducible repeat' first | exact h | apply k.on_modWatch | apply k.on_askTransfer)

theorem Kept.on_moveWatch (w : WatchNo) (v : Option Word) (s : State) (h : P s) :
    P (moveWatch w v s) := by
  unfold moveWatch
  try dsimp only
  (repeat' split) <;> (with_reducible repeat' first
      | exact h | apply k.on_modWatch | apply k.on_countTrue | apply k.on_countRetry)

theorem Kept.on_sampleWatch (s : State) (w : WatchNo) (h : P s) :
    P (sampleWatch s w) := by
  unfold sampleWatch
  try dsimp only
  (repeat' split) <;> (with_reducible repeat' first | exact h | apply k.on_modWatch | apply k.on_moveWatch)

theorem Kept.on_sampleAll (s : State) (h : P s) : P (sampleAll s) :=
  kept_foldl sampleWatch k.on_sampleWatch _ _ h

theorem Kept.on_ownerDefineWatch (entry : Nat) (f : WatchReq) (m : StationNo) (st : Station) (s : State)
    (h : P s) :
    P (ownerDefineWatch entry f m st s).state := by
  unfold ownerDefineWatch
  try dsimp only
  (repeat' split) <;> (with_reducible repeat' first | exact h | apply k.on_modWatch | apply k.on_refuse)

theorem Kept.on_ownerReadWatch (entry : Nat) (m : StationNo) (st : Station) (s : State) (h : P s) :
    P (ownerReadWatch entry m st s).state := by
  unfold ownerReadWatch
  try dsimp only
  (repeat' split) <;> (with_reducible repeat' first | exact h | apply k.on_refuse)

/-! ## Machine/Sources.lean -/

theorem Kept.on_ownerHire (source : Nat) (fields : Option Hire) (m : StationNo) (st : Station) (s : State)
    (h : P s) :
    P (ownerHire source fields m st s).state := by
  unfold ownerHire
  try dsimp only
  (repeat' split) <;> (with_reducible repeat' first
      | exact h | apply k.on_modSource | apply k.on_logAppend | apply k.on_refuse)

theorem Kept.on_ownerOffHire (source : Nat) (m : StationNo) (st : Station) (s : State) (h : P s) :
    P (ownerOffHire source m st s).state := by
  unfold ownerOffHire
  try dsimp only
  (repeat' split) <;> (with_reducible repeat' first
      | exact h | apply k.on_modSource | apply k.on_logAppend | apply k.on_refuse)

theorem Kept.on_logFresh (i : SourceNo) (wasStale : Bool) (t : Telemetry) (s : State) (h : P s) :
    P (logFresh i wasStale t s) := by
  unfold logFresh
  try dsimp only
  (repeat' split) <;> (with_reducible repeat' first | exact h | apply k.on_logAppend)

theorem Kept.on_alertImplausible (i : SourceNo) (newly : Bool) (s : State) (h : P s) :
    P (alertImplausible i newly s) := by
  unfold alertImplausible
  try dsimp only
  (repeat' split) <;> (with_reducible repeat' first | exact h | apply k.on_raise)

theorem Kept.on_takeReport (i : SourceNo) (running : Bool) (load voltage freq gauge : Nat) (alarms : BitVec 8)
    (s : State) (h : P s) :
    P (takeReport i running load voltage freq gauge alarms s) := by
  unfold takeReport
  try dsimp only
  (repeat' split) <;> (with_reducible repeat' first
      | exact h | apply k.on_changeSource | apply k.on_logFresh | apply k.on_alertImplausible)

theorem Kept.on_ownerReport (source running load voltage freq gauge : Nat) (alarms : BitVec 8) (m : StationNo)
    (st : Station) (s : State) (h : P s) :
    P (ownerReport source running load voltage freq gauge alarms m st s).state := by
  unfold ownerReport
  try dsimp only
  (repeat' split) <;> (with_reducible repeat' first | exact h | apply k.on_refuse | apply k.on_takeReport)

theorem Kept.on_staleExpiry (i : SourceNo) (s : State) (h : P s) :
    P (staleExpiry i s) := by
  unfold staleExpiry
  try dsimp only
  (repeat' split) <;> (with_reducible repeat' first
      | exact h | apply k.on_advanceToMs | apply k.on_modSource | apply k.on_raise
      | apply k.on_logAppend)

theorem Kept.on_ownerReadSource (source : Nat) (m : StationNo) (st : Station) (s : State) (h : P s) :
    P (ownerReadSource source m st s).state := by
  unfold ownerReadSource
  try dsimp only
  (repeat' split) <;> (with_reducible repeat' first | exact h | apply k.on_refuse)

end

end Sys2Proof.Machine
end

