-- ==== Sys2Proof/Laws/Closing.lean ====
section
/-! SUPPORT. Laws/Closing.lean: R25's law, as a law that every shared operation keeps (Laws/Kept.lean): an operation
asserts a close pulse only with every other input of the supply open. The command that carries the in-step report
(commandClose with its flag set, enterParallelClose, takeInStep) is the one exception. -/

namespace Sys2Proof.Machine

/-- R25's law, against the close pulses `p` that a command found: an input whose close pulse is asserted anew has every
other input of its supply open. -/
def Closing (p : SupplyNo → Input → Option Nat) (s : State) : Prop :=
  ∀ n x, (s.input n x).closePulse ≠ none → (s.input n x).closePulse ≠ p n x →
    ∀ y, y ≠ x → (s.input n y).aux = false

/-- A command finds the pulses that it finds. -/
theorem closing_found (s : State) : Closing (fun n x => (s.input n x).closePulse) s :=
  fun _ _ _ k => absurd rfl k

section
variable {p : SupplyNo → Input → Option Nat}

/-- A change that leaves every contact as it is, and asserts no close pulse. -/
theorem closing_panel {s t : State} (h : Closing p s)
    (k : ∀ n x, (t.input n x).aux = (s.input n x).aux ∧
      ((t.input n x).closePulse = (s.input n x).closePulse ∨ (t.input n x).closePulse = none)) : Closing p t := by
  intro n x a b y c
  rcases (k n x).2 with e | e
  · rw [(k n y).1]
    rw [e] at a b
    exact h n x a b y c
  · exact absurd e a

/-- A change that leaves the supplies alone. -/
theorem closing_sup {s t : State} (h : Closing p s) (e : t.sup = s.sup) : Closing p t := by
  apply closing_panel h
  intro n x
  simp [State.input, State.supply, e]

/-- R25: a pulse to close, with every other input of the supply open. -/
theorem closing_startClose (n : SupplyNo) (x : Input) (s : State) (h : Closing p s) (o : othersOpen s n x = true) :
    Closing p (startPulse n x .toClose false s) := by
  have g : ∀ m y, ((startPulse n x .toClose false s).input m y).aux = (s.input m y).aux := by
    intro m y
    by_cases e : n = m
    · subst e
      cases x <;> cases y <;>
        simp [startPulse, modInput, setInput, setSupply, State.input, State.supply, Abc.get, Abc.put]
    · simp [startPulse, modInput, setInput, setSupply, State.input, State.supply, e]
  intro m y a b z c
  rw [g]
  by_cases e : n = m ∧ x = y
  · obtain ⟨rfl, rfl⟩ := e
    simp only [othersOpen, allInputs, List.all_cons, List.all_nil, Bool.and_true, Bool.and_eq_true, Bool.or_eq_true,
      beq_iff_eq, Bool.not_eq_true'] at o
    cases z <;> simp_all
  · have k : (startPulse n x .toClose false s).input m y = s.input m y := by
      by_cases e1 : n = m
      · subst e1
        have e2 : x ≠ y := fun q => e ⟨rfl, q⟩
        cases x <;> cases y <;>
          simp_all [startPulse, modInput, setInput, setSupply, State.input, State.supply, Abc.get, Abc.put]
      · simp [startPulse, modInput, setInput, setSupply, State.input, State.supply, e1]
    rw [k] at a b
    exact h m y a b z c

theorem closing_commandClose (n : SupplyNo) (x : Input) (s : State) (h : Closing p s) :
    Closing p (commandClose n x false s) := by
  unfold commandClose
  split
  · rename_i o
    exact closing_startClose n x s h (by simpa using o)
  · exact h

theorem closing_quiet : Quiet (Closing p) where
  panel _ _ _ g h := closing_panel h g
  slot _ _ _ _ h := h
  close n x s h := closing_commandClose n x s h

/-! ## Admission -/

theorem closing_chooseTarget (pre : Option Nat) (q : Ask) (s : State) (h : Closing p s) :
    Closing p (chooseTarget pre q s).state := by
  unfold chooseTarget
  (repeat' split) <;> exact h

theorem closing_judge (q : Ask) (s : State) (h : Closing p s) : Closing p (judge q s).state := by
  unfold judge
  split
  · exact h
  · exact closing_chooseTarget _ _ _ h

theorem closing_beginTransfer (q : Ask) (k : Chosen) (trip : Option Input) (s : State) (h : Closing p s) :
    Closing p (beginTransfer q k trip s) := by
  refine closing_quiet.on_enterFirst _ _ _ (closing_quiet.on_modSupply _ _ _ ?_ ?_)
  · exact h
  · exact fun _ x => by cases x <;> exact ⟨rfl, .inl rfl⟩

theorem closing_claimAndBegin (q : Ask) (k : Chosen) (s : State) (h : Closing p s) :
    Closing p (claimAndBegin q k s).state := by
  unfold claimAndBegin
  split
  · exact h
  · exact closing_beginTransfer _ _ _ _ h

theorem closing_admission (q : Ask) (s : State) (h : Closing p s) : Closing p (admission q s).state := by
  have g := closing_judge q s h
  unfold admission
  split <;> rename_i e
  · exact kept_of_eq e g
  · exact closing_claimAndBegin _ _ _ (kept_of_eq e g)

theorem closing_judgeRestores (ns : List SupplyNo) (s : State) (h : Closing p s) :
    Closing p (judgeRestores ns s).state := by
  have g : ∀ (l : List SupplyNo) (a : With (List (SupplyNo × Except Status Chosen))), Closing p a.state →
      Closing p (l.foldl (fun acc n => ⟨(judge (restoreAsk n) acc.state).state,
        acc.val ++ [(n, (judge (restoreAsk n) acc.state).val)]⟩) a).state := by
    intro l
    induction l with
    | nil => intro a k; exact k
    | cons n l ih => intro a k; exact ih _ (closing_judge _ _ k)
  exact g ns ⟨s, []⟩ h

theorem closing_takeRestore (s : State) (v : SupplyNo × Except Status Chosen) (h : Closing p s) :
    Closing p (takeRestore s v) := by
  unfold takeRestore
  split
  · exact closing_quiet.on_restoreRefused _ _ _ h
  · rename_i c _
    have g := closing_claimAndBegin (restoreAsk v.1) c s h
    split <;> rename_i e
    · exact closing_quiet.on_restoreRefused _ _ _ (kept_of_eq e g)
    · exact kept_of_eq e g

theorem closing_base : Base (Closing p) where
  toQuiet := closing_quiet
  restores ns s _ h := kept_foldl takeRestore closing_takeRestore _ _ (closing_judgeRestores ns s h)

theorem closing_preempt (q : Ask) (t : Transfer) (s : State) (h : Closing p s) : Closing p (preempt q t s).state := by
  have g := closing_chooseTarget (some t.ticket) q s h
  unfold preempt
  split <;> rename_i e
  · exact kept_of_eq e g
  · split
    · exact kept_of_eq e g
    · exact closing_beginTransfer _ _ _ _
        (closing_base.on_endPreempted _ _ (closing_quiet.on_setClaim _ _ (kept_of_eq e g)))

/-- R25: every shared operation keeps the law. -/
theorem closing_kept : Kept (Closing p) where
  toBase := closing_base
  admits q s h := by
    unfold admitOrPreempt
    split
    · exact h
    · split
      · split
        · exact closing_preempt _ _ _ h
        · exact h
      · exact closing_admission _ _ h

end

end Sys2Proof.Machine
end

