-- ==== Sys2Proof/Laws/Figures.lean ====
section
/-! SUPPORT. Laws/Figures.lean: what the figures derived from the records can be: sums over a table, the bits of a
status word (R169), a tank as it is read (R87), and the transfer in flight on a supply. -/

namespace Sys2Proof.Machine

theorem foldl_add_eq_sum {α : Type} (f : α → Nat) (l : List α) (k : Nat) :
    l.foldl (fun a i => a + f i) k = k + (l.map f).sum := by
  induction l generalizing k with
  | nil => simp
  | cons a l ih => simp [ih]; omega

/-- The sum of a table's figures, as a list's sum. -/
theorem total_eq_sum {n : Nat} (f : Fin n → Nat) : total f = ((indices n).map f).sum := by
  simp [total, foldl_add_eq_sum]

theorem getLsbD_or_bit (w : Word) (k b : Nat) :
    (w ||| 1#32 <<< k).getLsbD b = (w.getLsbD b || (decide (b < 32) && k == b)) := by
  rw [BitVec.getLsbD_or, BitVec.getLsbD_shiftLeft]
  by_cases hk : k = b
  · subst hk; simp
  · have : b < k ∨ b - k ≠ 0 := by omega
    rcases this with h | h <;> simp [hk, h]

theorem getLsbD_foldl_flags (flags : List (Nat × Bool)) (w : Word) (b : Nat) :
    (flags.foldl (fun w f => if f.2 then w ||| (1#32 <<< f.1) else w) w).getLsbD b =
      (w.getLsbD b || (decide (b < 32) && flags.any fun f => f.2 && f.1 == b)) := by
  induction flags generalizing w with
  | nil => simp
  | cons f flags ih =>
    rw [List.foldl_cons, ih]
    rcases f with ⟨k, v⟩
    cases v
    · simp
    · simp only [if_true, getLsbD_or_bit, List.any_cons, Bool.true_and, Bool.or_assoc, Bool.and_or_distrib_left]

/-- R169: a bit of a status word is set exactly where a flag of its position is true. -/
theorem statusWord_getLsbD (flags : List (Nat × Bool)) (b : Nat) :
    (statusWord flags).getLsbD b = (decide (b < 32) && flags.any fun f => f.2 && f.1 == b) := by
  simp [statusWord, getLsbD_foldl_flags]

/-- R87: a tank as it is read is the tank, but for the last rate of an OFF_HIRE source. -/
theorem tankAsRead_eq (k : Tank) (r : Source) :
    tankAsRead k r = { k with lastRate := if r.state = .offHire then 0 else k.lastRate } := by
  by_cases h : r.state = .offHire <;> simp [tankAsRead, h]

/-- R39: the transfer in flight on a supply is its slot's, with no result. -/
theorem inFlight_eq_some (s : State) (n : SupplyNo) (t : Transfer) :
    inFlight s n = some t ↔ s.slot n = some t ∧ t.result = none := by
  unfold inFlight
  cases s.slot n with
  | none => simp
  | some v => simp; exact ⟨fun ⟨h, e⟩ => ⟨e, e ▸ h⟩, fun ⟨e, h⟩ => ⟨e ▸ h, e⟩⟩

/-- The same in one phase. -/
theorem inPhase_eq_some (s : State) (n : SupplyNo) (p : Phase) (t : Transfer) :
    inPhase s n p = some t ↔ (s.slot n = some t ∧ t.result = none) ∧ t.phase = p := by
  rw [← inFlight_eq_some]
  unfold inPhase inPhases
  cases inFlight s n with
  | none => simp
  | some v => simp; exact ⟨fun ⟨h, e⟩ => ⟨e, e ▸ h⟩, fun ⟨e, h⟩ => ⟨e ▸ h, e⟩⟩

end Sys2Proof.Machine
end

