-- ==== Sys2Proof/Laws/Log.lean ====
section
/-! SUPPORT. Laws/Log.lean: how the log grows (R162). Every operation leaves a sound ring sound and never lowers the next
sequence number. -/

namespace Sys2Proof.Machine

/-- The log `b` comes after the log `a`: its next number is no lower, and it is sound if `a` was. -/
structure Grows (a b : Log) : Prop where
  next : a.next ≤ b.next
  sound : RingSound a → RingSound b

@[simp] theorem grows_refl (a : Log) : Grows a a := ⟨Nat.le_refl _, id⟩

theorem grows_trans {a b c : Log} (h : Grows a b) (k : Grows b c) : Grows a c :=
  ⟨Nat.le_trans h.1 k.1, fun r => k.2 (h.2 r)⟩

/-- A record more in a ring that is not full. -/
theorem sound_add (l : Log) (r : LogRecord) (hr : r.seq = l.next) (hlen : l.ring.length < Config.ringSize)
    (h : RingSound l) : RingSound { ring := l.ring ++ [r], next := l.next + 1 } := by
  obtain ⟨h1, h2, h3⟩ := h
  have hn := h3 hlen
  refine ⟨by simp; omega, ?_, fun _ => by simp; omega⟩
  intro k hk
  simp only [List.length_append, List.length_singleton] at hk ⊢
  by_cases hkl : k < l.ring.length
  · rw [List.getElem_append_left hkl]
    have := h2 k hkl
    omega
  · have e : k = l.ring.length := by omega
    subst e
    simp [hr]
    omega

/-- A record more in a full ring, in place of the oldest. -/
theorem sound_replace (l : Log) (r : LogRecord) (hr : r.seq = l.next) (hlen : ¬ l.ring.length < Config.ringSize)
    (h : RingSound l) : RingSound { ring := l.ring.drop 1 ++ [r], next := l.next + 1 } := by
  obtain ⟨h1, h2, h3⟩ := h
  have hlen' : l.ring.length = Config.ringSize := by omega
  have hpos : 0 < l.ring.length := by rw [hlen']; decide
  refine ⟨by simp; omega, ?_, fun hl => by simp at hl; omega⟩
  intro k hk
  simp only [List.length_append, List.length_drop, List.length_singleton] at hk ⊢
  by_cases hkl : k < (l.ring.drop 1).length
  · rw [List.getElem_append_left hkl, List.getElem_drop]
    simp only [List.length_drop] at hkl
    have := h2 (1 + k) (by omega)
    omega
  · simp only [List.length_drop] at hkl
    have e : k = l.ring.length - 1 := by omega
    subst e
    rw [List.getElem_append_right (by simp)]
    simp [hr]
    omega

@[simp] theorem eachStation_log (f : StationNo → Station → Station) (s : State) : (eachStation f s).log = s.log := by
  simp only [eachStation]
@[simp] theorem raise_log (d : Detail) (who : StationNo → Station → Bool) (s : State) :
    (raise d who s).log = s.log := by
  simp only [raise, eachStation_log]

/-- R162: what an append makes of the log. -/
theorem logAppend_log (kind : LogKind) (subject v1 v2 : Option Nat) (s : State) :
    (logAppend kind subject v1 v2 s).log =
      if s.log.next ≤ max32 then
        { ring := (if s.log.ring.length < Config.ringSize then s.log.ring else s.log.ring.drop 1) ++
            [{ seq := s.log.next, time := s.clock, kind := kind, subject := subject, v1 := v1, v2 := v2 }],
          next := s.log.next + 1 }
      else s.log := by
  unfold logAppend
  by_cases h : s.log.next ≤ max32 <;> by_cases k : s.log.ring.length < Config.ringSize <;> simp [h, k]

theorem logAppend_grows (kind : LogKind) (subject v1 v2 : Option Nat) (s : State) :
    Grows s.log (logAppend kind subject v1 v2 s).log := by
  rw [logAppend_log]
  split
  · split
    · exact ⟨Nat.le_succ _, sound_add _ _ rfl ‹_›⟩
    · exact ⟨Nat.le_succ _, sound_replace _ _ rfl ‹_›⟩
  · exact grows_refl _

@[simp] theorem grows_logAppend {b : Log} (kind : LogKind) (subject v1 v2 : Option Nat) (s : State)
    (h : Grows b s.log) : Grows b (logAppend kind subject v1 v2 s).log :=
  grows_trans h (logAppend_grows kind subject v1 v2 s)

theorem grows_foldl {α : Type} {b : Log} (f : State → α → State) (h : ∀ s a, Grows b s.log → Grows b (f s a).log)
    (l : List α) (s : State) (k : Grows b s.log) : Grows b (l.foldl f s).log := by
  induction l generalizing s with
  | nil => exact k
  | cons a l ih => exact ih _ (h s a k)

/-- The state in a result whose parts are named. -/
theorem grows_of_eq {α : Type} {b : Log} {r : With α} {t : State} {v : α} (e : r = ⟨t, v⟩) (h : Grows b r.state.log) :
    Grows b t.log := by
  rw [e] at h
  exact h

/-! ## Operations that leave the log alone -/

@[simp] theorem modSource_log (i : SourceNo) (f : Source → Source) (s : State) : (modSource i f s).log = s.log := rfl
@[simp] theorem modSupply_log (n : SupplyNo) (f : Supply → Supply) (s : State) : (modSupply n f s).log = s.log := rfl
@[simp] theorem modInput_log (n : SupplyNo) (x : Input) (f : InputRec → InputRec) (s : State) :
    (modInput n x f s).log = s.log := rfl
@[simp] theorem modSlot_log (n : SupplyNo) (f : Transfer → Transfer) (s : State) : (modSlot n f s).log = s.log := rfl
@[simp] theorem modDelivery_log (d : SlotNo) (f : Delivery → Delivery) (s : State) :
    (modDelivery d f s).log = s.log := rfl
@[simp] theorem modWatch_log (w : WatchNo) (f : Watch → Watch) (s : State) : (modWatch w f s).log = s.log := rfl
@[simp] theorem modPort_log (p : PortNo) (f : Port → Port) (s : State) : (modPort p f s).log = s.log := rfl
@[simp] theorem modStation_log (n : StationNo) (f : Station → Station) (s : State) :
    (modStation n f s).log = s.log := rfl
@[simp] theorem modChan_log (c : ChannelNo) (f : Chan → Chan) (s : State) : (modChan c f s).log = s.log := rfl
@[simp] theorem setInput_log (n : SupplyNo) (x : Input) (r : InputRec) (s : State) :
    (setInput n x r s).log = s.log := rfl
@[simp] theorem advanceToMs_log (t : Nat) (s : State) : (advanceToMs t s).log = s.log := rfl
@[simp] theorem touch_log (n : StationNo) (s : State) : (touch n s).log = s.log := rfl
@[simp] theorem setHeader_log (k : Bank) (h : BankHeader) (s : State) : (setHeader k h s).log = s.log := by
  cases k <;> rfl
@[simp] theorem resetRuns_log (s : State) : (resetRuns s).log = s.log := by
  simp only [resetRuns]
@[simp] theorem showHoldAll_log (value : Bool) (s : State) : (showHoldAll value s).log = s.log := by
  simp only [showHoldAll]
@[simp] theorem eachWatch_log (mask : Word) (f : Watch → Watch) (s : State) : (eachWatch mask f s).log = s.log := by
  simp only [eachWatch]
@[simp] theorem syncCrossing_log (n : SupplyNo) (x : Input) (time period : Nat) (s : State) :
    (syncCrossing n x time period s).log = s.log := by
  simp only [syncCrossing]
@[simp] theorem answer_log (rq : Request) (code : Nat) (n : Option StationNo) (status : Status) (body : Body)
    (s : State) :
    (answer rq code n status body s).log = s.log := rfl
@[simp] theorem fileInto_log (serial : Nat) (f : SettleRec → SettleRec) (s : State) :
    (fileInto serial f s).log = s.log := rfl
@[simp] theorem announceHire_log (serial : Nat) (s : State) : (announceHire serial s).log = s.log := by
  simp only [announceHire, fileInto_log, closeHire]
@[simp] theorem announceMatrix_log (serial : Nat) (s : State) : (announceMatrix serial s).log = s.log := by
  simp only [announceMatrix, fileInto_log, closeMatrix]
@[simp] theorem announceDark_log (serial : Nat) (s : State) : (announceDark serial s).log = s.log := by
  simp only [announceDark, fileInto_log, closeDark]
@[simp] theorem markGoneAll_log (m : StationNo) (s : State) : (markGoneAll m s).log = s.log := by
  simp only [markGoneAll]
@[simp] theorem setRx_log (p : PortNo) (rx : Rx) (s : State) : (setRx p rx s).log = s.log := rfl
@[simp] theorem emptyBank_log (k : Bank) (s : State) : (emptyBank k s).log = s.log := by
  simp only [emptyBank]
@[simp] theorem setClosePending_log (k : Bool) (s : State) : (setClosePending k s).log = s.log := rfl
@[simp] theorem tickOwners_log (order : TickOrder) (s : State) : (tickOwners order s).log = s.log := by
  unfold tickOwners
  cases order.meterFirst <;> simp [tickTanks, tickChannels, tickSupplies, tickSources]
@[simp] theorem tickClock_log (s : State) : (tickClock s).log = s.log := rfl
@[simp] theorem warmPorts_log (s : State) : (warmPorts s).log = s.log := by
  simp only [warmPorts]
@[simp] theorem warmSources_log (s : State) : (warmSources s).log = s.log := by
  simp only [warmSources]
@[simp] theorem warmSyn_log (s : State) : (warmSyn s).log = s.log := by
  simp only [warmSyn]
@[simp] theorem warmTanks_log (s : State) : (warmTanks s).log = s.log := by
  simp only [warmTanks]
@[simp] theorem warmChannels_log (found : Found) (s : State) : (warmChannels found s).log = s.log := by
  simp only [warmChannels]
@[simp] theorem warmWatches_log (s : State) : (warmWatches s).log = s.log := by
  simp only [warmWatches]
@[simp] theorem warmDeliveries_log (found : Found) (s : State) : (warmDeliveries found s).log = s.log := by
  simp only [warmDeliveries]
@[simp] theorem warmStations_log (s : State) : (warmStations s).log = s.log := by
  simp only [warmStations, setHold_log, eachStation_log]
@[simp] theorem warmLines_log (found : Found) (s : State) : (warmLines found s).log = s.log := by
  simp only [warmLines]
@[simp] theorem outage_log (elapsed : Nat) (s : State) : (outage elapsed s).log = s.log := rfl

/-! ## Machine/Sync.lean -/

@[simp] theorem grows_grantChannel {b : Log} (c : SyncNo) (n : SupplyNo) (s : State)
    (h : Grows b s.log) : Grows b (grantChannel c n s).log := by
  unfold grantChannel
  try dsimp only
  (repeat' split) <;> first | with_reducible exact h | simp -implicitDefEqProofs [h]

@[simp] theorem grows_requestChannel {b : Log} (n : SupplyNo) (s : State)
    (h : Grows b s.log) : Grows b (requestChannel n s).log := by
  unfold requestChannel
  try dsimp only
  (repeat' split) <;> first | with_reducible exact h | simp -implicitDefEqProofs [h]

@[simp] theorem grows_releaseChannel {b : Log} (ticket : Nat) (s : State)
    (h : Grows b s.log) : Grows b (releaseChannel ticket s).log := by
  unfold releaseChannel
  try dsimp only
  (repeat' split) <;> first | with_reducible exact h | simp -implicitDefEqProofs [h]

/-! ## Machine/Admission.lean -/

@[simp] theorem grows_startPulse {b : Log} (n : SupplyNo) (x : Input) (dir : Dir) (restart : Bool) (s : State)
    (h : Grows b s.log) : Grows b (startPulse n x dir restart s).log := by
  unfold startPulse
  try dsimp only
  (repeat' split) <;> first | with_reducible exact h | simp -implicitDefEqProofs [h]

@[simp] theorem grows_commandClose {b : Log} (n : SupplyNo) (x : Input) (inStep : Bool) (s : State)
    (h : Grows b s.log) : Grows b (commandClose n x inStep s).log := by
  unfold commandClose
  try dsimp only
  (repeat' split) <;> first | with_reducible exact h | simp -implicitDefEqProofs [h]

@[simp] theorem grows_openOrigin {b : Log} (n : SupplyNo) (t : Transfer) (s : State)
    (h : Grows b s.log) : Grows b (openOrigin n t s).log := by
  unfold openOrigin
  try dsimp only
  (repeat' split) <;> first | with_reducible exact h | simp -implicitDefEqProofs [h]

@[simp] theorem grows_enterOpening {b : Log} (n : SupplyNo) (s : State)
    (h : Grows b s.log) : Grows b (enterOpening n s).log := by
  unfold enterOpening
  try dsimp only
  (repeat' split) <;> first | with_reducible exact h | simp -implicitDefEqProofs [h]

@[simp] theorem grows_enterDead {b : Log} (n : SupplyNo) (s : State)
    (h : Grows b s.log) : Grows b (enterDead n s).log := by
  unfold enterDead
  try dsimp only
  first | with_reducible exact h | simp -implicitDefEqProofs [h]

@[simp] theorem grows_enterClosing {b : Log} (n : SupplyNo) (s : State)
    (h : Grows b s.log) : Grows b (enterClosing n s).log := by
  unfold enterClosing
  try dsimp only
  (repeat' split) <;> first | with_reducible exact h | simp -implicitDefEqProofs [h]

@[simp] theorem grows_enterReclose {b : Log} (n : SupplyNo) (result : Result) (s : State)
    (h : Grows b s.log) : Grows b (enterReclose n result s).log := by
  unfold enterReclose
  try dsimp only
  (repeat' split) <;> first | with_reducible exact h | simp -implicitDefEqProofs [h]

@[simp] theorem grows_enterParallelClose {b : Log} (n : SupplyNo) (s : State)
    (h : Grows b s.log) : Grows b (enterParallelClose n s).log := by
  unfold enterParallelClose
  try dsimp only
  (repeat' split) <;> first | with_reducible exact h | simp -implicitDefEqProofs [h]

@[simp] theorem grows_enterParallelOpen {b : Log} (n : SupplyNo) (s : State)
    (h : Grows b s.log) : Grows b (enterParallelOpen n s).log := by
  unfold enterParallelOpen
  try dsimp only
  (repeat' split) <;> first | with_reducible exact h | simp -implicitDefEqProofs [h]

@[simp] theorem grows_enterSettle {b : Log} (n : SupplyNo) (s : State)
    (h : Grows b s.log) : Grows b (enterSettle n s).log := by
  unfold enterSettle
  try dsimp only
  first | with_reducible exact h | simp -implicitDefEqProofs [h]

@[simp] theorem grows_enterSyncWait {b : Log} (n : SupplyNo) (s : State)
    (h : Grows b s.log) : Grows b (enterSyncWait n s).log := by
  unfold enterSyncWait
  try dsimp only
  first | with_reducible exact h | simp -implicitDefEqProofs [h]

@[simp] theorem grows_feedFrom {b : Log} (n : SupplyNo) (closed : Option Input) (record : Option SourceNo) (s : State)
    (h : Grows b s.log) : Grows b (feedFrom n closed record s).log := by
  unfold feedFrom
  try dsimp only
  first | with_reducible exact h | simp -implicitDefEqProofs [h]

@[simp] theorem grows_drawTicket {b : Log} (s : State)
    (h : Grows b s.log) : Grows b (drawTicket s).log := by
  unfold drawTicket
  try dsimp only
  first | with_reducible exact h | simp -implicitDefEqProofs [h]

@[simp] theorem grows_chooseTarget {b : Log} (pre : Option Nat) (q : Ask) (s : State)
    (h : Grows b s.log) : Grows b (chooseTarget pre q s).state.log := by
  unfold chooseTarget
  try dsimp only
  (repeat' split) <;> first | with_reducible exact h | simp -implicitDefEqProofs [h]

@[simp] theorem grows_enterFirst {b : Log} (n : SupplyNo) (m : ModeEff) (s : State)
    (h : Grows b s.log) : Grows b (enterFirst n m s).log := by
  unfold enterFirst
  try dsimp only
  (repeat' split) <;> first | with_reducible exact h | simp -implicitDefEqProofs [h]

@[simp] theorem grows_beginTransfer {b : Log} (q : Ask) (k : Chosen) (trip : Option Input) (s : State)
    (h : Grows b s.log) : Grows b (beginTransfer q k trip s).log := by
  unfold beginTransfer
  try dsimp only
  first | with_reducible exact h | simp -implicitDefEqProofs [h]

@[simp] theorem grows_setClaim {b : Log} (k : Chosen) (s : State)
    (h : Grows b s.log) : Grows b (setClaim k s).log := by
  unfold setClaim
  try dsimp only
  first | with_reducible exact h | simp -implicitDefEqProofs [h]

@[simp] theorem grows_claimAndBegin {b : Log} (q : Ask) (k : Chosen) (s : State)
    (h : Grows b s.log) : Grows b (claimAndBegin q k s).state.log := by
  unfold claimAndBegin
  try dsimp only
  (repeat' split) <;> first | with_reducible exact h | simp -implicitDefEqProofs [h]

@[simp] theorem grows_judge {b : Log} (q : Ask) (s : State)
    (h : Grows b s.log) : Grows b (judge q s).state.log := by
  unfold judge
  try dsimp only
  (repeat' split) <;> first | with_reducible exact h | simp -implicitDefEqProofs [h]

@[simp] theorem grows_admission {b : Log} (q : Ask) (s : State)
    (h : Grows b s.log) : Grows b (admission q s).state.log := by
  unfold admission
  try dsimp only
  (repeat' split) <;> first
    | with_reducible exact h
    | (rename_i e
       have e2 := grows_of_eq e (grows_judge q s h)
       first | with_reducible exact e2 | (simp -implicitDefEqProofs [e2]; done))
    | simp -implicitDefEqProofs [h]

@[simp] theorem grows_restoreRefused {b : Log} (n : SupplyNo) (e : Status) (s : State)
    (h : Grows b s.log) : Grows b (restoreRefused n e s).log := by
  unfold restoreRefused
  try dsimp only
  first | with_reducible exact h | simp -implicitDefEqProofs [h]

@[simp] theorem grows_judgeRestores {b : Log} (ns : List SupplyNo) (s : State)
    (h : Grows b s.log) : Grows b (judgeRestores ns s).state.log := by
  have k : ∀ (l : List SupplyNo) (a : With (List (SupplyNo × Except Status Chosen))), Grows b a.state.log →
      Grows b (l.foldl (fun acc n => ⟨(judge (restoreAsk n) acc.state).state,
        acc.val ++ [(n, (judge (restoreAsk n) acc.state).val)]⟩) a).state.log := by
    intro l
    induction l with
    | nil => intro a ha; exact ha
    | cons n l ih => intro a ha; exact ih _ (grows_judge _ _ ha)
  exact k ns ⟨s, []⟩ h

@[simp] theorem grows_takeRestore {b : Log} (s : State) (v : SupplyNo × Except Status Chosen)
    (h : Grows b s.log) : Grows b (takeRestore s v).log := by
  unfold takeRestore
  try dsimp only
  (repeat' split) <;> first
    | with_reducible exact h
    | (rename_i e
       have e2 := grows_of_eq e (grows_claimAndBegin _ _ s h)
       first | with_reducible exact e2 | (simp -implicitDefEqProofs [e2]; done))
    | simp -implicitDefEqProofs [h]

@[simp] theorem grows_restoreRequests {b : Log} (ns : List SupplyNo) (s : State)
    (h : Grows b s.log) : Grows b (restoreRequests ns s).log := by
  unfold restoreRequests
  exact grows_foldl takeRestore grows_takeRestore _ _ (grows_judgeRestores _ _ h)

@[simp] theorem grows_restoreRequest {b : Log} (n : SupplyNo) (s : State)
    (h : Grows b s.log) : Grows b (restoreRequest n s).log := by
  unfold restoreRequest
  try dsimp only
  first | with_reducible exact h | simp -implicitDefEqProofs [h]

@[simp] theorem grows_reportAvailable {b : Log} (i : SourceNo) (s : State)
    (h : Grows b s.log) : Grows b (reportAvailable i s).log := by
  unfold reportAvailable
  try dsimp only
  first | with_reducible exact h | simp -implicitDefEqProofs [h]

@[simp] theorem grows_changeSource {b : Log} (i : SourceNo) (f : Source → Source) (s : State)
    (h : Grows b s.log) : Grows b (changeSource i f s).log := by
  unfold changeSource
  try dsimp only
  (repeat' split) <;> first | with_reducible exact h | simp -implicitDefEqProofs [h]

/-! ## Machine/Moves.lean -/

@[simp] theorem grows_reportBlock {b : Log} (d : SlotNo) (n : SupplyNo) (why : StatusOrResult) (s : State)
    (h : Grows b s.log) : Grows b (reportBlock d n why s).log := by
  unfold reportBlock
  try dsimp only
  (repeat' split) <;> first | with_reducible exact h | simp -implicitDefEqProofs [h]

@[simp] theorem grows_putReturn {b : Log} (e : ReturnEntry) (s : State)
    (h : Grows b s.log) : Grows b (putReturn e s).log := by
  unfold putReturn
  try dsimp only
  first | with_reducible exact h | simp -implicitDefEqProofs [h]

@[simp] theorem grows_dropReturn {b : Log} (n : SupplyNo) (s : State)
    (h : Grows b s.log) : Grows b (dropReturn n s).log := by
  unfold dropReturn
  try dsimp only
  first | with_reducible exact h | simp -implicitDefEqProofs [h]

@[simp] theorem grows_abandonReturn {b : Log} (e : ReturnEntry) (s : State)
    (h : Grows b s.log) : Grows b (abandonReturn e s).log := by
  unfold abandonReturn
  try dsimp only
  first | with_reducible exact h | simp -implicitDefEqProofs [h]

@[simp] theorem grows_unloadFailed {b : Log} (d : SlotNo) (n : SupplyNo) (result : Result) (s : State)
    (h : Grows b s.log) : Grows b (unloadFailed d n result s).log := by
  unfold unloadFailed
  try dsimp only
  first | with_reducible exact h | simp -implicitDefEqProofs [h]

@[simp] theorem grows_tellUnloadFailed {b : Log} (n : SupplyNo) (t : Transfer) (result : Result) (s : State)
    (h : Grows b s.log) : Grows b (tellUnloadFailed n t result s).log := by
  unfold tellUnloadFailed
  try dsimp only
  (repeat' split) <;> first | with_reducible exact h | simp -implicitDefEqProofs [h]

@[simp] theorem grows_tellReturnFailed {b : Log} (t : Transfer) (result : Result) (s : State)
    (h : Grows b s.log) : Grows b (tellReturnFailed t result s).log := by
  unfold tellReturnFailed
  try dsimp only
  (repeat' split) <;> first | with_reducible exact h | simp -implicitDefEqProofs [h]

/-! ## Machine/Preempt.lean -/

@[simp] theorem grows_closeWindows {b : Log} (n : SupplyNo) (s : State)
    (h : Grows b s.log) : Grows b (closeWindows n s).log := by
  unfold closeWindows
  try dsimp only
  first | with_reducible exact h | simp -implicitDefEqProofs [h]

@[simp] theorem grows_releaseSteps {b : Log} (n : SupplyNo) (t : Transfer) (result : Result) (s : State)
    (h : Grows b s.log) : Grows b (releaseSteps n t result s).log := by
  unfold releaseSteps
  dsimp only
  apply grows_changeSource
  apply grows_closeWindows
  simp only [modSlot_log]
  exact grows_releaseChannel _ _ (by simpa using h)

@[simp] theorem grows_reportEnd {b : Log} (n : SupplyNo) (t : Transfer) (result : Result) (s : State)
    (h : Grows b s.log) : Grows b (reportEnd n t result s).log := by
  unfold reportEnd
  try dsimp only
  first | with_reducible exact h | simp -implicitDefEqProofs [h]

@[simp] theorem grows_tellWatch {b : Log} (w : WatchNo) (t : Transfer) (result : Result) (s : State)
    (h : Grows b s.log) : Grows b (tellWatch w t result s).log := by
  unfold tellWatch
  try dsimp only
  first | with_reducible exact h | simp -implicitDefEqProofs [h]

@[simp] theorem grows_tellFailed {b : Log} (n : SupplyNo) (t : Transfer) (result : Result) (s : State)
    (h : Grows b s.log) : Grows b (tellFailed n t result s).log := by
  unfold tellFailed
  try dsimp only
  (repeat' split) <;> first | with_reducible exact h | simp -implicitDefEqProofs [h]

@[simp] theorem grows_endPreempted {b : Log} (n : SupplyNo) (s : State)
    (h : Grows b s.log) : Grows b (endPreempted n s).log := by
  unfold endPreempted
  split
  · exact grows_tellFailed _ _ _ _ (grows_reportEnd _ _ _ _ (grows_releaseSteps _ _ _ _ h))
  · exact h

@[simp] theorem grows_preempt {b : Log} (q : Ask) (t : Transfer) (s : State)
    (h : Grows b s.log) : Grows b (preempt q t s).state.log := by
  unfold preempt
  split
  · rename_i e
    exact grows_of_eq e (grows_chooseTarget _ _ s h)
  · rename_i e
    have e2 := grows_of_eq e (grows_chooseTarget _ _ s h)
    split
    · exact e2
    · exact grows_beginTransfer _ _ _ _ (grows_endPreempted _ _ (grows_setClaim _ _ e2))

@[simp] theorem grows_admitOrPreempt {b : Log} (q : Ask) (s : State)
    (h : Grows b s.log) : Grows b (admitOrPreempt q s).state.log := by
  unfold admitOrPreempt
  try dsimp only
  (repeat' split) <;> first | with_reducible exact h | simp -implicitDefEqProofs [h]

/-! ## Machine/Delivery.lean -/

@[simp] theorem grows_surveyStepOne {b : Log} (d : SlotNo) (s : State)
    (h : Grows b s.log) : Grows b (surveyStepOne d s).state.log := by
  unfold surveyStepOne
  try dsimp only
  (repeat' split) <;> first | with_reducible exact h | simp -implicitDefEqProofs [h]

@[simp] theorem grows_clearBlocked {b : Log} (d : SlotNo) (s : State)
    (h : Grows b s.log) : Grows b (clearBlocked d s).log := by
  unfold clearBlocked
  try dsimp only
  first | with_reducible exact h | simp -implicitDefEqProofs [h]

@[simp] theorem grows_requestUnload {b : Log} (d : SlotNo) (s : State) (n : SupplyNo)
    (h : Grows b s.log) : Grows b (requestUnload d s n).log := by
  unfold requestUnload
  try dsimp only
  (repeat' split) <;> first
    | with_reducible exact h
    | (rename_i e
       have e2 := grows_of_eq e (grows_admitOrPreempt _ s h)
       first | with_reducible exact e2 | (simp -implicitDefEqProofs [e2]; done))
    | simp -implicitDefEqProofs [h]

@[simp] theorem grows_survey {b : Log} (d : SlotNo) (s : State)
    (h : Grows b s.log) : Grows b (survey d s).log := by
  unfold survey
  split
  · rename_i e
    exact grows_of_eq e (grows_surveyStepOne d s h)
  · rename_i e
    exact grows_foldl (requestUnload d) (grows_requestUnload d) _ _
      (grows_clearBlocked _ _ (grows_of_eq e (grows_surveyStepOne d s h)))

@[simp] theorem grows_startSurveyTimer {b : Log} (d : SlotNo) (s : State)
    (h : Grows b s.log) : Grows b (startSurveyTimer d s).log := by
  unfold startSurveyTimer
  try dsimp only
  first | with_reducible exact h | simp -implicitDefEqProofs [h]

@[simp] theorem grows_returnAttempt {b : Log} (n : SupplyNo) (s : State)
    (h : Grows b s.log) : Grows b (returnAttempt n s).log := by
  unfold returnAttempt
  try dsimp only
  (repeat' split) <;> first
    | with_reducible exact h
    | (rename_i e
       have e2 := grows_of_eq e (grows_admitOrPreempt _ s h)
       first | with_reducible exact e2 | (simp -implicitDefEqProofs [e2]; done))
    | simp -implicitDefEqProofs [h]

@[simp] theorem grows_makeReturn {b : Log} (i : SourceNo) (d : SlotNo) (s : State) (m : MovedEntry)
    (h : Grows b s.log) : Grows b (makeReturn i d s m).log := by
  unfold makeReturn
  try dsimp only
  (repeat' split) <;> first | with_reducible exact h | simp -implicitDefEqProofs [h]

@[simp] theorem grows_tankCredit {b : Log} (i : SourceNo) (credit : Nat) (s : State)
    (h : Grows b s.log) : Grows b (tankCredit i credit s).log := by
  unfold tankCredit
  try dsimp only
  (repeat' split) <;> first | with_reducible exact h | simp -implicitDefEqProofs [h]

@[simp] theorem grows_endDelivery {b : Log} (d : SlotNo) (st : DeliveryState) (credit : Nat) (s : State)
    (h : Grows b s.log) : Grows b (endDelivery d st credit s).log := by
  unfold endDelivery
  split
  · dsimp only
    simp only [raise_log]
    apply grows_logAppend
    simp only [setDelivery_log, setLastEnded_log]
    apply grows_foldl _ (grows_makeReturn _ _)
    (repeat' split) <;> repeat (first
      | with_reducible exact h
      | with_reducible apply grows_changeSource
      | with_reducible apply grows_tankCredit
      | simp only [setDelivery_log])
  · exact h

@[simp] theorem grows_raiseLoaded {b : Log} (d : SlotNo) (s : State)
    (h : Grows b s.log) : Grows b (raiseLoaded d s).log := by
  unfold raiseLoaded
  try dsimp only
  (repeat' split) <;> first | with_reducible exact h | simp -implicitDefEqProofs [h]

@[simp] theorem grows_loadedByHand {b : Log} (i : SourceNo) (s : State)
    (h : Grows b s.log) : Grows b (loadedByHand i s).log := by
  unfold loadedByHand
  try dsimp only
  (repeat' split) <;> repeat (first
      | with_reducible exact h
      | with_reducible apply grows_survey
      | with_reducible apply grows_startSurveyTimer
      | with_reducible apply grows_raiseLoaded
      | simp only [modDelivery_log])

/-! ## Machine/Panel.lean -/

@[simp] theorem grows_markFaulted {b : Log} (n : SupplyNo) (x : Input) (dir : Dir) (s : State)
    (h : Grows b s.log) : Grows b (markFaulted n x dir s).log := by
  unfold markFaulted
  try dsimp only
  first | with_reducible exact h | simp -implicitDefEqProofs [h]

@[simp] theorem grows_clearWaiting {b : Log} (n : SupplyNo) (s : State)
    (h : Grows b s.log) : Grows b (clearWaiting n s).log := by
  unfold clearWaiting
  try dsimp only
  first | with_reducible exact h | simp -implicitDefEqProofs [h]

@[simp] theorem grows_derived {b : Log} (n : SupplyNo) (st : SupplyState) (closed : Option Input)
    (record : Option SourceNo) (s : State)
    (h : Grows b s.log) : Grows b (derived n st closed record s).log := by
  unfold derived
  try dsimp only
  first | with_reducible exact h | simp -implicitDefEqProofs [h]

@[simp] theorem grows_reportTrip {b : Log} (n : SupplyNo) (x : Input) (s : State)
    (h : Grows b s.log) : Grows b (reportTrip n x s).log := by
  unfold reportTrip
  try dsimp only
  first | with_reducible exact h | simp -implicitDefEqProofs [h]

@[simp] theorem grows_restoreIfSet {b : Log} (n : SupplyNo) (s : State)
    (h : Grows b s.log) : Grows b (restoreIfSet n s).log := by
  unfold restoreIfSet
  try dsimp only
  (repeat' split) <;> first | with_reducible exact h | simp -implicitDefEqProofs [h]

@[simp] theorem grows_panelFault {b : Log} (n : SupplyNo) (x : Input) (closed : Bool) (s : State)
    (h : Grows b s.log) : Grows b (panelFault n x closed s).log := by
  unfold panelFault
  try dsimp only
  (repeat' split) <;> repeat (first
      | with_reducible exact h
      | with_reducible apply grows_changeSource
      | with_reducible apply grows_loadedByHand
      | with_reducible apply grows_derived
      | simp only [raise_log])

@[simp] theorem grows_logUncommanded {b : Log} (n : SupplyNo) (x : Input) (closed : Bool) (s : State)
    (h : Grows b s.log) : Grows b (logUncommanded n x closed s).log := by
  unfold logUncommanded
  try dsimp only
  first | with_reducible exact h | simp -implicitDefEqProofs [h]

@[simp] theorem grows_deriveFault {b : Log} (n : SupplyNo) (s : State)
    (h : Grows b s.log) : Grows b (deriveFault n s).log := by
  unfold deriveFault
  try dsimp only
  first | with_reducible exact h | simp -implicitDefEqProofs [h]

@[simp] theorem grows_deriveOne {b : Log} (n : SupplyNo) (x : Input) (s : State)
    (h : Grows b s.log) : Grows b (deriveOne n x s).log := by
  unfold deriveOne
  try dsimp only
  (repeat' split) <;> repeat (first
      | with_reducible exact h
      | with_reducible apply grows_clearWaiting
      | with_reducible apply grows_derived
      | with_reducible apply grows_reportTrip
      | with_reducible apply grows_restoreIfSet
      | with_reducible apply grows_panelFault
      | with_reducible apply grows_logUncommanded
      | with_reducible apply grows_deriveFault
      | simp only [raise_log])

@[simp] theorem grows_derive {b : Log} (n : SupplyNo) (s : State)
    (h : Grows b s.log) : Grows b (derive n s).log := by
  unfold derive
  try dsimp only
  (repeat' split) <;> first | with_reducible exact h | simp -implicitDefEqProofs [h]

/-! ## Machine/TransferEnd.lean -/

@[simp] theorem grows_unloadDone {b : Log} (d : SlotNo) (n : SupplyNo) (t : Transfer) (s : State)
    (h : Grows b s.log) : Grows b (unloadDone d n t s).log := by
  unfold unloadDone
  try dsimp only
  (repeat' split) <;> first | with_reducible exact h | simp -implicitDefEqProofs [h]

@[simp] theorem grows_lateUnloadDone {b : Log} (i : SourceNo) (r : Delivery) (n : SupplyNo) (t : Transfer) (s : State)
    (h : Grows b s.log) : Grows b (lateUnloadDone i r n t s).log := by
  unfold lateUnloadDone
  try dsimp only
  first | with_reducible exact h | simp -implicitDefEqProofs [h]

@[simp] theorem grows_tellUnloadDone {b : Log} (n : SupplyNo) (t : Transfer) (s : State)
    (h : Grows b s.log) : Grows b (tellUnloadDone n t s).log := by
  unfold tellUnloadDone
  try dsimp only
  (repeat' split) <;> first | with_reducible exact h | simp -implicitDefEqProofs [h]

@[simp] theorem grows_tellReturnDone {b : Log} (t : Transfer) (s : State)
    (h : Grows b s.log) : Grows b (tellReturnDone t s).log := by
  unfold tellReturnDone
  try dsimp only
  (repeat' split) <;> first | with_reducible exact h | simp -implicitDefEqProofs [h]

@[simp] theorem grows_tellCompleted {b : Log} (n : SupplyNo) (t : Transfer) (result : Result) (s : State)
    (h : Grows b s.log) : Grows b (tellCompleted n t result s).log := by
  unfold tellCompleted
  try dsimp only
  (repeat' split) <;> first | with_reducible exact h | simp -implicitDefEqProofs [h]

@[simp] theorem grows_tellOriginator {b : Log} (n : SupplyNo) (t : Transfer) (result : Result) (s : State)
    (h : Grows b s.log) : Grows b (tellOriginator n t result s).log := by
  unfold tellOriginator
  try dsimp only
  (repeat' split) <;> first | with_reducible exact h | simp -implicitDefEqProofs [h]

@[simp] theorem grows_afterEnd {b : Log} (a : After) (n : SupplyNo) (s : State)
    (h : Grows b s.log) : Grows b (afterEnd a n s).log := by
  unfold afterEnd
  try dsimp only
  (repeat' split) <;> first | with_reducible exact h | simp -implicitDefEqProofs [h]

@[simp] theorem grows_raiseFault {b : Log} (n : SupplyNo) (x : Option Input) (s : State)
    (h : Grows b s.log) : Grows b (raiseFault n x s).log := by
  unfold raiseFault
  try dsimp only
  (repeat' split) <;> first | with_reducible exact h | simp -implicitDefEqProofs [h]

@[simp] theorem grows_endWith {b : Log} (a : After) (fault : Option Input) (n : SupplyNo) (result : Result)
    (s : State)
    (h : Grows b s.log) : Grows b (endWith a fault n result s).log := by
  unfold endWith
  try dsimp only
  (repeat' split) <;> repeat (first
      | with_reducible exact h
      | with_reducible apply grows_releaseSteps
      | with_reducible apply grows_tellOriginator
      | with_reducible apply grows_reportEnd
      | with_reducible apply grows_afterEnd
      | with_reducible apply grows_raiseFault)

@[simp] theorem grows_endTransfer {b : Log} (n : SupplyNo) (result : Result) (s : State)
    (h : Grows b s.log) : Grows b (endTransfer n result s).log := by
  unfold endTransfer
  try dsimp only
  (repeat' split) <;> first | with_reducible exact h | simp -implicitDefEqProofs [h]

@[simp] theorem grows_endBoth {b : Log} (n : SupplyNo) (x : Input) (s : State)
    (h : Grows b s.log) : Grows b (endBoth n x s).log := by
  unfold endBoth
  try dsimp only
  first | with_reducible exact h | simp -implicitDefEqProofs [h]

@[simp] theorem grows_uncommanded {b : Log} (n : SupplyNo) (x : Input) (closed : Bool) (s : State)
    (h : Grows b s.log) : Grows b (uncommanded n x closed s).log := by
  unfold uncommanded
  try dsimp only
  repeat (first
      | with_reducible exact h
      | with_reducible apply grows_panelFault
      | with_reducible apply grows_logUncommanded
      | with_reducible apply grows_endTransfer
      | simp only [raise_log])

/-! ## Machine/Requests.lean -/

@[simp] theorem grows_refuse {b : Log} (e : Status) (s : State)
    (h : Grows b s.log) : Grows b (refuse e s).state.log := by
  unfold refuse
  try dsimp only
  first | with_reducible exact h | simp -implicitDefEqProofs [h]

@[simp] theorem grows_setPortFlag {b : Log} (p : PortNo) (f : PortFlag) (s : State)
    (h : Grows b s.log) : Grows b (setPortFlag p f s).log := by
  unfold setPortFlag
  try dsimp only
  (repeat' split) <;> first | with_reducible exact h | simp -implicitDefEqProofs [h]

@[simp] theorem grows_judged {b : Log} (rq : Request) (k : Kind) (scope : Station → State → Bool)
    (owner : StationNo → Station → State → Done) (n : StationNo) (st : Station) (s : State) (ho : Grows b (owner n st s).state.log)
    (h : Grows b s.log) : Grows b (judged rq k scope owner n st s).log := by
  unfold judged
  split
  · simp -implicitDefEqProofs [h]
  · simp -implicitDefEqProofs [ho]

@[simp] theorem grows_request {b : Log} (rq : Request) (k : Kind) (scope : Station → State → Bool)
    (owner : StationNo → Station → State → Done) (s : State) (ho : ∀ n st s, Grows b s.log → Grows b (owner n st s).state.log)
    (h : Grows b s.log) : Grows b (request rq k scope owner s).log := by
  unfold request
  dsimp only
  (repeat' split) <;> first
    | simp -implicitDefEqProofs [h]
    | exact grows_judged _ _ _ _ _ _ _ (ho _ _ _ (by simp -implicitDefEqProofs [h]))
        (by simp -implicitDefEqProofs [h])

@[simp] theorem grows_broadcast {b : Log} (rq : Request) (k : Kind) (fits : Bool) (effect : State → State)
    (s : State) (he : ∀ s, Grows b s.log → Grows b (effect s).log)
    (h : Grows b s.log) : Grows b (broadcast rq k fits effect s).log := by
  unfold broadcast
  try dsimp only
  (repeat' split) <;> repeat (first
      | with_reducible exact h
      | with_reducible apply grows_setPortFlag
      | apply he
      | simp only [advanceTo_log, touch_log])

/-! ## Machine/Boundary.lean -/

@[simp] theorem grows_closeHire {b : Log} (s : State)
    (h : Grows b s.log) : Grows b (closeHire s).state.log := by
  unfold closeHire
  try dsimp only
  first | with_reducible exact h | simp -implicitDefEqProofs [h]

@[simp] theorem grows_raiseDry {b : Log} (before : State) (s : State) (i : SourceNo)
    (h : Grows b s.log) : Grows b (raiseDry before s i).log := by
  unfold raiseDry
  try dsimp only
  (repeat' split) <;> first | with_reducible exact h | simp -implicitDefEqProofs [h]

@[simp] theorem grows_closeBurn {b : Log} (s : State)
    (h : Grows b s.log) : Grows b (closeBurn s).state.log := by
  unfold closeBurn
  exact grows_foldl (raiseDry s) (grows_raiseDry s) _ _ h

@[simp] theorem grows_closeMatrix {b : Log} (s : State)
    (h : Grows b s.log) : Grows b (closeMatrix s).state.log := by
  unfold closeMatrix
  try dsimp only
  first | with_reducible exact h | simp -implicitDefEqProofs [h]

@[simp] theorem grows_closeDark {b : Log} (s : State)
    (h : Grows b s.log) : Grows b (closeDark s).state.log := by
  unfold closeDark
  try dsimp only
  first | with_reducible exact h | simp -implicitDefEqProofs [h]

@[simp] theorem grows_announceBurn {b : Log} (serial : Nat) (s : State)
    (h : Grows b s.log) : Grows b (announceBurn serial s).log := by
  unfold announceBurn
  try dsimp only
  first | with_reducible exact h | simp -implicitDefEqProofs [h]

@[simp] theorem grows_announce {b : Log} (serial : Nat) (s : State)
    (h : Grows b s.log) : Grows b (announce serial s).log := by
  unfold announce
  try dsimp only
  first | with_reducible exact h | simp -implicitDefEqProofs [h]

@[simp] theorem grows_takeBoundary {b : Log} (endTime : Nat) (s : State)
    (h : Grows b s.log) : Grows b (takeBoundary endTime s).log := by
  unfold takeBoundary
  try dsimp only
  first | with_reducible exact h | simp -implicitDefEqProofs [h]

@[simp] theorem grows_tickSources {b : Log} (s : State)
    (h : Grows b s.log) : Grows b (tickSources s).log := by
  unfold tickSources
  try dsimp only
  first | with_reducible exact h | simp -implicitDefEqProofs [h]

@[simp] theorem grows_tickSupplies {b : Log} (s : State)
    (h : Grows b s.log) : Grows b (tickSupplies s).log := by
  unfold tickSupplies
  try dsimp only
  first | with_reducible exact h | simp -implicitDefEqProofs [h]

@[simp] theorem grows_tickTanks {b : Log} (s : State)
    (h : Grows b s.log) : Grows b (tickTanks s).log := by
  unfold tickTanks
  try dsimp only
  first | with_reducible exact h | simp -implicitDefEqProofs [h]

@[simp] theorem grows_tickChannels {b : Log} (s : State)
    (h : Grows b s.log) : Grows b (tickChannels s).log := by
  unfold tickChannels
  try dsimp only
  first | with_reducible exact h | simp -implicitDefEqProofs [h]

@[simp] theorem grows_tickBlocks {b : Log} (order : TickOrder) (s : State)
    (h : Grows b s.log) : Grows b (tickBlocks order s).log := by
  unfold tickBlocks
  try dsimp only
  (repeat' split) <;> first | with_reducible exact h | simp -implicitDefEqProofs [h]

@[simp] theorem grows_settleRecord {b : Log} (c : Complete) (s : State)
    (h : Grows b s.log) : Grows b (settleRecord c s).log := by
  unfold settleRecord
  try dsimp only
  first | with_reducible exact h | simp -implicitDefEqProofs [h]

@[simp] theorem grows_takeClose {b : Log} (endTime : Nat) (s : State)
    (h : Grows b s.log) : Grows b (takeClose endTime s).log := by
  unfold takeClose
  try dsimp only
  (repeat' split) <;> first | with_reducible exact h | simp -implicitDefEqProofs [h]

@[simp] theorem grows_settle {b : Log} (s : State)
    (h : Grows b s.log) : Grows b (settle s).log := by
  unfold settle
  try dsimp only
  (repeat' split) <;> first | with_reducible exact h | simp -implicitDefEqProofs [h]

/-! ## Machine/Transfers.lean -/

@[simp] theorem grows_ownerTransfer {b : Log} (supply target mode priority : Nat) (n : StationNo) (st : Station)
    (s : State)
    (h : Grows b s.log) : Grows b (ownerTransfer supply target mode priority n st s).state.log := by
  unfold ownerTransfer
  try dsimp only
  (repeat' split) <;> first
    | with_reducible exact h
    | (rename_i e
       have e2 := grows_of_eq e (grows_admitOrPreempt _ s h)
       first | with_reducible exact e2 | (simp -implicitDefEqProofs [e2]; done))
    | simp -implicitDefEqProofs [h]

@[simp] theorem grows_takeGrant {b : Log} (n : SupplyNo) (s : State)
    (h : Grows b s.log) : Grows b (takeGrant n s).log := by
  unfold takeGrant
  try dsimp only
  (repeat' split) <;> first | with_reducible exact h | simp -implicitDefEqProofs [h]

@[simp] theorem grows_leaveSync {b : Log} (n : SupplyNo) (t : Transfer) (s : State)
    (h : Grows b s.log) : Grows b (leaveSync n t s).log := by
  unfold leaveSync
  try dsimp only
  first | with_reducible exact h | simp -implicitDefEqProofs [h]

@[simp] theorem grows_takeInStep {b : Log} (n : SupplyNo) (t : Transfer) (s : State)
    (h : Grows b s.log) : Grows b (takeInStep n t s).log := by
  unfold takeInStep
  try dsimp only
  (repeat' split) <;> first | with_reducible exact h | simp -implicitDefEqProofs [h]

@[simp] theorem grows_inStep {b : Log} (c : SyncNo) (s : State)
    (h : Grows b s.log) : Grows b (inStep c s).log := by
  unfold inStep
  try dsimp only
  (repeat' split) <;> first | with_reducible exact h | simp -implicitDefEqProofs [h]

@[simp] theorem grows_syncTimeout {b : Log} (n : SupplyNo) (s : State)
    (h : Grows b s.log) : Grows b (syncTimeout n s).log := by
  unfold syncTimeout
  try dsimp only
  (repeat' split) <;> first | with_reducible exact h | simp -implicitDefEqProofs [h]

@[simp] theorem grows_convertToBreak {b : Log} (n : SupplyNo) (t : Transfer) (s : State)
    (h : Grows b s.log) : Grows b (convertToBreak n t s).log := by
  unfold convertToBreak
  try dsimp only
  first | with_reducible exact h | simp -implicitDefEqProofs [h]

@[simp] theorem grows_handleTrip {b : Log} (n : SupplyNo) (t : Transfer) (x : Input) (s : State)
    (h : Grows b s.log) : Grows b (handleTrip n t x s).log := by
  unfold handleTrip
  try dsimp only
  (repeat' split) <;> first | with_reducible exact h | simp -implicitDefEqProofs [h]

@[simp] theorem grows_takeTripReport {b : Log} (n : SupplyNo) (s : State)
    (h : Grows b s.log) : Grows b (takeTripReport n s).log := by
  unfold takeTripReport
  try dsimp only
  (repeat' split) <;> first | with_reducible exact h | simp -implicitDefEqProofs [h]

@[simp] theorem grows_afterOpening {b : Log} (n : SupplyNo) (t : Transfer) (s : State)
    (h : Grows b s.log) : Grows b (afterOpening n t s).log := by
  unfold afterOpening
  try dsimp only
  (repeat' split) <;> first | with_reducible exact h | simp -implicitDefEqProofs [h]

@[simp] theorem grows_originOpened {b : Log} (n : SupplyNo) (t : Transfer) (s : State)
    (h : Grows b s.log) : Grows b (originOpened n t s).log := by
  unfold originOpened
  try dsimp only
  (repeat' split) <;> first | with_reducible exact h | simp -implicitDefEqProofs [h]

@[simp] theorem grows_confirmed {b : Log} (n : SupplyNo) (x : Input) (closed : Bool) (s : State)
    (h : Grows b s.log) : Grows b (confirmed n x closed s).log := by
  unfold confirmed
  try dsimp only
  (repeat' split) <;> first | with_reducible exact h | simp -implicitDefEqProofs [h]

@[simp] theorem grows_closingTimedOut {b : Log} (n : SupplyNo) (t : Transfer) (s : State)
    (h : Grows b s.log) : Grows b (closingTimedOut n t s).log := by
  unfold closingTimedOut
  try dsimp only
  (repeat' split) <;> first | with_reducible exact h | simp -implicitDefEqProofs [h]

@[simp] theorem grows_timedOut {b : Log} (n : SupplyNo) (x : Input) (dir : Dir) (s : State)
    (h : Grows b s.log) : Grows b (timedOut n x dir s).log := by
  unfold timedOut
  try dsimp only
  (repeat' split) <;> first | with_reducible exact h | simp -implicitDefEqProofs [h]

@[simp] theorem grows_overlapExpiry {b : Log} (n : SupplyNo) (s : State)
    (h : Grows b s.log) : Grows b (overlapExpiry n s).log := by
  unfold overlapExpiry
  try dsimp only
  (repeat' split) <;> first | with_reducible exact h | simp -implicitDefEqProofs [h]

@[simp] theorem grows_deadTimeExpiry {b : Log} (n : SupplyNo) (s : State)
    (h : Grows b s.log) : Grows b (deadTimeExpiry n s).log := by
  unfold deadTimeExpiry
  try dsimp only
  (repeat' split) <;> first | with_reducible exact h | simp -implicitDefEqProofs [h]

@[simp] theorem grows_settleTimeExpiry {b : Log} (n : SupplyNo) (s : State)
    (h : Grows b s.log) : Grows b (settleTimeExpiry n s).log := by
  unfold settleTimeExpiry
  try dsimp only
  (repeat' split) <;> first | with_reducible exact h | simp -implicitDefEqProofs [h]

@[simp] theorem grows_abortEffect {b : Log} (n : SupplyNo) (t : Transfer) (s : State)
    (h : Grows b s.log) : Grows b (abortEffect n t s).state.log := by
  unfold abortEffect
  try dsimp only
  (repeat' split) <;> first | with_reducible exact h | simp -implicitDefEqProofs [h]

@[simp] theorem grows_ownerAbort {b : Log} (supply ticket : Nat) (m : StationNo) (st : Station) (s : State)
    (h : Grows b s.log) : Grows b (ownerAbort supply ticket m st s).state.log := by
  unfold ownerAbort
  try dsimp only
  (repeat' split) <;> first | with_reducible exact h | simp -implicitDefEqProofs [h]

@[simp] theorem grows_ownerReadTransfer {b : Log} (supply : Nat) (m : StationNo) (st : Station) (s : State)
    (h : Grows b s.log) : Grows b (ownerReadTransfer supply m st s).state.log := by
  unfold ownerReadTransfer
  try dsimp only
  (repeat' split) <;> first | with_reducible exact h | simp -implicitDefEqProofs [h]

@[simp] theorem grows_ownerSetLimits {b : Log} (slip phase volts timeout : Option Nat) (m : StationNo)
    (st : Station) (s : State)
    (h : Grows b s.log) : Grows b (ownerSetLimits slip phase volts timeout m st s).state.log := by
  unfold ownerSetLimits
  try dsimp only
  (repeat' split) <;> first | with_reducible exact h | simp -implicitDefEqProofs [h]

/-! ## Machine/Supplies.lean -/

@[simp] theorem grows_afterDefine {b : Log} (n : SupplyNo) (before : Supply) (s : State)
    (h : Grows b s.log) : Grows b (afterDefine n before s).log := by
  unfold afterDefine
  try dsimp only
  (repeat' split) <;> first | with_reducible exact h | simp -implicitDefEqProofs [h]

@[simp] theorem grows_ownerDefineSupply {b : Log} (supply : Nat) (fields : Option SupplyFields) (m : StationNo)
    (st : Station) (s : State)
    (h : Grows b s.log) : Grows b (ownerDefineSupply supply fields m st s).state.log := by
  unfold ownerDefineSupply
  try dsimp only
  (repeat' split) <;> first | with_reducible exact h | simp -implicitDefEqProofs [h]

@[simp] theorem grows_watchSettle {b : Log} (n : SupplyNo) (x : Input) (before : Bool) (s : State)
    (h : Grows b s.log) : Grows b (watchSettle n x before s).log := by
  unfold watchSettle
  try dsimp only
  (repeat' split) <;> first | with_reducible exact h | simp -implicitDefEqProofs [h]

@[simp] theorem grows_restored {b : Log} (n : SupplyNo) (x : Input) (s : State)
    (h : Grows b s.log) : Grows b (restored n x s).log := by
  unfold restored
  try dsimp only
  repeat (first
      | with_reducible exact h
      | with_reducible apply grows_logAppend
      | with_reducible apply grows_clearWaiting
      | with_reducible apply grows_derived
      | simp only [raise_log])

@[simp] theorem grows_gained {b : Log} (n : SupplyNo) (x : Input) (s : State)
    (h : Grows b s.log) : Grows b (gained n x s).log := by
  unfold gained
  try dsimp only
  (repeat' split) <;> first | with_reducible exact h | simp -implicitDefEqProofs [h]

@[simp] theorem grows_senseCrossing {b : Log} (n : SupplyNo) (x : Input) (s : State)
    (h : Grows b s.log) : Grows b (senseCrossing n x s).log := by
  unfold senseCrossing
  try dsimp only
  (repeat' split) <;> first | with_reducible exact h | simp -implicitDefEqProofs [h]

@[simp] theorem grows_voltageLoss {b : Log} (n : SupplyNo) (x : Input) (s : State)
    (h : Grows b s.log) : Grows b (voltageLoss n x s).log := by
  unfold voltageLoss
  try dsimp only
  (repeat' split) <;> first | with_reducible exact h | simp -implicitDefEqProofs [h]

@[simp] theorem grows_tripLive {b : Log} (n : SupplyNo) (x : Input) (s : State)
    (h : Grows b s.log) : Grows b (tripLive n x s).log := by
  unfold tripLive
  try dsimp only
  repeat (first
      | with_reducible exact h
      | with_reducible apply grows_derived
      | with_reducible apply grows_reportTrip
      | with_reducible apply grows_restoreIfSet
      | simp only [raise_log])

@[simp] theorem grows_tripInTransfer {b : Log} (n : SupplyNo) (x : Input) (s : State)
    (h : Grows b s.log) : Grows b (tripInTransfer n x s).log := by
  unfold tripInTransfer
  try dsimp only
  first | with_reducible exact h | simp -implicitDefEqProofs [h]

@[simp] theorem grows_supplyTrip {b : Log} (n : SupplyNo) (s : State)
    (h : Grows b s.log) : Grows b (supplyTrip n s).log := by
  unfold supplyTrip
  try dsimp only
  (repeat' split) <;> first | with_reducible exact h | simp -implicitDefEqProofs [h]

@[simp] theorem grows_closeWindow {b : Log} (n : SupplyNo) (x : Input) (s : State)
    (h : Grows b s.log) : Grows b (closeWindow n x s).log := by
  unfold closeWindow
  try dsimp only
  first | with_reducible exact h | simp -implicitDefEqProofs [h]

@[simp] theorem grows_judgeChange {b : Log} (n : SupplyNo) (x : Input) (closed : Bool) (w : Option Window) (s : State)
    (h : Grows b s.log) : Grows b (judgeChange n x closed w s).log := by
  unfold judgeChange
  try dsimp only
  (repeat' split) <;> first | with_reducible exact h | simp -implicitDefEqProofs [h]

@[simp] theorem grows_auxChange {b : Log} (n : SupplyNo) (x : Input) (closed : Bool) (s : State)
    (h : Grows b s.log) : Grows b (auxChange n x closed s).log := by
  unfold auxChange
  try dsimp only
  (repeat' split) <;> first | with_reducible exact h | simp -implicitDefEqProofs [h]

@[simp] theorem grows_restartTimedOut {b : Log} (n : SupplyNo) (x : Input) (dir : Dir) (s : State)
    (h : Grows b s.log) : Grows b (restartTimedOut n x dir s).log := by
  unfold restartTimedOut
  try dsimp only
  first | with_reducible exact h | simp -implicitDefEqProofs [h]

@[simp] theorem grows_confirmTimeout {b : Log} (n : SupplyNo) (x : Input) (s : State)
    (h : Grows b s.log) : Grows b (confirmTimeout n x s).log := by
  unfold confirmTimeout
  try dsimp only
  (repeat' split) <;> first | with_reducible exact h | simp -implicitDefEqProofs [h]

@[simp] theorem grows_pulseEnd {b : Log} (n : SupplyNo) (x : Input) (dir : Dir) (s : State)
    (h : Grows b s.log) : Grows b (pulseEnd n x dir s).log := by
  unfold pulseEnd
  try dsimp only
  (repeat' split) <;> first | with_reducible exact h | simp -implicitDefEqProofs [h]

@[simp] theorem grows_clearFaulted {b : Log} (n : SupplyNo) (s : State)
    (h : Grows b s.log) : Grows b (clearFaulted n s).log := by
  unfold clearFaulted
  try dsimp only
  first | with_reducible exact h | simp -implicitDefEqProofs [h]

@[simp] theorem grows_ownerClearFault {b : Log} (supply : Nat) (m : StationNo) (st : Station) (s : State)
    (h : Grows b s.log) : Grows b (ownerClearFault supply m st s).state.log := by
  unfold ownerClearFault
  try dsimp only
  (repeat' split) <;> first | with_reducible exact h | simp -implicitDefEqProofs [h]

@[simp] theorem grows_ownerShowHold {b : Log} (value : Bool) (supply : Nat) (m : StationNo) (st : Station) (s : State)
    (h : Grows b s.log) : Grows b (ownerShowHold value supply m st s).state.log := by
  unfold ownerShowHold
  try dsimp only
  (repeat' split) <;> first | with_reducible exact h | simp -implicitDefEqProofs [h]

@[simp] theorem grows_ownerReadSupply {b : Log} (supply : Nat) (m : StationNo) (st : Station) (s : State)
    (h : Grows b s.log) : Grows b (ownerReadSupply supply m st s).state.log := by
  unfold ownerReadSupply
  try dsimp only
  (repeat' split) <;> first | with_reducible exact h | simp -implicitDefEqProofs [h]

/-! ## Machine/Fuel.lean -/

@[simp] theorem grows_ownerSetTank {b : Log} (source capacity floor level : Nat) (m : StationNo) (st : Station)
    (s : State)
    (h : Grows b s.log) : Grows b (ownerSetTank source capacity floor level m st s).state.log := by
  unfold ownerSetTank
  try dsimp only
  (repeat' split) <;> first | with_reducible exact h | simp -implicitDefEqProofs [h]

@[simp] theorem grows_ownerSetPrice {b : Log} (price : Nat) (m : StationNo) (st : Station) (s : State)
    (h : Grows b s.log) : Grows b (ownerSetPrice price m st s).state.log := by
  unfold ownerSetPrice
  try dsimp only
  (repeat' split) <;> first | with_reducible exact h | simp -implicitDefEqProofs [h]

@[simp] theorem grows_ownerReadTank {b : Log} (source : Nat) (m : StationNo) (st : Station) (s : State)
    (h : Grows b s.log) : Grows b (ownerReadTank source m st s).state.log := by
  unfold ownerReadTank
  try dsimp only
  (repeat' split) <;> first | with_reducible exact h | simp -implicitDefEqProofs [h]

@[simp] theorem grows_startCold {b : Log} (d : SlotNo) (i : SourceNo) (s : State)
    (h : Grows b s.log) : Grows b (startCold d i s).log := by
  unfold startCold
  try dsimp only
  (repeat' split) <;> first | with_reducible exact h | simp -implicitDefEqProofs [h]

@[simp] theorem grows_arm {b : Log} (d : SlotNo) (f : ArmFields) (s : State)
    (h : Grows b s.log) : Grows b (arm d f s).log := by
  unfold arm
  try dsimp only
  (repeat' split) <;> first | with_reducible exact h | simp -implicitDefEqProofs [h]

@[simp] theorem grows_ownerArmDelivery {b : Log} (fields : Option ArmFields) (m : StationNo) (st : Station)
    (s : State)
    (h : Grows b s.log) : Grows b (ownerArmDelivery fields m st s).state.log := by
  unfold ownerArmDelivery
  try dsimp only
  (repeat' split) <;> first | with_reducible exact h | simp -implicitDefEqProofs [h]

@[simp] theorem grows_surveyExpiry {b : Log} (d : SlotNo) (s : State)
    (h : Grows b s.log) : Grows b (surveyExpiry d s).log := by
  unfold surveyExpiry
  try dsimp only
  (repeat' split) <;> first | with_reducible exact h | simp -implicitDefEqProofs [h]

@[simp] theorem grows_openDelivery {b : Log} (d : SlotNo) (r : Delivery) (loaded : Bool) (s : State)
    (h : Grows b s.log) : Grows b (openDelivery d r loaded s).log := by
  unfold openDelivery
  try dsimp only
  (repeat' split) <;> first | with_reducible exact h | simp -implicitDefEqProofs [h]

@[simp] theorem grows_reopen {b : Log} (d : SlotNo) (s : State)
    (h : Grows b s.log) : Grows b (reopen d s).log := by
  unfold reopen
  try dsimp only
  first | with_reducible exact h | simp -implicitDefEqProofs [h]

@[simp] theorem grows_reportUnarmed {b : Log} (i : SourceNo) (slot : Option SlotNo) (s : State)
    (h : Grows b s.log) : Grows b (reportUnarmed i slot s).log := by
  unfold reportUnarmed
  try dsimp only
  first | with_reducible exact h | simp -implicitDefEqProofs [h]

@[simp] theorem grows_unarmedFill {b : Log} (d : SlotNo) (i : SourceNo) (s : State)
    (h : Grows b s.log) : Grows b (unarmedFill d i s).log := by
  unfold unarmedFill
  try dsimp only
  first | with_reducible exact h | simp -implicitDefEqProofs [h]

@[simp] theorem grows_closeUnarmed {b : Log} (i : SourceNo) (s : State)
    (h : Grows b s.log) : Grows b (closeUnarmed i s).log := by
  unfold closeUnarmed
  try dsimp only
  (repeat' split) <;> first | with_reducible exact h | simp -implicitDefEqProofs [h]

@[simp] theorem grows_fillClosed {b : Log} (i : SourceNo) (s : State)
    (h : Grows b s.log) : Grows b (fillClosed i s).log := by
  unfold fillClosed
  try dsimp only
  (repeat' split) <;> first | with_reducible exact h | simp -implicitDefEqProofs [h]

@[simp] theorem grows_fillPointClose {b : Log} (i : SourceNo) (s : State)
    (h : Grows b s.log) : Grows b (fillPointClose i s).log := by
  unfold fillPointClose
  try dsimp only
  (repeat' split) <;> first | with_reducible exact h | simp -implicitDefEqProofs [h]

@[simp] theorem grows_endUnarmed {b : Log} (d : SlotNo) (r : Delivery) (s : State)
    (h : Grows b s.log) : Grows b (endUnarmed d r s).log := by
  unfold endUnarmed
  try dsimp only
  first | with_reducible exact h | simp -implicitDefEqProofs [h]

@[simp] theorem grows_fillOpened {b : Log} (i : SourceNo) (s : State)
    (h : Grows b s.log) : Grows b (fillOpened i s).log := by
  unfold fillOpened
  try dsimp only
  (repeat' split) <;> first | with_reducible exact h | simp -implicitDefEqProofs [h]

@[simp] theorem grows_fillPointOpen {b : Log} (i : SourceNo) (s : State)
    (h : Grows b s.log) : Grows b (fillPointOpen i s).log := by
  unfold fillPointOpen
  try dsimp only
  (repeat' split) <;> first | with_reducible exact h | simp -implicitDefEqProofs [h]

@[simp] theorem grows_compareFill {b : Log} (i : SourceNo) (closed : Bool) (s : State)
    (h : Grows b s.log) : Grows b (compareFill i closed s).log := by
  unfold compareFill
  try dsimp only
  (repeat' split) <;> first | with_reducible exact h | simp -implicitDefEqProofs [h]

@[simp] theorem grows_fillRestartCheck {b : Log} (i : SourceNo) (closed : Bool) (s : State)
    (h : Grows b s.log) : Grows b (fillRestartCheck i closed s).log := by
  unfold fillRestartCheck
  try dsimp only
  (repeat' split) <;> first | with_reducible exact h | simp -implicitDefEqProofs [h]

@[simp] theorem grows_ownerMeterReading {b : Log} (reference register : Nat) (m : StationNo) (st : Station)
    (s : State)
    (h : Grows b s.log) : Grows b (ownerMeterReading reference register m st s).state.log := by
  unfold ownerMeterReading
  try dsimp only
  (repeat' split) <;> first | with_reducible exact h | simp -implicitDefEqProofs [h]

@[simp] theorem grows_closeFilled {b : Log} (d : SlotNo) (r : Delivery) (s : State)
    (h : Grows b s.log) : Grows b (closeFilled d r s).log := by
  unfold closeFilled
  try dsimp only
  first | with_reducible exact h | simp -implicitDefEqProofs [h]

@[simp] theorem grows_ownerCloseDelivery {b : Log} (reference register : Nat) (m : StationNo) (st : Station)
    (s : State)
    (h : Grows b s.log) : Grows b (ownerCloseDelivery reference register m st s).state.log := by
  unfold ownerCloseDelivery
  try dsimp only
  (repeat' split) <;> first | with_reducible exact h | simp -implicitDefEqProofs [h]

@[simp] theorem grows_finishExpiry {b : Log} (d : SlotNo) (s : State)
    (h : Grows b s.log) : Grows b (finishExpiry d s).log := by
  unfold finishExpiry
  try dsimp only
  (repeat' split) <;> first | with_reducible exact h | simp -implicitDefEqProofs [h]

@[simp] theorem grows_ownerCancel {b : Log} (reference : Nat) (m : StationNo) (st : Station) (s : State)
    (h : Grows b s.log) : Grows b (ownerCancel reference m st s).state.log := by
  unfold ownerCancel
  try dsimp only
  (repeat' split) <;> first | with_reducible exact h | simp -implicitDefEqProofs [h]

@[simp] theorem grows_armExpiry {b : Log} (d : SlotNo) (s : State)
    (h : Grows b s.log) : Grows b (armExpiry d s).log := by
  unfold armExpiry
  try dsimp only
  (repeat' split) <;> first | with_reducible exact h | simp -implicitDefEqProofs [h]

@[simp] theorem grows_returnTimer {b : Log} (n : SupplyNo) (s : State)
    (h : Grows b s.log) : Grows b (returnTimer n s).log := by
  unfold returnTimer
  try dsimp only
  (repeat' split) <;> first | with_reducible exact h | simp -implicitDefEqProofs [h]

@[simp] theorem grows_windowExpiry {b : Log} (n : SupplyNo) (s : State)
    (h : Grows b s.log) : Grows b (windowExpiry n s).log := by
  unfold windowExpiry
  try dsimp only
  (repeat' split) <;> first | with_reducible exact h | simp -implicitDefEqProofs [h]

@[simp] theorem grows_ownerReadDelivery {b : Log} (source : Nat) (m : StationNo) (st : Station) (s : State)
    (h : Grows b s.log) : Grows b (ownerReadDelivery source m st s).state.log := by
  unfold ownerReadDelivery
  try dsimp only
  (repeat' split) <;> first | with_reducible exact h | simp -implicitDefEqProofs [h]

/-! ## Machine/Watches.lean -/

@[simp] theorem grows_logWatchFired {b : Log} (w : WatchNo) (v : Word) (second : Nat) (s : State)
    (h : Grows b s.log) : Grows b (logWatchFired w v second s).log := by
  unfold logWatchFired
  try dsimp only
  first | with_reducible exact h | simp -implicitDefEqProofs [h]

@[simp] theorem grows_fireNotify {b : Log} (w : WatchNo) (v : Word) (s : State)
    (h : Grows b s.log) : Grows b (fireNotify w v s).log := by
  unfold fireNotify
  try dsimp only
  first | with_reducible exact h | simp -implicitDefEqProofs [h]

@[simp] theorem grows_watchRefused {b : Log} (w : WatchNo) (v : Word) (e : Status) (s : State)
    (h : Grows b s.log) : Grows b (watchRefused w v e s).log := by
  unfold watchRefused
  try dsimp only
  (repeat' split) <;> first | with_reducible exact h | simp -implicitDefEqProofs [h]

@[simp] theorem grows_askTransfer {b : Log} (w : WatchNo) (v : Word) (retry : Bool) (s : State)
    (h : Grows b s.log) : Grows b (askTransfer w v retry s).log := by
  unfold askTransfer
  split
  · split
    · rename_i e
      exact grows_logWatchFired _ _ _ _ (grows_of_eq e (grows_admitOrPreempt _ s h))
    · rename_i e
      exact grows_watchRefused _ _ _ _ (grows_logWatchFired _ _ _ _ (grows_of_eq e (grows_admitOrPreempt _ s h)))
  · exact h

@[simp] theorem grows_fire {b : Log} (w : WatchNo) (v : Word) (s : State)
    (h : Grows b s.log) : Grows b (fire w v s).log := by
  unfold fire
  try dsimp only
  (repeat' split) <;> first | with_reducible exact h | simp -implicitDefEqProofs [h]

@[simp] theorem grows_countTrue {b : Log} (w : WatchNo) (v : Word) (s : State)
    (h : Grows b s.log) : Grows b (countTrue w v s).log := by
  unfold countTrue
  try dsimp only
  (repeat' split) <;> first | with_reducible exact h | simp -implicitDefEqProofs [h]

@[simp] theorem grows_countRetry {b : Log} (w : WatchNo) (v : Option Word) (s : State)
    (h : Grows b s.log) : Grows b (countRetry w v s).log := by
  unfold countRetry
  try dsimp only
  (repeat' split) <;> first | with_reducible exact h | simp -implicitDefEqProofs [h]

@[simp] theorem grows_moveWatch {b : Log} (w : WatchNo) (v : Option Word) (s : State)
    (h : Grows b s.log) : Grows b (moveWatch w v s).log := by
  unfold moveWatch
  try dsimp only
  (repeat' split) <;> first | with_reducible exact h | simp -implicitDefEqProofs [h]

@[simp] theorem grows_sampleWatch {b : Log} (s : State) (w : WatchNo)
    (h : Grows b s.log) : Grows b (sampleWatch s w).log := by
  unfold sampleWatch
  try dsimp only
  (repeat' split) <;> first | with_reducible exact h | simp -implicitDefEqProofs [h]

@[simp] theorem grows_sampleAll {b : Log} (s : State)
    (h : Grows b s.log) : Grows b (sampleAll s).log := by
  exact grows_foldl sampleWatch grows_sampleWatch _ s h

@[simp] theorem grows_ownerDefineWatch {b : Log} (entry : Nat) (f : WatchReq) (m : StationNo) (st : Station)
    (s : State)
    (h : Grows b s.log) : Grows b (ownerDefineWatch entry f m st s).state.log := by
  unfold ownerDefineWatch
  try dsimp only
  (repeat' split) <;> first | with_reducible exact h | simp -implicitDefEqProofs [h]

@[simp] theorem grows_ownerArm {b : Log} (mask : Word) (f : Watch → Watch) (m : StationNo) (st : Station) (s : State)
    (h : Grows b s.log) : Grows b (ownerArm mask f m st s).state.log := by
  unfold ownerArm
  try dsimp only
  first | with_reducible exact h | simp -implicitDefEqProofs [h]

@[simp] theorem grows_ownerReadWatch {b : Log} (entry : Nat) (m : StationNo) (st : Station) (s : State)
    (h : Grows b s.log) : Grows b (ownerReadWatch entry m st s).state.log := by
  unfold ownerReadWatch
  try dsimp only
  (repeat' split) <;> first | with_reducible exact h | simp -implicitDefEqProofs [h]

/-! ## Machine/Sources.lean -/

@[simp] theorem grows_ownerHire {b : Log} (source : Nat) (fields : Option Hire) (m : StationNo) (st : Station)
    (s : State)
    (h : Grows b s.log) : Grows b (ownerHire source fields m st s).state.log := by
  unfold ownerHire
  try dsimp only
  (repeat' split) <;> first | with_reducible exact h | simp -implicitDefEqProofs [h]

@[simp] theorem grows_ownerOffHire {b : Log} (source : Nat) (m : StationNo) (st : Station) (s : State)
    (h : Grows b s.log) : Grows b (ownerOffHire source m st s).state.log := by
  unfold ownerOffHire
  try dsimp only
  (repeat' split) <;> first | with_reducible exact h | simp -implicitDefEqProofs [h]

@[simp] theorem grows_logFresh {b : Log} (i : SourceNo) (wasStale : Bool) (t : Telemetry) (s : State)
    (h : Grows b s.log) : Grows b (logFresh i wasStale t s).log := by
  unfold logFresh
  try dsimp only
  (repeat' split) <;> first | with_reducible exact h | simp -implicitDefEqProofs [h]

@[simp] theorem grows_alertImplausible {b : Log} (i : SourceNo) (newly : Bool) (s : State)
    (h : Grows b s.log) : Grows b (alertImplausible i newly s).log := by
  unfold alertImplausible
  try dsimp only
  (repeat' split) <;> first | with_reducible exact h | simp -implicitDefEqProofs [h]

@[simp] theorem grows_takeReport {b : Log} (i : SourceNo) (running : Bool) (load voltage freq gauge : Nat)
    (alarms : BitVec 8) (s : State)
    (h : Grows b s.log) : Grows b (takeReport i running load voltage freq gauge alarms s).log := by
  unfold takeReport
  try dsimp only
  repeat (first
      | with_reducible exact h
      | with_reducible apply grows_changeSource
      | with_reducible apply grows_logFresh
      | with_reducible apply grows_alertImplausible
      | simp only [raise_log])

@[simp] theorem grows_ownerReport {b : Log} (source running load voltage freq gauge : Nat) (alarms : BitVec 8)
    (m : StationNo) (st : Station) (s : State)
    (h : Grows b s.log) : Grows b (ownerReport source running load voltage freq gauge alarms m st s).state.log := by
  unfold ownerReport
  try dsimp only
  (repeat' split) <;> first | with_reducible exact h | simp -implicitDefEqProofs [h]

@[simp] theorem grows_staleExpiry {b : Log} (i : SourceNo) (s : State)
    (h : Grows b s.log) : Grows b (staleExpiry i s).log := by
  unfold staleExpiry
  try dsimp only
  (repeat' split) <;> first | with_reducible exact h | simp -implicitDefEqProofs [h]

@[simp] theorem grows_ownerReadSource {b : Log} (source : Nat) (m : StationNo) (st : Station) (s : State)
    (h : Grows b s.log) : Grows b (ownerReadSource source m st s).state.log := by
  unfold ownerReadSource
  try dsimp only
  (repeat' split) <;> first | with_reducible exact h | simp -implicitDefEqProofs [h]

/-! ## Machine/Billing.lean -/

@[simp] theorem grows_secondTick {b : Log} (order : TickOrder) (s : State)
    (h : Grows b s.log) : Grows b (secondTick order s).log := by
  unfold secondTick
  try dsimp only
  (repeat' split) <;> first | with_reducible exact h | simp -implicitDefEqProofs [h]

@[simp] theorem grows_takeTime {b : Log} (time : Nat) (s : State)
    (h : Grows b s.log) : Grows b (takeTime time s).log := by
  unfold takeTime
  try dsimp only
  (repeat' split) <;> first | with_reducible exact h | simp -implicitDefEqProofs [h]

@[simp] theorem grows_ownerSetTime {b : Log} (time : Nat) (m : StationNo) (st : Station) (s : State)
    (h : Grows b s.log) : Grows b (ownerSetTime time m st s).state.log := by
  unfold ownerSetTime
  try dsimp only
  first | with_reducible exact h | simp -implicitDefEqProofs [h]

@[simp] theorem grows_ownerSetInterval {b : Log} (minutes : Nat) (m : StationNo) (st : Station) (s : State)
    (h : Grows b s.log) : Grows b (ownerSetInterval minutes m st s).state.log := by
  unfold ownerSetInterval
  try dsimp only
  (repeat' split) <;> first | with_reducible exact h | simp -implicitDefEqProofs [h]

@[simp] theorem grows_ownerDefineAccount {b : Log} (account present reference : Nat) (m : StationNo) (st : Station)
    (s : State)
    (h : Grows b s.log) : Grows b (ownerDefineAccount account present reference m st s).state.log := by
  unfold ownerDefineAccount
  try dsimp only
  (repeat' split) <;> first | with_reducible exact h | simp -implicitDefEqProofs [h]

@[simp] theorem grows_ownerRemoveAccount {b : Log} (account : Nat) (m : StationNo) (st : Station) (s : State)
    (h : Grows b s.log) : Grows b (ownerRemoveAccount account m st s).state.log := by
  unfold ownerRemoveAccount
  try dsimp only
  (repeat' split) <;> first | with_reducible exact h | simp -implicitDefEqProofs [h]

@[simp] theorem grows_ownerClosePeriod {b : Log} (m : StationNo) (st : Station) (s : State)
    (h : Grows b s.log) : Grows b (ownerClosePeriod m st s).state.log := by
  unfold ownerClosePeriod
  try dsimp only
  (repeat' split) <;> first | with_reducible exact h | simp -implicitDefEqProofs [h]

@[simp] theorem grows_releaseBank {b : Log} (k : Bank) (s : State)
    (h : Grows b s.log) : Grows b (releaseBank k s).log := by
  unfold releaseBank
  try dsimp only
  first | with_reducible exact h | simp -implicitDefEqProofs [h]

@[simp] theorem grows_ownerReleasePeriod {b : Log} (m : StationNo) (st : Station) (s : State)
    (h : Grows b s.log) : Grows b (ownerReleasePeriod m st s).state.log := by
  unfold ownerReleasePeriod
  try dsimp only
  (repeat' split) <;> first | with_reducible exact h | simp -implicitDefEqProofs [h]

@[simp] theorem grows_ownerReadAccount {b : Log} (account bank : Nat) (m : StationNo) (st : Station) (s : State)
    (h : Grows b s.log) : Grows b (ownerReadAccount account bank m st s).state.log := by
  unfold ownerReadAccount
  try dsimp only
  (repeat' split) <;> first | with_reducible exact h | simp -implicitDefEqProofs [h]

@[simp] theorem grows_ownerReadSettlement {b : Log} (m : StationNo) (st : Station) (s : State)
    (h : Grows b s.log) : Grows b (ownerReadSettlement m st s).state.log := by
  unfold ownerReadSettlement
  try dsimp only
  first | with_reducible exact h | simp -implicitDefEqProofs [h]

/-! ## Machine/Metering.lean -/

@[simp] theorem grows_risingEdge {b : Log} (k : ChannelNo) (s : State)
    (h : Grows b s.log) : Grows b (risingEdge k s).log := by
  unfold risingEdge
  try dsimp only
  (repeat' split) <;> first | with_reducible exact h | simp -implicitDefEqProofs [h]

@[simp] theorem grows_countPulse {b : Log} (k : ChannelNo) (a : AccountNo) (s : State)
    (h : Grows b s.log) : Grows b (countPulse k a s).log := by
  unfold countPulse
  try dsimp only
  first | with_reducible exact h | simp -implicitDefEqProofs [h]

@[simp] theorem grows_fallDefined {b : Log} (k : ChannelNo) (s : State)
    (h : Grows b s.log) : Grows b (fallDefined k s).log := by
  unfold fallDefined
  try dsimp only
  (repeat' split) <;> first | with_reducible exact h | simp -implicitDefEqProofs [h]

@[simp] theorem grows_fallingEdge {b : Log} (k : ChannelNo) (s : State)
    (h : Grows b s.log) : Grows b (fallingEdge k s).log := by
  unfold fallingEdge
  try dsimp only
  (repeat' split) <;> first | with_reducible exact h | simp -implicitDefEqProofs [h]

@[simp] theorem grows_channelWritten {b : Log} (k : ChannelNo) (g : Chan → Chan) (s : State)
    (h : Grows b s.log) : Grows b (channelWritten k g s).state.log := by
  unfold channelWritten
  try dsimp only
  first | with_reducible exact h | simp -implicitDefEqProofs [h]

@[simp] theorem grows_ownerDefineChannel {b : Log} (channel : Nat) (supply account : Option Nat) (wh : Nat)
    (width : Option Nat) (m : StationNo) (st : Station) (s : State)
    (h : Grows b s.log) : Grows b (ownerDefineChannel channel supply account wh width m st s).state.log := by
  unfold ownerDefineChannel
  try dsimp only
  (repeat' split) <;> first | with_reducible exact h | simp -implicitDefEqProofs [h]

@[simp] theorem grows_ownerReadChannel {b : Log} (channel : Nat) (m : StationNo) (st : Station) (s : State)
    (h : Grows b s.log) : Grows b (ownerReadChannel channel m st s).state.log := by
  unfold ownerReadChannel
  try dsimp only
  (repeat' split) <;> first | with_reducible exact h | simp -implicitDefEqProofs [h]

/-! ## Machine/Stations.lean -/

@[simp] theorem grows_ownerTakeHold {b : Log} (n : StationNo) (st : Station) (s : State)
    (h : Grows b s.log) : Grows b (ownerTakeHold n st s).state.log := by
  unfold ownerTakeHold
  try dsimp only
  (repeat' split) <;> first | with_reducible exact h | simp -implicitDefEqProofs [h]

@[simp] theorem grows_ownerReleaseHold {b : Log} (n : StationNo) (st : Station) (s : State)
    (h : Grows b s.log) : Grows b (ownerReleaseHold n st s).state.log := by
  unfold ownerReleaseHold
  try dsimp only
  (repeat' split) <;> first | with_reducible exact h | simp -implicitDefEqProofs [h]

@[simp] theorem grows_ownerForceRelease {b : Log} (n : StationNo) (st : Station) (s : State)
    (h : Grows b s.log) : Grows b (ownerForceRelease n st s).state.log := by
  unfold ownerForceRelease
  try dsimp only
  (repeat' split) <;> first | with_reducible exact h | simp -implicitDefEqProofs [h]

@[simp] theorem grows_holdLapse {b : Log} (s : State)
    (h : Grows b s.log) : Grows b (holdLapse s).log := by
  unfold holdLapse
  try dsimp only
  (repeat' split) <;> first | with_reducible exact h | simp -implicitDefEqProofs [h]

@[simp] theorem grows_ownerEnrol {b : Log} (port address role : Nat) (supply : Option Nat) (m : StationNo)
    (st : Station) (s : State)
    (h : Grows b s.log) : Grows b (ownerEnrol port address role supply m st s).state.log := by
  unfold ownerEnrol
  try dsimp only
  (repeat' split) <;> first | with_reducible exact h | simp -implicitDefEqProofs [h]

@[simp] theorem grows_freeHoldOf {b : Log} (m : StationNo) (s : State)
    (h : Grows b s.log) : Grows b (freeHoldOf m s).log := by
  unfold freeHoldOf
  try dsimp only
  (repeat' split) <;> first | with_reducible exact h | simp -implicitDefEqProofs [h]

@[simp] theorem grows_ownerRemove {b : Log} (station : Nat) (m : StationNo) (st : Station) (s : State)
    (h : Grows b s.log) : Grows b (ownerRemove station m st s).state.log := by
  unfold ownerRemove
  try dsimp only
  (repeat' split) <;> first | with_reducible exact h | simp -implicitDefEqProofs [h]

@[simp] theorem grows_ownerEnables {b : Log} (mask : BitVec 16) (value : Bool) (n : StationNo) (st : Station)
    (s : State)
    (h : Grows b s.log) : Grows b (ownerEnables mask value n st s).state.log := by
  unfold ownerEnables
  try dsimp only
  first | with_reducible exact h | simp -implicitDefEqProofs [h]

@[simp] theorem grows_ownerClearCauses {b : Log} (mask : BitVec 16) (n : StationNo) (st : Station) (s : State)
    (h : Grows b s.log) : Grows b (ownerClearCauses mask n st s).state.log := by
  unfold ownerClearCauses
  try dsimp only
  first | with_reducible exact h | simp -implicitDefEqProofs [h]

@[simp] theorem grows_ownerQuery {b : Log} (n : StationNo) (st : Station) (s : State)
    (h : Grows b s.log) : Grows b (ownerQuery n st s).state.log := by
  unfold ownerQuery
  try dsimp only
  (repeat' split) <;> first | with_reducible exact h | simp -implicitDefEqProofs [h]

@[simp] theorem grows_ownerReadLog {b : Log} (count : Nat) (n : StationNo) (st : Station) (s : State)
    (h : Grows b s.log) : Grows b (ownerReadLog count n st s).state.log := by
  unfold ownerReadLog
  try dsimp only
  (repeat' split) <;> first | with_reducible exact h | simp -implicitDefEqProofs [h]

@[simp] theorem grows_ownerSeekLog {b : Log} (position : Nat) (n : StationNo) (st : Station) (s : State)
    (h : Grows b s.log) : Grows b (ownerSeekLog position n st s).state.log := by
  unfold ownerSeekLog
  try dsimp only
  (repeat' split) <;> first | with_reducible exact h | simp -implicitDefEqProofs [h]

/-! ## Machine/Link.lean -/

@[simp] theorem grows_discardFrame {b : Log} (p : PortNo) (f : PortFlag) (s : State)
    (h : Grows b s.log) : Grows b (discardFrame p f s).log := by
  unfold discardFrame
  try dsimp only
  first | with_reducible exact h | simp -implicitDefEqProofs [h]

@[simp] theorem grows_characterGap {b : Log} (p : PortNo) (s : State)
    (h : Grows b s.log) : Grows b (characterGap p s).log := by
  unfold characterGap
  try dsimp only
  (repeat' split) <;> first | with_reducible exact h | simp -implicitDefEqProofs [h]

@[simp] theorem grows_lineQuiet {b : Log} (p : PortNo) (s : State)
    (h : Grows b s.log) : Grows b (lineQuiet p s).log := by
  unfold lineQuiet
  try dsimp only
  (repeat' split) <;> first | with_reducible exact h | simp -implicitDefEqProofs [h]

@[simp] theorem grows_restartNamed {b : Log} (q : PortNo) (s : State)
    (h : Grows b s.log) : Grows b (restartNamed q s).log := by
  unfold restartNamed
  try dsimp only
  (repeat' split) <;> first | with_reducible exact h | simp -implicitDefEqProofs [h]

@[simp] theorem grows_takeWaiting {b : Log} (p : PortNo) (waits : Bool) (s : State)
    (h : Grows b s.log) : Grows b (takeWaiting p waits s).log := by
  unfold takeWaiting
  try dsimp only
  (repeat' split) <;> first | with_reducible exact h | simp -implicitDefEqProofs [h]

@[simp] theorem grows_takeNamed {b : Log} (q : Option PortNo) (s : State)
    (h : Grows b s.log) : Grows b (takeNamed q s).log := by
  unfold takeNamed
  try dsimp only
  (repeat' split) <;> first | with_reducible exact h | simp -implicitDefEqProofs [h]

@[simp] theorem grows_replySent {b : Log} (p : PortNo) (s : State)
    (h : Grows b s.log) : Grows b (replySent p s).log := by
  unfold replySent
  try dsimp only
  (repeat' split) <;> first | with_reducible exact h | simp -implicitDefEqProofs [h]

@[simp] theorem grows_ownerSetPort {b : Log} (port : Nat) (fields : Option PortSettings) (m : StationNo)
    (st : Station) (s : State)
    (h : Grows b s.log) : Grows b (ownerSetPort port fields m st s).state.log := by
  unfold ownerSetPort
  try dsimp only
  (repeat' split) <;> first | with_reducible exact h | simp -implicitDefEqProofs [h]

@[simp] theorem grows_ownerRestartPort {b : Log} (arrived : PortNo) (port : Nat) (m : StationNo) (st : Station)
    (s : State)
    (h : Grows b s.log) : Grows b (ownerRestartPort arrived port m st s).state.log := by
  unfold ownerRestartPort
  try dsimp only
  (repeat' split) <;> first | with_reducible exact h | simp -implicitDefEqProofs [h]

@[simp] theorem grows_ownerReadPort {b : Log} (port : Nat) (m : StationNo) (st : Station) (s : State)
    (h : Grows b s.log) : Grows b (ownerReadPort port m st s).state.log := by
  unfold ownerReadPort
  try dsimp only
  (repeat' split) <;> first | with_reducible exact h | simp -implicitDefEqProofs [h]

@[simp] theorem grows_badKind {b : Log} (rq : Request) (kind : Nat) (s : State)
    (h : Grows b s.log) : Grows b (badKind rq kind s).log := by
  unfold badKind
  try dsimp only
  (repeat' split) <;> first | with_reducible exact h | simp -implicitDefEqProofs [h]

/-! ## Machine/Receive.lean -/

@[simp] theorem grows_takeBroadcast {b : Log} (p : PortNo) (f : Frame) (s : State)
    (h : Grows b s.log) : Grows b (takeBroadcast p f s).log := by
  unfold takeBroadcast
  dsimp only
  (repeat' split) <;> apply grows_broadcast <;> first
    | with_reducible exact h
    | (intro s hs
       simp -implicitDefEqProofs [hs])
    | exact fun _ hs => hs

@[simp] theorem grows_huntChar {b : Log} (p : PortNo) (c : RxChar) (s : State)
    (h : Grows b s.log) : Grows b (huntChar p c s).log := by
  unfold huntChar
  try dsimp only
  (repeat' split) <;> first | with_reducible exact h | simp -implicitDefEqProofs [h]

/-- Every next state of an outcome has a log that grows. -/
def GrowsNext (b : Log) (o : Host.Outcome State Fault Refusal) : Prop := ∀ t, o = .next t → Grows b t.log

@[simp] theorem growsNext_next {b : Log} (s : State) : GrowsNext b (.next s) ↔ Grows b s.log :=
  ⟨fun h => h s rfl, fun h t e => by injection e with e; rw [← e]; exact h⟩

theorem grows_passed {b : Log} (rq : Request) (k : Kind) (scope : Station → State → Bool)
    (owner : StationNo → Station → State → Done) (s : State)
    (ho : ∀ n st s, Grows b s.log → Grows b (owner n st s).state.log) (h : Grows b s.log) :
    GrowsNext b (.next (request rq k scope owner s)) :=
  (growsNext_next _).mpr (grows_request rq k scope owner s ho h)

theorem grows_servePassed {b : Log} (i : Instr) (s : State) (h : Grows b s.log) : GrowsNext b (servePassed i s) := by
  cases i
  case unlistedKind rq kind =>
    simp only [servePassed, execUnlistedKind, growsNext_next]
    split
    · exact h
    · exact grows_badKind _ _ _ h
  case setTime rq isBroadcast time =>
    cases isBroadcast
    · exact grows_passed _ _ _ _ _ (fun _ _ _ hs => by simp -implicitDefEqProofs [hs]) h
    · simp only [servePassed, execSetTime, growsNext_next, if_true]
      exact grows_broadcast _ _ _ _ _ (fun _ hs => by simp -implicitDefEqProofs [hs]) h
  case setShowHold rq isBroadcast supply =>
    cases isBroadcast
    · exact grows_passed _ _ _ _ _ (fun _ _ _ hs => by simp -implicitDefEqProofs [hs]) h
    · simp only [servePassed, execSetShowHold, growsNext_next, if_true]
      exact grows_broadcast _ _ _ _ _ (fun _ hs => by simp -implicitDefEqProofs [hs]) h
  all_goals first
    | exact (growsNext_next _).mpr h
    | exact grows_passed _ _ _ _ _ (fun _ _ _ hs => by simp -implicitDefEqProofs [hs]) h

theorem grows_takeRequest {b : Log} (p : PortNo) (f : Frame) (s : State) (h : Grows b s.log) :
    GrowsNext b (takeRequest p f s) := by
  unfold takeRequest
  split
  · simp [h]
  · exact grows_servePassed _ _ (by simpa using h)

theorem grows_soundFrame {b : Log} (p : PortNo) (f : Frame) (s : State) (h : Grows b s.log) :
    GrowsNext b (soundFrame p f s) := by
  unfold soundFrame
  (repeat' split) <;> first
    | exact grows_takeRequest _ _ _ h
    | simp -implicitDefEqProofs [h]

theorem grows_assembled {b : Log} (p : PortNo) (got : List Byte) (s : State) (h : Grows b s.log) :
    GrowsNext b (assembled p got s) := by
  unfold assembled
  split <;> first
    | exact grows_soundFrame _ _ _ (by simpa using h)
    | simp -implicitDefEqProofs [h]

theorem grows_receiveChar {b : Log} (p : PortNo) (c : RxChar) (s : State) (h : Grows b s.log) :
    GrowsNext b (receiveChar p c s) := by
  unfold receiveChar frameChar
  (repeat' split) <;> first
    | exact grows_assembled _ _ _ h
    | simp -implicitDefEqProofs [h]

theorem grows_receiveChars {b : Log} (p : PortNo) (cs : List RxChar) (s : State) (h : Grows b s.log) :
    GrowsNext b (receiveChars p cs s) := by
  induction cs generalizing s with
  | nil => simpa [receiveChars] using h
  | cons c cs ih =>
    intro t e
    simp only [receiveChars] at e
    split at e
    · rename_i s1 e1
      exact ih s1 (grows_receiveChar p c s h s1 e1) t e
    · rename_i n
      exact absurd e (n t)

/-! ## Machine/Restart.lean -/

@[simp] theorem grows_warmSurvey {b : Log} (s : State) (d : SlotNo)
    (h : Grows b s.log) : Grows b (warmSurvey s d).log := by
  unfold warmSurvey
  try dsimp only
  (repeat' split) <;> first | with_reducible exact h | simp -implicitDefEqProofs [h]

@[simp] theorem grows_interrupt {b : Log} (s : State) (n : SupplyNo)
    (h : Grows b s.log) : Grows b (interrupt s n).log := by
  unfold interrupt
  try dsimp only
  (repeat' split) <;> first | with_reducible exact h | simp -implicitDefEqProofs [h]

@[simp] theorem grows_restartOpen {b : Log} (n : SupplyNo) (t : Transfer) (s : State)
    (h : Grows b s.log) : Grows b (restartOpen n t s).log := by
  unfold restartOpen
  try dsimp only
  first | with_reducible exact h | simp -implicitDefEqProofs [h]

@[simp] theorem grows_warmSupply {b : Log} (s : State) (n : SupplyNo)
    (h : Grows b s.log) : Grows b (warmSupply s n).log := by
  unfold warmSupply
  try dsimp only
  (repeat' split) <;> first | with_reducible exact h | simp -implicitDefEqProofs [h]

@[simp] theorem grows_reannounce {b : Log} (s : State) (r : SettleRec)
    (h : Grows b s.log) : Grows b (reannounce s r).log := by
  unfold reannounce
  try dsimp only
  (repeat' split) <;> first | with_reducible exact h | simp -implicitDefEqProofs [h]

@[simp] theorem grows_warmBoundary {b : Log} (s : State)
    (h : Grows b s.log) : Grows b (warmBoundary s).log := by
  unfold warmBoundary
  try dsimp only
  (repeat' split) <;> first | with_reducible exact h | simp -implicitDefEqProofs [h]

@[simp] theorem grows_warmRecords {b : Log} (found : Found) (s : State)
    (h : Grows b s.log) : Grows b (warmRecords found s).log := by
  unfold warmRecords
  try dsimp only
  first | with_reducible exact h | simp -implicitDefEqProofs [h]

@[simp] theorem grows_warmPanels {b : Log} (found : Found) (s : State)
    (h : Grows b s.log) : Grows b (warmPanels found s).log := by
  unfold warmPanels
  apply grows_foldl warmSurvey grows_warmSurvey
  apply grows_foldl warmSupply grows_warmSupply
  simp only [warmLines_log]
  exact grows_foldl interrupt grows_interrupt _ _ h

@[simp] theorem grows_warmSettlement {b : Log} (s : State)
    (h : Grows b s.log) : Grows b (warmSettlement s).log := by
  unfold warmSettlement
  exact grows_warmBoundary _ (grows_foldl reannounce grows_reannounce _ _ h)

@[simp] theorem grows_warmRestart {b : Log} (elapsed : Nat) (found : Found) (s : State)
    (h : Grows b s.log) : Grows b (warmRestart elapsed found s).log := by
  unfold warmRestart
  try dsimp only
  repeat (first
      | with_reducible exact h
      | with_reducible apply grows_logAppend
      | with_reducible apply grows_warmRecords
      | with_reducible apply grows_warmPanels
      | with_reducible apply grows_warmSettlement
      | simp only [warmStations_log, outage_log])

end Sys2Proof.Machine
end

