-- ==== Sys2Proof/Laws/Still.lean ====
section
/-! SUPPORT. Laws/Still.lean: what the work of the panels, transfers, sources, deliveries and watches leaves alone: the
queue, the ports, the hold and the identity of every station, STL, MTR, the sync limits, the fuel price and the fill
points. One lemma per shared operation. -/

namespace Sys2Proof.Machine

/-- What no raise and no log record changes in a station. -/
structure Ident where
  port : PortNo
  addr : Nat
  role : Role
  bound : Option SupplyNo
  enables : Vector Bool 11
  cursor : Nat
  lastRequest : Nat
  deriving DecidableEq, Repr

def Station.ident (st : Station) : Ident :=
  { port := st.port, addr := st.addr, role := st.role, bound := st.bound, enables := st.enables, cursor := st.cursor,
    lastRequest := st.lastRequest }

/-- The parts of the state that the shared operations leave alone. -/
structure Still where
  pending : List Instr
  lnk : Vector Port 4
  hold : Option StationNo
  idents : Vector (Option Ident) 32
  stl : Stl
  mtr : Mtr
  limits : SyncLimits
  price : Nat
  fill : Vector Bool 16
  fillUnread : Vector Bool 16

def State.idents (s : State) : Vector (Option Ident) 32 := tab fun n => (s.station n).map Station.ident

def State.still (s : State) : Still :=
  { pending := s.pending, lnk := s.lnk, hold := s.stn.hold, idents := s.idents, stl := s.stl, mtr := s.mtr,
    limits := s.syn.limits, price := s.tnk.price, fill := s.dlv.fill, fillUnread := s.dlv.fillUnread }

/-! ## The named updates -/

@[simp] theorem still_setSource (i : SourceNo) (r : Source) (s : State) : (setSource i r s).still = s.still := rfl
@[simp] theorem still_setSupply (n : SupplyNo) (r : Supply) (s : State) : (setSupply n r s).still = s.still := rfl
@[simp] theorem still_setInput (n : SupplyNo) (x : Input) (r : InputRec) (s : State) : (setInput n x r s).still = s.still := rfl
@[simp] theorem still_setSlot (n : SupplyNo) (r : Option Transfer) (s : State) : (setSlot n r s).still = s.still := rfl
@[simp] theorem still_setCounter (k : Nat) (s : State) : (setCounter k s).still = s.still := rfl
@[simp] theorem still_setSync (c : SyncNo) (r : SyncChan) (s : State) : (setSync c r s).still = s.still := rfl
@[simp] theorem still_setQueue (q : List QueueEntry) (s : State) : (setQueue q s).still = s.still := rfl
@[simp] theorem still_setTankRec (i : SourceNo) (r : Tank) (s : State) : (setTankRec i r s).still = s.still := rfl
@[simp] theorem still_setDelivery (d : SlotNo) (r : Option Delivery) (s : State) : (setDelivery d r s).still = s.still := rfl
@[simp] theorem still_setLastEnded (i : SourceNo) (r : Option Delivery) (s : State) : (setLastEnded i r s).still = s.still := rfl
@[simp] theorem still_setReturns (l : List ReturnEntry) (s : State) : (setReturns l s).still = s.still := rfl
@[simp] theorem still_setWatch (w : WatchNo) (r : Watch) (s : State) : (setWatch w r s).still = s.still := rfl
@[simp] theorem still_setLog (l : Log) (s : State) : (setLog l s).still = s.still := rfl
@[simp] theorem still_advanceTo (t : Nat) (s : State) : (advanceTo t s).still = s.still := rfl
@[simp] theorem still_advanceToMs (t : Nat) (s : State) : (advanceToMs t s).still = s.still := rfl
@[simp] theorem still_modSource (i : SourceNo) (f : Source → Source) (s : State) : (modSource i f s).still = s.still := rfl
@[simp] theorem still_modSupply (n : SupplyNo) (f : Supply → Supply) (s : State) : (modSupply n f s).still = s.still := rfl
@[simp] theorem still_modInput (n : SupplyNo) (x : Input) (f : InputRec → InputRec) (s : State) : (modInput n x f s).still = s.still := rfl
@[simp] theorem still_modSlot (n : SupplyNo) (f : Transfer → Transfer) (s : State) : (modSlot n f s).still = s.still := rfl
@[simp] theorem still_modDelivery (d : SlotNo) (f : Delivery → Delivery) (s : State) : (modDelivery d f s).still = s.still := rfl
@[simp] theorem still_modWatch (w : WatchNo) (f : Watch → Watch) (s : State) : (modWatch w f s).still = s.still := rfl

@[simp] theorem ident_withFlag (d : Detail) (st : Station) : (withFlag d st).ident = st.ident := rfl

@[simp] theorem ident_markGap (lost oldest : Nat) (st : Station) : (markGap lost oldest st).ident = st.ident := by
  unfold markGap
  split <;> rfl

/-- A change of every station that leaves each one's identity alone. -/
theorem still_eachStation (f : StationNo → Station → Station) (h : ∀ n st, (f n st).ident = st.ident) (s : State) :
    (eachStation f s).still = s.still := by
  have e : (eachStation f s).idents = s.idents := by
    apply table_ext
    intro n
    simp only [State.idents, State.station, eachStation, look_tab]
    cases look s.stn.stations n <;> simp [h]
  unfold State.still
  rw [e]
  simp only [eachStation]

@[simp] theorem still_raise (d : Detail) (who : StationNo → Station → Bool) (s : State) : (raise d who s).still = s.still := by
  apply still_eachStation
  intro n st
  split <;> rfl

@[simp] theorem still_logAppend (kind : LogKind) (subject v1 v2 : Option Nat) (s : State) :
    (logAppend kind subject v1 v2 s).still = s.still := by
  unfold logAppend
  dsimp only
  (repeat' split) <;> simp [still_eachStation]

theorem still_foldl {α : Type} (f : State → α → State) (h : ∀ s a, (f s a).still = s.still) (l : List α) (s : State) :
    (l.foldl f s).still = s.still := by
  induction l generalizing s with
  | nil => rfl
  | cons a l ih => simp [ih, h]

/-- The state in a result whose parts are named. -/
theorem still_of_eq {α : Type} {r : With α} {t s : State} {v : α} (e : r = ⟨t, v⟩) (h : r.state.still = s.still) :
    t.still = s.still := by
  rw [e] at h
  exact h

@[simp] theorem still_resetRuns (s : State) : (resetRuns s).still = s.still := by
  simp only [resetRuns, State.still, State.idents, State.station]
@[simp] theorem still_showHoldAll (value : Bool) (s : State) : (showHoldAll value s).still = s.still := by
  simp only [showHoldAll, State.still, State.idents, State.station]
@[simp] theorem still_eachWatch (mask : Word) (f : Watch → Watch) (s : State) :
    (eachWatch mask f s).still = s.still := by
  simp only [eachWatch, State.still, State.idents, State.station]
@[simp] theorem still_syncCrossing (n : SupplyNo) (x : Input) (time period : Nat) (s : State) :
    (syncCrossing n x time period s).still = s.still := by
  simp only [syncCrossing, State.still, State.idents, State.station]
@[simp] theorem still_ownerArm (mask : Word) (f : Watch → Watch) (m : StationNo) (st : Station) (s : State) :
    (ownerArm mask f m st s).state.still = s.still := still_eachWatch mask f s
@[simp] theorem still_refuse (e : Status) (s : State) : (refuse e s).state.still = s.still := rfl

/-! ## Machine/Sync.lean -/

@[simp] theorem still_grantChannel (c : SyncNo) (n : SupplyNo) (s : State) :
    (grantChannel c n s).still = s.still := by
  unfold grantChannel
  try dsimp only
  (repeat' split) <;> simp

@[simp] theorem still_requestChannel (n : SupplyNo) (s : State) :
    (requestChannel n s).still = s.still := by
  unfold requestChannel
  try dsimp only
  (repeat' split) <;> simp

@[simp] theorem still_releaseChannel (ticket : Nat) (s : State) :
    (releaseChannel ticket s).still = s.still := by
  unfold releaseChannel
  try dsimp only
  (repeat' split) <;> simp

/-! ## Machine/Admission.lean -/

@[simp] theorem still_startPulse (n : SupplyNo) (x : Input) (dir : Dir) (restart : Bool) (s : State) :
    (startPulse n x dir restart s).still = s.still := by
  unfold startPulse
  try dsimp only
  (repeat' split) <;> simp

@[simp] theorem still_commandClose (n : SupplyNo) (x : Input) (inStep : Bool) (s : State) :
    (commandClose n x inStep s).still = s.still := by
  unfold commandClose
  try dsimp only
  (repeat' split) <;> simp

@[simp] theorem still_openOrigin (n : SupplyNo) (t : Transfer) (s : State) :
    (openOrigin n t s).still = s.still := by
  unfold openOrigin
  try dsimp only
  (repeat' split) <;> simp

@[simp] theorem still_enterOpening (n : SupplyNo) (s : State) :
    (enterOpening n s).still = s.still := by
  unfold enterOpening
  try dsimp only
  (repeat' split) <;> simp

@[simp] theorem still_enterDead (n : SupplyNo) (s : State) :
    (enterDead n s).still = s.still := by
  unfold enterDead
  try dsimp only
  simp

@[simp] theorem still_enterClosing (n : SupplyNo) (s : State) :
    (enterClosing n s).still = s.still := by
  unfold enterClosing
  try dsimp only
  (repeat' split) <;> simp

@[simp] theorem still_enterReclose (n : SupplyNo) (result : Result) (s : State) :
    (enterReclose n result s).still = s.still := by
  unfold enterReclose
  try dsimp only
  (repeat' split) <;> simp

@[simp] theorem still_enterParallelClose (n : SupplyNo) (s : State) :
    (enterParallelClose n s).still = s.still := by
  unfold enterParallelClose
  try dsimp only
  (repeat' split) <;> simp

@[simp] theorem still_enterParallelOpen (n : SupplyNo) (s : State) :
    (enterParallelOpen n s).still = s.still := by
  unfold enterParallelOpen
  try dsimp only
  (repeat' split) <;> simp

@[simp] theorem still_enterSettle (n : SupplyNo) (s : State) :
    (enterSettle n s).still = s.still := by
  unfold enterSettle
  try dsimp only
  simp

@[simp] theorem still_enterSyncWait (n : SupplyNo) (s : State) :
    (enterSyncWait n s).still = s.still := by
  unfold enterSyncWait
  try dsimp only
  simp

@[simp] theorem still_feedFrom (n : SupplyNo) (closed : Option Input) (record : Option SourceNo) (s : State) :
    (feedFrom n closed record s).still = s.still := by
  unfold feedFrom
  try dsimp only
  simp

@[simp] theorem still_drawTicket (s : State) :
    (drawTicket s).still = s.still := by
  unfold drawTicket
  try dsimp only
  simp

@[simp] theorem still_chooseTarget (pre : Option Nat) (q : Ask) (s : State) :
    (chooseTarget pre q s).state.still = s.still := by
  unfold chooseTarget
  try dsimp only
  (repeat' split) <;> simp

@[simp] theorem still_enterFirst (n : SupplyNo) (m : ModeEff) (s : State) :
    (enterFirst n m s).still = s.still := by
  unfold enterFirst
  try dsimp only
  (repeat' split) <;> simp

@[simp] theorem still_beginTransfer (q : Ask) (k : Chosen) (trip : Option Input) (s : State) :
    (beginTransfer q k trip s).still = s.still := by
  unfold beginTransfer
  try dsimp only
  simp

@[simp] theorem still_setClaim (k : Chosen) (s : State) :
    (setClaim k s).still = s.still := by
  unfold setClaim
  try dsimp only
  simp

@[simp] theorem still_claimAndBegin (q : Ask) (k : Chosen) (s : State) :
    (claimAndBegin q k s).state.still = s.still := by
  unfold claimAndBegin
  try dsimp only
  (repeat' split) <;> simp

@[simp] theorem still_judge (q : Ask) (s : State) :
    (judge q s).state.still = s.still := by
  unfold judge
  try dsimp only
  (repeat' split) <;> simp

@[simp] theorem still_admission (q : Ask) (s : State) :
    (admission q s).state.still = s.still := by
  unfold admission
  try dsimp only
  (repeat' split) <;> first
    | (rename_i h; simp [still_of_eq h (still_judge q s)]; done)
    | simp

@[simp] theorem still_restoreRefused (n : SupplyNo) (e : Status) (s : State) :
    (restoreRefused n e s).still = s.still := by
  unfold restoreRefused
  try dsimp only
  simp

@[simp] theorem still_judgeRestores (ns : List SupplyNo) (s : State) :
    (judgeRestores ns s).state.still = s.still := by
  have h : ∀ (l : List SupplyNo) (a : With (List (SupplyNo × Except Status Chosen))),
      (l.foldl (fun acc n => ⟨(judge (restoreAsk n) acc.state).state,
        acc.val ++ [(n, (judge (restoreAsk n) acc.state).val)]⟩) a).state.still = a.state.still := by
    intro l
    induction l with
    | nil => intro a; rfl
    | cons n l ih => intro a; simp [ih]
  exact h ns ⟨s, []⟩

@[simp] theorem still_takeRestore (s : State) (v : SupplyNo × Except Status Chosen) :
    (takeRestore s v).still = s.still := by
  unfold takeRestore
  try dsimp only
  (repeat' split) <;> first
    | (rename_i h; simp [still_of_eq h (still_claimAndBegin _ _ s)]; done)
    | simp

@[simp] theorem still_restoreRequests (ns : List SupplyNo) (s : State) :
    (restoreRequests ns s).still = s.still := by
  unfold restoreRequests
  dsimp only
  rw [still_foldl takeRestore still_takeRestore]
  simp

@[simp] theorem still_restoreRequest (n : SupplyNo) (s : State) :
    (restoreRequest n s).still = s.still := by
  unfold restoreRequest
  try dsimp only
  simp

@[simp] theorem still_reportAvailable (i : SourceNo) (s : State) :
    (reportAvailable i s).still = s.still := by
  unfold reportAvailable
  try dsimp only
  simp

@[simp] theorem still_changeSource (i : SourceNo) (f : Source → Source) (s : State) :
    (changeSource i f s).still = s.still := by
  unfold changeSource
  try dsimp only
  (repeat' split) <;> simp

/-! ## Machine/Moves.lean -/

@[simp] theorem still_reportBlock (d : SlotNo) (n : SupplyNo) (why : StatusOrResult) (s : State) :
    (reportBlock d n why s).still = s.still := by
  unfold reportBlock
  try dsimp only
  (repeat' split) <;> simp

@[simp] theorem still_putReturn (e : ReturnEntry) (s : State) :
    (putReturn e s).still = s.still := by
  unfold putReturn
  try dsimp only
  simp

@[simp] theorem still_dropReturn (n : SupplyNo) (s : State) :
    (dropReturn n s).still = s.still := by
  unfold dropReturn
  try dsimp only
  simp

@[simp] theorem still_abandonReturn (e : ReturnEntry) (s : State) :
    (abandonReturn e s).still = s.still := by
  unfold abandonReturn
  try dsimp only
  simp

@[simp] theorem still_unloadFailed (d : SlotNo) (n : SupplyNo) (result : Result) (s : State) :
    (unloadFailed d n result s).still = s.still := by
  unfold unloadFailed
  try dsimp only
  simp

@[simp] theorem still_tellUnloadFailed (n : SupplyNo) (t : Transfer) (result : Result) (s : State) :
    (tellUnloadFailed n t result s).still = s.still := by
  unfold tellUnloadFailed
  try dsimp only
  (repeat' split) <;> simp

@[simp] theorem still_tellReturnFailed (t : Transfer) (result : Result) (s : State) :
    (tellReturnFailed t result s).still = s.still := by
  unfold tellReturnFailed
  try dsimp only
  (repeat' split) <;> simp

/-! ## Machine/Preempt.lean -/

@[simp] theorem still_closeWindows (n : SupplyNo) (s : State) :
    (closeWindows n s).still = s.still := by
  unfold closeWindows
  try dsimp only
  simp

@[simp] theorem still_releaseSteps (n : SupplyNo) (t : Transfer) (result : Result) (s : State) :
    (releaseSteps n t result s).still = s.still := by
  unfold releaseSteps
  try dsimp only
  simp

@[simp] theorem still_reportEnd (n : SupplyNo) (t : Transfer) (result : Result) (s : State) :
    (reportEnd n t result s).still = s.still := by
  unfold reportEnd
  try dsimp only
  simp

@[simp] theorem still_tellWatch (w : WatchNo) (t : Transfer) (result : Result) (s : State) :
    (tellWatch w t result s).still = s.still := by
  unfold tellWatch
  try dsimp only
  simp

@[simp] theorem still_tellFailed (n : SupplyNo) (t : Transfer) (result : Result) (s : State) :
    (tellFailed n t result s).still = s.still := by
  unfold tellFailed
  try dsimp only
  (repeat' split) <;> simp

@[simp] theorem still_endPreempted (n : SupplyNo) (s : State) :
    (endPreempted n s).still = s.still := by
  unfold endPreempted
  try dsimp only
  (repeat' split) <;> simp

@[simp] theorem still_preempt (q : Ask) (t : Transfer) (s : State) :
    (preempt q t s).state.still = s.still := by
  unfold preempt
  split
  · rename_i h
    exact still_of_eq h (still_chooseTarget _ _ s)
  · rename_i h
    have e := still_of_eq h (still_chooseTarget _ _ s)
    split <;> simp [e]

@[simp] theorem still_admitOrPreempt (q : Ask) (s : State) :
    (admitOrPreempt q s).state.still = s.still := by
  unfold admitOrPreempt
  try dsimp only
  (repeat' split) <;> simp

/-! ## Machine/Delivery.lean -/

@[simp] theorem still_surveyStepOne (d : SlotNo) (s : State) :
    (surveyStepOne d s).state.still = s.still := by
  unfold surveyStepOne
  try dsimp only
  (repeat' split) <;> simp

@[simp] theorem still_clearBlocked (d : SlotNo) (s : State) :
    (clearBlocked d s).still = s.still := by
  unfold clearBlocked
  try dsimp only
  simp

@[simp] theorem still_requestUnload (d : SlotNo) (s : State) (n : SupplyNo) :
    (requestUnload d s n).still = s.still := by
  unfold requestUnload
  try dsimp only
  (repeat' split) <;> first
    | (rename_i h; simp [still_of_eq h (still_admitOrPreempt _ s)]; done)
    | simp

@[simp] theorem still_survey (d : SlotNo) (s : State) :
    (survey d s).still = s.still := by
  unfold survey
  split
  · rename_i h
    exact still_of_eq h (still_surveyStepOne d s)
  · rename_i h
    rw [still_foldl (requestUnload d) (still_requestUnload d), still_clearBlocked]
    exact still_of_eq h (still_surveyStepOne d s)

@[simp] theorem still_startSurveyTimer (d : SlotNo) (s : State) :
    (startSurveyTimer d s).still = s.still := by
  unfold startSurveyTimer
  try dsimp only
  simp

@[simp] theorem still_returnAttempt (n : SupplyNo) (s : State) :
    (returnAttempt n s).still = s.still := by
  unfold returnAttempt
  try dsimp only
  (repeat' split) <;> first
    | (rename_i h; simp [still_of_eq h (still_admitOrPreempt _ s)]; done)
    | simp

@[simp] theorem still_makeReturn (i : SourceNo) (d : SlotNo) (s : State) (m : MovedEntry) :
    (makeReturn i d s m).still = s.still := by
  unfold makeReturn
  try dsimp only
  (repeat' split) <;> simp

@[simp] theorem still_tankCredit (i : SourceNo) (credit : Nat) (s : State) :
    (tankCredit i credit s).still = s.still := by
  unfold tankCredit
  try dsimp only
  (repeat' split) <;> simp

@[simp] theorem still_endDelivery (d : SlotNo) (st : DeliveryState) (credit : Nat) (s : State) :
    (endDelivery d st credit s).still = s.still := by
  unfold endDelivery
  split
  · dsimp only
    simp only [still_raise, still_logAppend, still_setDelivery, still_setLastEnded]
    rw [still_foldl _ (still_makeReturn _ _)]
    (repeat' split) <;> simp
  · rfl

@[simp] theorem still_raiseLoaded (d : SlotNo) (s : State) :
    (raiseLoaded d s).still = s.still := by
  unfold raiseLoaded
  try dsimp only
  (repeat' split) <;> simp

@[simp] theorem still_loadedByHand (i : SourceNo) (s : State) :
    (loadedByHand i s).still = s.still := by
  unfold loadedByHand
  try dsimp only
  (repeat' split) <;> simp

/-! ## Machine/Panel.lean -/

@[simp] theorem still_markFaulted (n : SupplyNo) (x : Input) (dir : Dir) (s : State) :
    (markFaulted n x dir s).still = s.still := by
  unfold markFaulted
  try dsimp only
  simp

@[simp] theorem still_clearWaiting (n : SupplyNo) (s : State) :
    (clearWaiting n s).still = s.still := by
  unfold clearWaiting
  try dsimp only
  simp

@[simp] theorem still_derived (n : SupplyNo) (st : SupplyState) (closed : Option Input) (record : Option SourceNo) (s : State) :
    (derived n st closed record s).still = s.still := by
  unfold derived
  try dsimp only
  simp

@[simp] theorem still_reportTrip (n : SupplyNo) (x : Input) (s : State) :
    (reportTrip n x s).still = s.still := by
  unfold reportTrip
  try dsimp only
  simp

@[simp] theorem still_restoreIfSet (n : SupplyNo) (s : State) :
    (restoreIfSet n s).still = s.still := by
  unfold restoreIfSet
  try dsimp only
  (repeat' split) <;> simp

@[simp] theorem still_panelFault (n : SupplyNo) (x : Input) (closed : Bool) (s : State) :
    (panelFault n x closed s).still = s.still := by
  unfold panelFault
  try dsimp only
  (repeat' split) <;> simp

@[simp] theorem still_logUncommanded (n : SupplyNo) (x : Input) (closed : Bool) (s : State) :
    (logUncommanded n x closed s).still = s.still := by
  unfold logUncommanded
  try dsimp only
  simp

@[simp] theorem still_deriveFault (n : SupplyNo) (s : State) :
    (deriveFault n s).still = s.still := by
  unfold deriveFault
  try dsimp only
  simp

@[simp] theorem still_deriveOne (n : SupplyNo) (x : Input) (s : State) :
    (deriveOne n x s).still = s.still := by
  unfold deriveOne
  try dsimp only
  (repeat' split) <;> simp

@[simp] theorem still_derive (n : SupplyNo) (s : State) :
    (derive n s).still = s.still := by
  unfold derive
  try dsimp only
  (repeat' split) <;> simp

/-! ## Machine/TransferEnd.lean -/

@[simp] theorem still_unloadDone (d : SlotNo) (n : SupplyNo) (t : Transfer) (s : State) :
    (unloadDone d n t s).still = s.still := by
  unfold unloadDone
  try dsimp only
  (repeat' split) <;> simp

@[simp] theorem still_lateUnloadDone (i : SourceNo) (r : Delivery) (n : SupplyNo) (t : Transfer) (s : State) :
    (lateUnloadDone i r n t s).still = s.still := by
  unfold lateUnloadDone
  try dsimp only
  simp

@[simp] theorem still_tellUnloadDone (n : SupplyNo) (t : Transfer) (s : State) :
    (tellUnloadDone n t s).still = s.still := by
  unfold tellUnloadDone
  try dsimp only
  (repeat' split) <;> simp

@[simp] theorem still_tellReturnDone (t : Transfer) (s : State) :
    (tellReturnDone t s).still = s.still := by
  unfold tellReturnDone
  try dsimp only
  (repeat' split) <;> simp

@[simp] theorem still_tellCompleted (n : SupplyNo) (t : Transfer) (result : Result) (s : State) :
    (tellCompleted n t result s).still = s.still := by
  unfold tellCompleted
  try dsimp only
  (repeat' split) <;> simp

@[simp] theorem still_tellOriginator (n : SupplyNo) (t : Transfer) (result : Result) (s : State) :
    (tellOriginator n t result s).still = s.still := by
  unfold tellOriginator
  try dsimp only
  (repeat' split) <;> simp

@[simp] theorem still_afterEnd (a : After) (n : SupplyNo) (s : State) :
    (afterEnd a n s).still = s.still := by
  unfold afterEnd
  try dsimp only
  (repeat' split) <;> simp

@[simp] theorem still_raiseFault (n : SupplyNo) (x : Option Input) (s : State) :
    (raiseFault n x s).still = s.still := by
  unfold raiseFault
  try dsimp only
  (repeat' split) <;> simp

@[simp] theorem still_endWith (a : After) (fault : Option Input) (n : SupplyNo) (result : Result) (s : State) :
    (endWith a fault n result s).still = s.still := by
  unfold endWith
  try dsimp only
  (repeat' split) <;> simp

@[simp] theorem still_endTransfer (n : SupplyNo) (result : Result) (s : State) :
    (endTransfer n result s).still = s.still := by
  unfold endTransfer
  try dsimp only
  (repeat' split) <;> simp

@[simp] theorem still_endBoth (n : SupplyNo) (x : Input) (s : State) :
    (endBoth n x s).still = s.still := by
  unfold endBoth
  try dsimp only
  simp

@[simp] theorem still_uncommanded (n : SupplyNo) (x : Input) (closed : Bool) (s : State) :
    (uncommanded n x closed s).still = s.still := by
  unfold uncommanded
  try dsimp only
  simp

/-! ## Machine/Transfers.lean -/

@[simp] theorem still_ownerTransfer (supply target mode priority : Nat) (n : StationNo) (st : Station) (s : State) :
    (ownerTransfer supply target mode priority n st s).state.still = s.still := by
  unfold ownerTransfer
  try dsimp only
  (repeat' split) <;> first
    | (rename_i h; simp [still_of_eq h (still_admitOrPreempt _ s)]; done)
    | simp

@[simp] theorem still_takeGrant (n : SupplyNo) (s : State) :
    (takeGrant n s).still = s.still := by
  unfold takeGrant
  try dsimp only
  (repeat' split) <;> simp

@[simp] theorem still_leaveSync (n : SupplyNo) (t : Transfer) (s : State) :
    (leaveSync n t s).still = s.still := by
  unfold leaveSync
  try dsimp only
  simp

@[simp] theorem still_takeInStep (n : SupplyNo) (t : Transfer) (s : State) :
    (takeInStep n t s).still = s.still := by
  unfold takeInStep
  try dsimp only
  (repeat' split) <;> simp

@[simp] theorem still_inStep (c : SyncNo) (s : State) :
    (inStep c s).still = s.still := by
  unfold inStep
  try dsimp only
  (repeat' split) <;> simp

@[simp] theorem still_syncTimeout (n : SupplyNo) (s : State) :
    (syncTimeout n s).still = s.still := by
  unfold syncTimeout
  try dsimp only
  (repeat' split) <;> simp

@[simp] theorem still_convertToBreak (n : SupplyNo) (t : Transfer) (s : State) :
    (convertToBreak n t s).still = s.still := by
  unfold convertToBreak
  try dsimp only
  simp

@[simp] theorem still_handleTrip (n : SupplyNo) (t : Transfer) (x : Input) (s : State) :
    (handleTrip n t x s).still = s.still := by
  unfold handleTrip
  try dsimp only
  (repeat' split) <;> simp

@[simp] theorem still_takeTripReport (n : SupplyNo) (s : State) :
    (takeTripReport n s).still = s.still := by
  unfold takeTripReport
  try dsimp only
  (repeat' split) <;> simp

@[simp] theorem still_afterOpening (n : SupplyNo) (t : Transfer) (s : State) :
    (afterOpening n t s).still = s.still := by
  unfold afterOpening
  try dsimp only
  (repeat' split) <;> simp

@[simp] theorem still_originOpened (n : SupplyNo) (t : Transfer) (s : State) :
    (originOpened n t s).still = s.still := by
  unfold originOpened
  try dsimp only
  (repeat' split) <;> simp

@[simp] theorem still_confirmed (n : SupplyNo) (x : Input) (closed : Bool) (s : State) :
    (confirmed n x closed s).still = s.still := by
  unfold confirmed
  try dsimp only
  (repeat' split) <;> simp

@[simp] theorem still_closingTimedOut (n : SupplyNo) (t : Transfer) (s : State) :
    (closingTimedOut n t s).still = s.still := by
  unfold closingTimedOut
  try dsimp only
  (repeat' split) <;> simp

@[simp] theorem still_timedOut (n : SupplyNo) (x : Input) (dir : Dir) (s : State) :
    (timedOut n x dir s).still = s.still := by
  unfold timedOut
  try dsimp only
  (repeat' split) <;> simp

@[simp] theorem still_overlapExpiry (n : SupplyNo) (s : State) :
    (overlapExpiry n s).still = s.still := by
  unfold overlapExpiry
  try dsimp only
  (repeat' split) <;> simp

@[simp] theorem still_deadTimeExpiry (n : SupplyNo) (s : State) :
    (deadTimeExpiry n s).still = s.still := by
  unfold deadTimeExpiry
  try dsimp only
  (repeat' split) <;> simp

@[simp] theorem still_settleTimeExpiry (n : SupplyNo) (s : State) :
    (settleTimeExpiry n s).still = s.still := by
  unfold settleTimeExpiry
  try dsimp only
  (repeat' split) <;> simp

@[simp] theorem still_abortEffect (n : SupplyNo) (t : Transfer) (s : State) :
    (abortEffect n t s).state.still = s.still := by
  unfold abortEffect
  try dsimp only
  (repeat' split) <;> simp

@[simp] theorem still_ownerAbort (supply ticket : Nat) (m : StationNo) (st : Station) (s : State) :
    (ownerAbort supply ticket m st s).state.still = s.still := by
  unfold ownerAbort
  try dsimp only
  (repeat' split) <;> simp

@[simp] theorem still_ownerReadTransfer (supply : Nat) (m : StationNo) (st : Station) (s : State) :
    (ownerReadTransfer supply m st s).state.still = s.still := by
  unfold ownerReadTransfer
  try dsimp only
  (repeat' split) <;> simp

/-! ## Machine/Supplies.lean -/

@[simp] theorem still_afterDefine (n : SupplyNo) (before : Supply) (s : State) :
    (afterDefine n before s).still = s.still := by
  unfold afterDefine
  try dsimp only
  (repeat' split) <;> simp

@[simp] theorem still_ownerDefineSupply (supply : Nat) (fields : Option SupplyFields) (m : StationNo) (st : Station) (s : State) :
    (ownerDefineSupply supply fields m st s).state.still = s.still := by
  unfold ownerDefineSupply
  try dsimp only
  (repeat' split) <;> simp

@[simp] theorem still_watchSettle (n : SupplyNo) (x : Input) (before : Bool) (s : State) :
    (watchSettle n x before s).still = s.still := by
  unfold watchSettle
  try dsimp only
  (repeat' split) <;> simp

@[simp] theorem still_restored (n : SupplyNo) (x : Input) (s : State) :
    (restored n x s).still = s.still := by
  unfold restored
  try dsimp only
  simp

@[simp] theorem still_gained (n : SupplyNo) (x : Input) (s : State) :
    (gained n x s).still = s.still := by
  unfold gained
  try dsimp only
  (repeat' split) <;> simp

@[simp] theorem still_senseCrossing (n : SupplyNo) (x : Input) (s : State) :
    (senseCrossing n x s).still = s.still := by
  unfold senseCrossing
  try dsimp only
  (repeat' split) <;> simp

@[simp] theorem still_voltageLoss (n : SupplyNo) (x : Input) (s : State) :
    (voltageLoss n x s).still = s.still := by
  unfold voltageLoss
  try dsimp only
  (repeat' split) <;> simp

@[simp] theorem still_tripLive (n : SupplyNo) (x : Input) (s : State) :
    (tripLive n x s).still = s.still := by
  unfold tripLive
  try dsimp only
  simp

@[simp] theorem still_tripInTransfer (n : SupplyNo) (x : Input) (s : State) :
    (tripInTransfer n x s).still = s.still := by
  unfold tripInTransfer
  try dsimp only
  simp

@[simp] theorem still_supplyTrip (n : SupplyNo) (s : State) :
    (supplyTrip n s).still = s.still := by
  unfold supplyTrip
  try dsimp only
  (repeat' split) <;> simp

@[simp] theorem still_closeWindow (n : SupplyNo) (x : Input) (s : State) :
    (closeWindow n x s).still = s.still := by
  unfold closeWindow
  try dsimp only
  simp

@[simp] theorem still_judgeChange (n : SupplyNo) (x : Input) (closed : Bool) (w : Option Window) (s : State) :
    (judgeChange n x closed w s).still = s.still := by
  unfold judgeChange
  try dsimp only
  (repeat' split) <;> simp

@[simp] theorem still_auxChange (n : SupplyNo) (x : Input) (closed : Bool) (s : State) :
    (auxChange n x closed s).still = s.still := by
  unfold auxChange
  try dsimp only
  (repeat' split) <;> simp

@[simp] theorem still_restartTimedOut (n : SupplyNo) (x : Input) (dir : Dir) (s : State) :
    (restartTimedOut n x dir s).still = s.still := by
  unfold restartTimedOut
  try dsimp only
  simp

@[simp] theorem still_confirmTimeout (n : SupplyNo) (x : Input) (s : State) :
    (confirmTimeout n x s).still = s.still := by
  unfold confirmTimeout
  try dsimp only
  (repeat' split) <;> simp

@[simp] theorem still_pulseEnd (n : SupplyNo) (x : Input) (dir : Dir) (s : State) :
    (pulseEnd n x dir s).still = s.still := by
  unfold pulseEnd
  try dsimp only
  (repeat' split) <;> simp

@[simp] theorem still_clearFaulted (n : SupplyNo) (s : State) :
    (clearFaulted n s).still = s.still := by
  unfold clearFaulted
  try dsimp only
  simp

@[simp] theorem still_ownerClearFault (supply : Nat) (m : StationNo) (st : Station) (s : State) :
    (ownerClearFault supply m st s).state.still = s.still := by
  unfold ownerClearFault
  try dsimp only
  (repeat' split) <;> simp

@[simp] theorem still_ownerShowHold (value : Bool) (supply : Nat) (m : StationNo) (st : Station) (s : State) :
    (ownerShowHold value supply m st s).state.still = s.still := by
  unfold ownerShowHold
  try dsimp only
  (repeat' split) <;> simp

@[simp] theorem still_ownerReadSupply (supply : Nat) (m : StationNo) (st : Station) (s : State) :
    (ownerReadSupply supply m st s).state.still = s.still := by
  unfold ownerReadSupply
  try dsimp only
  (repeat' split) <;> simp

/-! ## Machine/Fuel.lean -/

@[simp] theorem still_ownerSetTank (source capacity floor level : Nat) (m : StationNo) (st : Station) (s : State) :
    (ownerSetTank source capacity floor level m st s).state.still = s.still := by
  unfold ownerSetTank
  try dsimp only
  (repeat' split) <;> simp

@[simp] theorem still_ownerReadTank (source : Nat) (m : StationNo) (st : Station) (s : State) :
    (ownerReadTank source m st s).state.still = s.still := by
  unfold ownerReadTank
  try dsimp only
  (repeat' split) <;> simp

@[simp] theorem still_startCold (d : SlotNo) (i : SourceNo) (s : State) :
    (startCold d i s).still = s.still := by
  unfold startCold
  try dsimp only
  (repeat' split) <;> simp

@[simp] theorem still_arm (d : SlotNo) (f : ArmFields) (s : State) :
    (arm d f s).still = s.still := by
  unfold arm
  try dsimp only
  (repeat' split) <;> simp

@[simp] theorem still_ownerArmDelivery (fields : Option ArmFields) (m : StationNo) (st : Station) (s : State) :
    (ownerArmDelivery fields m st s).state.still = s.still := by
  unfold ownerArmDelivery
  try dsimp only
  (repeat' split) <;> simp

@[simp] theorem still_surveyExpiry (d : SlotNo) (s : State) :
    (surveyExpiry d s).still = s.still := by
  unfold surveyExpiry
  try dsimp only
  (repeat' split) <;> simp

@[simp] theorem still_openDelivery (d : SlotNo) (r : Delivery) (loaded : Bool) (s : State) :
    (openDelivery d r loaded s).still = s.still := by
  unfold openDelivery
  try dsimp only
  (repeat' split) <;> simp

@[simp] theorem still_reopen (d : SlotNo) (s : State) :
    (reopen d s).still = s.still := by
  unfold reopen
  try dsimp only
  simp

@[simp] theorem still_reportUnarmed (i : SourceNo) (slot : Option SlotNo) (s : State) :
    (reportUnarmed i slot s).still = s.still := by
  unfold reportUnarmed
  try dsimp only
  simp

@[simp] theorem still_unarmedFill (d : SlotNo) (i : SourceNo) (s : State) :
    (unarmedFill d i s).still = s.still := by
  unfold unarmedFill
  try dsimp only
  simp

@[simp] theorem still_closeUnarmed (i : SourceNo) (s : State) :
    (closeUnarmed i s).still = s.still := by
  unfold closeUnarmed
  try dsimp only
  (repeat' split) <;> simp

@[simp] theorem still_fillClosed (i : SourceNo) (s : State) :
    (fillClosed i s).still = s.still := by
  unfold fillClosed
  try dsimp only
  (repeat' split) <;> simp

@[simp] theorem still_endUnarmed (d : SlotNo) (r : Delivery) (s : State) :
    (endUnarmed d r s).still = s.still := by
  unfold endUnarmed
  try dsimp only
  simp

@[simp] theorem still_fillOpened (i : SourceNo) (s : State) :
    (fillOpened i s).still = s.still := by
  unfold fillOpened
  try dsimp only
  (repeat' split) <;> simp

@[simp] theorem still_compareFill (i : SourceNo) (closed : Bool) (s : State) :
    (compareFill i closed s).still = s.still := by
  unfold compareFill
  try dsimp only
  (repeat' split) <;> simp

@[simp] theorem still_ownerMeterReading (reference register : Nat) (m : StationNo) (st : Station) (s : State) :
    (ownerMeterReading reference register m st s).state.still = s.still := by
  unfold ownerMeterReading
  try dsimp only
  (repeat' split) <;> simp

@[simp] theorem still_closeFilled (d : SlotNo) (r : Delivery) (s : State) :
    (closeFilled d r s).still = s.still := by
  unfold closeFilled
  try dsimp only
  simp

@[simp] theorem still_ownerCloseDelivery (reference register : Nat) (m : StationNo) (st : Station) (s : State) :
    (ownerCloseDelivery reference register m st s).state.still = s.still := by
  unfold ownerCloseDelivery
  try dsimp only
  (repeat' split) <;> simp

@[simp] theorem still_finishExpiry (d : SlotNo) (s : State) :
    (finishExpiry d s).still = s.still := by
  unfold finishExpiry
  try dsimp only
  (repeat' split) <;> simp

@[simp] theorem still_ownerCancel (reference : Nat) (m : StationNo) (st : Station) (s : State) :
    (ownerCancel reference m st s).state.still = s.still := by
  unfold ownerCancel
  try dsimp only
  (repeat' split) <;> simp

@[simp] theorem still_armExpiry (d : SlotNo) (s : State) :
    (armExpiry d s).still = s.still := by
  unfold armExpiry
  try dsimp only
  (repeat' split) <;> simp

@[simp] theorem still_returnTimer (n : SupplyNo) (s : State) :
    (returnTimer n s).still = s.still := by
  unfold returnTimer
  try dsimp only
  (repeat' split) <;> simp

@[simp] theorem still_windowExpiry (n : SupplyNo) (s : State) :
    (windowExpiry n s).still = s.still := by
  unfold windowExpiry
  try dsimp only
  (repeat' split) <;> simp

@[simp] theorem still_ownerReadDelivery (source : Nat) (m : StationNo) (st : Station) (s : State) :
    (ownerReadDelivery source m st s).state.still = s.still := by
  unfold ownerReadDelivery
  try dsimp only
  (repeat' split) <;> simp

/-! ## Machine/Watches.lean -/

@[simp] theorem still_logWatchFired (w : WatchNo) (v : Word) (second : Nat) (s : State) :
    (logWatchFired w v second s).still = s.still := by
  unfold logWatchFired
  try dsimp only
  simp

@[simp] theorem still_fireNotify (w : WatchNo) (v : Word) (s : State) :
    (fireNotify w v s).still = s.still := by
  unfold fireNotify
  try dsimp only
  simp

@[simp] theorem still_watchRefused (w : WatchNo) (v : Word) (e : Status) (s : State) :
    (watchRefused w v e s).still = s.still := by
  unfold watchRefused
  try dsimp only
  (repeat' split) <;> simp

@[simp] theorem still_askTransfer (w : WatchNo) (v : Word) (retry : Bool) (s : State) :
    (askTransfer w v retry s).still = s.still := by
  unfold askTransfer
  split
  · split <;> rename_i h <;> simp [still_of_eq h (still_admitOrPreempt _ s)]
  · rfl

@[simp] theorem still_fire (w : WatchNo) (v : Word) (s : State) :
    (fire w v s).still = s.still := by
  unfold fire
  try dsimp only
  (repeat' split) <;> simp

@[simp] theorem still_countTrue (w : WatchNo) (v : Word) (s : State) :
    (countTrue w v s).still = s.still := by
  unfold countTrue
  try dsimp only
  (repeat' split) <;> simp

@[simp] theorem still_countRetry (w : WatchNo) (v : Option Word) (s : State) :
    (countRetry w v s).still = s.still := by
  unfold countRetry
  try dsimp only
  (repeat' split) <;> simp

@[simp] theorem still_moveWatch (w : WatchNo) (v : Option Word) (s : State) :
    (moveWatch w v s).still = s.still := by
  unfold moveWatch
  try dsimp only
  (repeat' split) <;> simp

@[simp] theorem still_sampleWatch (s : State) (w : WatchNo) :
    (sampleWatch s w).still = s.still := by
  unfold sampleWatch
  try dsimp only
  (repeat' split) <;> simp

@[simp] theorem still_sampleAll (s : State) :
    (sampleAll s).still = s.still := by
  exact still_foldl sampleWatch still_sampleWatch _ s

@[simp] theorem still_ownerDefineWatch (entry : Nat) (f : WatchReq) (m : StationNo) (st : Station) (s : State) :
    (ownerDefineWatch entry f m st s).state.still = s.still := by
  unfold ownerDefineWatch
  try dsimp only
  (repeat' split) <;> simp

@[simp] theorem still_ownerReadWatch (entry : Nat) (m : StationNo) (st : Station) (s : State) :
    (ownerReadWatch entry m st s).state.still = s.still := by
  unfold ownerReadWatch
  try dsimp only
  (repeat' split) <;> simp

/-! ## Machine/Sources.lean -/

@[simp] theorem still_ownerHire (source : Nat) (fields : Option Hire) (m : StationNo) (st : Station) (s : State) :
    (ownerHire source fields m st s).state.still = s.still := by
  unfold ownerHire
  try dsimp only
  (repeat' split) <;> simp

@[simp] theorem still_ownerOffHire (source : Nat) (m : StationNo) (st : Station) (s : State) :
    (ownerOffHire source m st s).state.still = s.still := by
  unfold ownerOffHire
  try dsimp only
  (repeat' split) <;> simp

@[simp] theorem still_logFresh (i : SourceNo) (wasStale : Bool) (t : Telemetry) (s : State) :
    (logFresh i wasStale t s).still = s.still := by
  unfold logFresh
  try dsimp only
  (repeat' split) <;> simp

@[simp] theorem still_alertImplausible (i : SourceNo) (newly : Bool) (s : State) :
    (alertImplausible i newly s).still = s.still := by
  unfold alertImplausible
  try dsimp only
  (repeat' split) <;> simp

@[simp] theorem still_takeReport (i : SourceNo) (running : Bool) (load voltage freq gauge : Nat) (alarms : BitVec 8) (s : State) :
    (takeReport i running load voltage freq gauge alarms s).still = s.still := by
  unfold takeReport
  try dsimp only
  simp

@[simp] theorem still_ownerReport (source running load voltage freq gauge : Nat) (alarms : BitVec 8) (m : StationNo) (st : Station) (s : State) :
    (ownerReport source running load voltage freq gauge alarms m st s).state.still = s.still := by
  unfold ownerReport
  try dsimp only
  (repeat' split) <;> simp

@[simp] theorem still_staleExpiry (i : SourceNo) (s : State) :
    (staleExpiry i s).still = s.still := by
  unfold staleExpiry
  try dsimp only
  (repeat' split) <;> simp

@[simp] theorem still_ownerReadSource (source : Nat) (m : StationNo) (st : Station) (s : State) :
    (ownerReadSource source m st s).state.still = s.still := by
  unfold ownerReadSource
  try dsimp only
  (repeat' split) <;> simp

end Sys2Proof.Machine
end

