-- ==== Sys2Proof/Laws/Tickets.lean ====
section
/-! SUPPORT. Laws/Tickets.lean: R40's law, as a law that every shared operation keeps (Laws/Kept.lean). Tickets are drawn
before they are used, and a pre-emption or several restore requests draw more while one is still unused, so the law that
is carried is wider: it names the drawn tickets that no transfer has yet. -/

namespace Sys2Proof.Machine

/-! ## Places on the ring of ticket numbers -/

theorem ticketAfter_places (k : Nat) (a : 1 ≤ k) (b : k ≤ 65535) : ticketAfter k = ticketPlaces k 1 := by
  unfold ticketAfter ticketPlaces
  split <;> omega

theorem places_places (k i j : Nat) : ticketPlaces (ticketPlaces k i) j = ticketPlaces k (i + j) := by
  unfold ticketPlaces
  omega

theorem places_range (k j : Nat) : 1 ≤ ticketPlaces k j ∧ ticketPlaces k j ≤ 65535 := by
  unfold ticketPlaces
  omega

theorem places_inj (k i j : Nat) (a : i < 65535) (b : j < 65535) (e : ticketPlaces k i = ticketPlaces k j) : i = j := by
  unfold ticketPlaces at e
  omega

theorem places_ne (k j : Nat) (a : 1 ≤ k) (c : k ≤ 65535) (b : 1 ≤ j) (d : j < 65535) : ticketPlaces k j ≠ k := by
  unfold ticketPlaces
  omega

/-! ## Drawing a ticket -/

theorem flying_iff (s : State) (n : SupplyNo) (t : Transfer) : flying s n t ↔ inFlight s n = some t := by
  unfold flying inFlight
  cases e : s.slot n with
  | none => simp
  | some u =>
    by_cases g : u.result = none
    · simp [g]
      exact fun h => h ▸ g
    · simp [g]
      exact fun h => h ▸ g

theorem ticketInFlight_iff (s : State) (k : Nat) : ticketInFlight s k = true ↔ ∃ n t, flying s n t ∧ t.ticket = k := by
  unfold ticketInFlight
  rw [List.any_eq_true]
  constructor
  · rintro ⟨n, _, h⟩
    cases e : inFlight s n with
    | none => simp [e] at h
    | some t => exact ⟨n, t, (flying_iff s n t).mpr e, by simpa [e] using h⟩
  · rintro ⟨n, t, h, g⟩
    exact ⟨n, mem_indices n, by simp [(flying_iff s n t).mp h, g]⟩

/-- Where a search of so many tries ends: at the first value that is free, or past the last of them. -/
theorem nextTicket_places (s : State) (tries k : Nat) (a : 1 ≤ k) (b : k ≤ 65535) :
    ∃ j, j ≤ tries ∧ nextTicket s tries k = ticketPlaces k j ∧
      (∀ i, i < j → ticketInFlight s (ticketPlaces k i) = true) ∧
      (j < tries → ticketInFlight s (ticketPlaces k j) = false) := by
  induction tries generalizing k with
  | zero => exact ⟨0, le_rfl, by simp [nextTicket, ticketPlaces]; omega, by omega, by omega⟩
  | succ tries ih =>
    have z : ticketPlaces k 0 = k := by simp [ticketPlaces]; omega
    cases e : ticketInFlight s k with
    | false => exact ⟨0, by omega, by simp [nextTicket, e, z], by omega, fun _ => by rw [z, e]⟩
    | true =>
      have r := places_range k 1
      rw [← ticketAfter_places k a b] at r
      obtain ⟨j, h1, h2, h3, h4⟩ := ih (ticketAfter k) r.1 r.2
      rw [ticketAfter_places k a b] at h2 h3 h4
      refine ⟨j + 1, by omega, ?_, ?_, ?_⟩
      · rw [nextTicket, e, if_pos rfl, ticketAfter_places k a b, h2, places_places, Nat.add_comm]
      · intro i q
        cases i with
        | zero => rw [z, e]
        | succ i => rw [← Nat.add_comm 1 i, ← places_places]; exact h3 i (by omega)
      · intro q
        rw [← Nat.add_comm 1 j, ← places_places]
        exact h4 (by omega)

/-- Twelve transfers at most are in flight, so of thirteen numbers one is free. -/
theorem thirteen_suffice (s : State) (k : Nat) (h : ∀ i, i < 13 → ticketInFlight s (ticketPlaces k i) = true) : False := by
  have g : ∀ i : Fin 13, ∃ n t, flying s n t ∧ t.ticket = ticketPlaces k i := fun i =>
    (ticketInFlight_iff s _).mp (h i i.isLt)
  choose n t f e using g
  obtain ⟨i, j, d, q⟩ := Fintype.exists_ne_map_eq_of_card_lt n (by simp)
  have p : t i = t j := by
    have a := (f i).1
    rw [q, (f j).1] at a
    exact (Option.some.inj a).symm
  exact d (Fin.ext (places_inj k i j (by omega) (by omega) (by rw [← e i, ← e j, p])))

/-- R40: the counter's next value: the first after it that is the ticket of no transfer in flight. -/
theorem nextTicket_fresh (s : State) (k : Nat) (a : 1 ≤ k) (b : k ≤ 65535) :
    ∃ j, 1 ≤ j ∧ j ≤ 13 ∧ nextTicket s 13 (ticketAfter k) = ticketPlaces k j ∧
      (∀ i, 1 ≤ i → i < j → ticketInFlight s (ticketPlaces k i) = true) ∧
      ticketInFlight s (ticketPlaces k j) = false := by
  have r := places_range k 1
  rw [← ticketAfter_places k a b] at r
  obtain ⟨j, h1, h2, h3, h4⟩ := nextTicket_places s 13 (ticketAfter k) r.1 r.2
  rw [ticketAfter_places k a b] at h2 h3 h4
  have q : j < 13 := by
    by_contra c
    exact thirteen_suffice s (ticketPlaces k 1) fun i d => h3 i (by omega)
  simp only [places_places] at h2 h3 h4
  refine ⟨1 + j, by omega, by omega, by rw [ticketAfter_places k a b]; exact h2, ?_, h4 q⟩
  intro i c d
  obtain ⟨i, rfl⟩ : ∃ i', i = 1 + i' := ⟨i - 1, by omega⟩
  exact h3 i (by omega)

/-! ## The law, with drawn tickets that no transfer has yet -/

/-- R40's law, with the tickets `L` drawn and not yet used: they differ, no transfer in flight has one, and the counter
stands at most `b` places past each. -/
structure Drawn (L : List Nat) (b : Nat) (s : State) : Prop extends TicketLaw s where
  nodup : L.Nodup
  range : ∀ c ∈ L, 1 ≤ c ∧ c ≤ 65535
  unused : ∀ c ∈ L, ∀ n t, flying s n t → t.ticket ≠ c
  past : ∀ c ∈ L, ∃ j, 1 ≤ j ∧ j ≤ b ∧ s.xfr.counter = ticketPlaces c j

theorem drawn_nil (s : State) (h : TicketLaw s) : Drawn [] 0 s := ⟨h, by simp, by simp, by simp, by simp⟩

theorem Drawn.mono {L : List Nat} {b c : Nat} {s : State} (h : Drawn L b s) (k : b ≤ c) : Drawn L c s :=
  ⟨h.toTicketLaw, h.nodup, h.range, h.unused, fun x m =>
    let ⟨j, p, q, r⟩ := h.past x m
    ⟨j, p, by omega, r⟩⟩

/-- A drawn ticket may be forgotten. -/
theorem Drawn.forget {L M : List Nat} {b : Nat} {s : State} (h : Drawn L b s) (k : M.Sublist L) : Drawn M b s where
  toTicketLaw := h.toTicketLaw
  nodup := h.nodup.sublist k
  range c m := h.range c (k.subset m)
  unused c m := h.unused c (k.subset m)
  past c m := h.past c (k.subset m)

/-- The order in which they were drawn does not matter. -/
theorem Drawn.perm {L M : List Nat} {b : Nat} {s : State} (h : Drawn L b s) (k : L.Perm M) : Drawn M b s where
  toTicketLaw := h.toTicketLaw
  nodup := k.nodup_iff.mp h.nodup
  range c m := h.range c (k.mem_iff.mpr m)
  unused c m := h.unused c (k.mem_iff.mpr m)
  past c m := h.past c (k.mem_iff.mpr m)

/-- A change that leaves the counter, and adds no transfer in flight. -/
theorem Drawn.fewer {L : List Nat} {b : Nat} {s t : State} (h : Drawn L b s) (e : t.xfr.counter = s.xfr.counter)
    (k : ∀ n u, flying t n u → ∃ v, flying s n v ∧ v.ticket = u.ticket) : Drawn L b t where
  low := e ▸ h.low
  high := e ▸ h.high
  fresh n u f := by
    obtain ⟨v, g, q⟩ := k n u f
    rw [← q, e]
    exact h.fresh n v g
  apart n m u w f g q := by
    obtain ⟨v, f', e1⟩ := k n u f
    obtain ⟨x, g', e2⟩ := k m w g
    exact h.apart n m v x f' g' (by rw [e1, e2, q])
  nodup := h.nodup
  range := h.range
  unused c m n u f := by
    obtain ⟨v, g, q⟩ := k n u f
    rw [← q]
    exact h.unused c m n v g
  past c m := by
    rw [e]
    exact h.past c m

theorem drawn_xfr {L : List Nat} {b : Nat} {s t : State} (e : t.xfr = s.xfr) (h : Drawn L b s) : Drawn L b t :=
  h.fewer (by rw [e]) fun n u f => ⟨u, by simpa [flying, State.slot, e] using f, rfl⟩

theorem drawn_modSlot {L : List Nat} {b : Nat} (n : SupplyNo) (f : Transfer → Transfer) (s : State)
    (k : ∀ t : Transfer, (f t).ticket = t.ticket ∧ ((f t).result = none → t.result = none)) (h : Drawn L b s) :
    Drawn L b (modSlot n f s) := by
  refine h.fewer rfl fun m u g => ?_
  by_cases e : n = m
  · subst e
    obtain ⟨g1, g2⟩ := g
    simp only [modSlot, setSlot, State.slot, look_upd, if_pos, Option.map_eq_some_iff] at g1
    obtain ⟨v, g3, rfl⟩ := g1
    exact ⟨v, ⟨g3, (k v).2 g2⟩, (k v).1.symm⟩
  · refine ⟨u, ?_, rfl⟩
    simpa [flying, modSlot, setSlot, State.slot, e] using g

theorem drawn_quiet {L : List Nat} {b : Nat} : Quiet (Drawn L b) where
  panel _ _ e _ h := drawn_xfr e h
  slot n f s k h := drawn_modSlot n f s k h
  close n x s h := drawn_xfr (by unfold commandClose startPulse; split <;> rfl) h

/-- R40: a ticket drawn joins those not yet used. -/
theorem drawn_drawTicket {L : List Nat} {b : Nat} {s : State} (h : Drawn L b s) (q : b + 13 < 65535) :
    Drawn (L ++ [s.xfr.counter]) (b + 13) (drawTicket s) := by
  obtain ⟨j, a, d, e, _, f⟩ := nextTicket_fresh s s.xfr.counter h.low h.high
  have c : (drawTicket s).xfr.counter = ticketPlaces s.xfr.counter j := e
  have r := places_range s.xfr.counter j
  have g : ∀ n t, flying (drawTicket s) n t ↔ flying s n t := fun _ _ => Iff.rfl
  refine ⟨⟨by rw [c]; exact r.1, by rw [c]; exact r.2, ?_, ?_⟩, ?_, ?_, ?_, ?_⟩
  · intro n t k z
    rw [c] at z
    rw [(ticketInFlight_iff s _).mpr ⟨n, t, k, z⟩] at f
    cases f
  · exact h.apart
  · refine List.nodup_append.mpr ⟨h.nodup, by simp, ?_⟩
    intro x m y z w
    rw [List.mem_singleton] at z
    obtain ⟨i, p1, p2, p3⟩ := h.past x m
    have o := h.range x m
    exact places_ne x i o.1 o.2 p1 (by omega) (by rw [← p3, ← z, ← w])
  · intro x m
    rcases List.mem_append.mp m with m | m
    · exact h.range x m
    · rw [List.mem_singleton.mp m]
      exact ⟨h.low, h.high⟩
  · intro x m n t k
    rcases List.mem_append.mp m with m | m
    · exact h.unused x m n t k
    · rw [List.mem_singleton.mp m]
      exact h.fresh n t k
  · intro x m
    rw [c]
    rcases List.mem_append.mp m with m | m
    · obtain ⟨i, p1, p2, p3⟩ := h.past x m
      exact ⟨i + j, by omega, by omega, by rw [p3, places_places]⟩
    · rw [List.mem_singleton.mp m]
      exact ⟨j, a, by omega, rfl⟩

/-- R45: a transfer admitted with a drawn ticket: the slot is written, and the ticket is in use. -/
theorem drawn_setSlot {L : List Nat} {b : Nat} {s : State} (n : SupplyNo) (t : Transfer) (h : Drawn (t.ticket :: L) b s)
    (q : b < 65535) : Drawn L b (setSlot n (some t) s) := by
  have g : ∀ m u, flying (setSlot n (some t) s) m u → (m = n ∧ u = t) ∨ (m ≠ n ∧ flying s m u) := by
    intro m u f
    by_cases e : n = m
    · subst e
      simp only [flying, setSlot, State.slot, look_upd, if_pos, Option.some.injEq] at f
      exact .inl ⟨rfl, f.1.symm⟩
    · refine .inr ⟨fun z => e z.symm, ?_⟩
      simpa [flying, setSlot, State.slot, e] using f
  have d := List.nodup_cons.mp h.nodup
  have new := h.unused t.ticket (by simp)
  refine ⟨⟨h.low, h.high, ?_, ?_⟩, d.2, fun c m => h.range c (by simp [m]), ?_, fun c m => h.past c (by simp [m])⟩
  · intro m u f
    rcases g m u f with ⟨rfl, rfl⟩ | ⟨_, f⟩
    · obtain ⟨j, p1, p2, p3⟩ := h.past u.ticket (by simp)
      have o := h.range u.ticket (by simp)
      intro e
      exact places_ne _ j o.1 o.2 p1 (by omega) (by rw [← p3]; exact e.symm)
    · exact h.fresh m u f
  · intro m l u w f k e
    rcases g m u f with ⟨rfl, rfl⟩ | ⟨_, f⟩ <;> rcases g l w k with ⟨rfl, rfl⟩ | ⟨_, k⟩
    · rfl
    · exact absurd e.symm (new l w ‹_›)
    · exact absurd e (new m u ‹_›)
    · exact h.apart m l u w f k e
  · intro c m l u f e
    rcases g l u f with ⟨rfl, rfl⟩ | ⟨_, f⟩
    · exact d.1 (e ▸ m)
    · exact h.unused c (by simp [m]) l u f e

/-! ## Admission -/

theorem drawn_beginTransfer {L : List Nat} {b : Nat} (q : Ask) (k : Chosen) (trip : Option Input) (s : State)
    (h : Drawn (k.ticket :: L) b s) (g : b < 65535) : Drawn L b (beginTransfer q k trip s) := by
  refine drawn_quiet.on_enterFirst _ _ _ (drawn_quiet.on_modSupply _ _ _ (drawn_setSlot _ _ h g) ?_)
  exact fun _ x => by cases x <;> exact ⟨rfl, .inl rfl⟩

/-- The ticket that a request's checks leave unused. -/
def ticketOf (v : Except Status Chosen) : List Nat :=
  match v with
  | .ok k => [k.ticket]
  | .error _ => []

/-- R44: what the checks leave of a ticket: none drawn, one drawn and wasted, or one drawn for the target chosen. -/
theorem drawn_chooseTarget {L : List Nat} {b : Nat} (pre : Option Nat) (q : Ask) (s : State) (h : Drawn L b s)
    (g : b + 13 < 65535) :
    Drawn (L ++ ticketOf (chooseTarget pre q s).val) (b + 13) (chooseTarget pre q s).state := by
  have w := drawn_drawTicket h g
  have f : Drawn (L ++ []) (b + 13) (drawTicket s) := w.forget (by simp)
  have o : Drawn (L ++ []) (b + 13) s := by simpa using h.mono (c := b + 13) (by omega)
  unfold chooseTarget
  (repeat' split) <;> assumption

theorem drawn_judge {L : List Nat} {b : Nat} (q : Ask) (s : State) (h : Drawn L b s) (g : b + 13 < 65535) :
    Drawn (L ++ ticketOf (judge q s).val) (b + 13) (judge q s).state := by
  unfold judge
  split
  · simpa [ticketOf] using h.mono (c := b + 13) (by omega)
  · exact drawn_chooseTarget _ _ _ h g

theorem drawn_claimAndBegin {L : List Nat} {b : Nat} (q : Ask) (k : Chosen) (s : State)
    (h : Drawn (k.ticket :: L) b s) (g : b < 65535) : Drawn L b (claimAndBegin q k s).state := by
  unfold claimAndBegin
  split
  · exact h.forget (by simp)
  · exact drawn_beginTransfer _ _ _ _ (drawn_xfr (by rfl) h) g

theorem drawn_admission {b : Nat} (q : Ask) (s : State) (h : Drawn [] b s) (g : b + 13 < 65535) :
    Drawn [] (b + 13) (admission q s).state := by
  have w := drawn_judge q s h g
  unfold admission
  split <;> rename_i e <;> rw [e] at w
  · exact w
  · exact drawn_claimAndBegin _ _ _ w g

/-- R35: each supply's request draws at most one ticket. -/
theorem drawn_judgeRestores {L : List Nat} {b : Nat} (ns : List SupplyNo) (s : State) (h : Drawn L b s)
    (g : b + 13 * ns.length < 65535) :
    Drawn (L ++ (judgeRestores ns s).val.flatMap fun v => ticketOf v.2) (b + 13 * ns.length)
      (judgeRestores ns s).state := by
  have f : ∀ (l : List SupplyNo) (c : Nat) (a : With (List (SupplyNo × Except Status Chosen))),
      Drawn (L ++ a.val.flatMap fun v => ticketOf v.2) c a.state → c + 13 * l.length < 65535 →
      Drawn (L ++ (l.foldl (fun acc n => ⟨(judge (restoreAsk n) acc.state).state,
        acc.val ++ [(n, (judge (restoreAsk n) acc.state).val)]⟩) a).val.flatMap fun v => ticketOf v.2)
        (c + 13 * l.length) (l.foldl (fun acc n => ⟨(judge (restoreAsk n) acc.state).state,
        acc.val ++ [(n, (judge (restoreAsk n) acc.state).val)]⟩) a).state := by
    intro l
    induction l with
    | nil => intro c a k _; exact k
    | cons n l ih =>
      intro c a k d
      simp only [List.length_cons] at d
      have w := ih (c + 13) ⟨(judge (restoreAsk n) a.state).state, a.val ++ [(n, (judge (restoreAsk n) a.state).val)]⟩
        (by simpa using drawn_judge (restoreAsk n) a.state k (by omega)) (by omega)
      have e : c + 13 * (l.length + 1) = c + 13 + 13 * l.length := by omega
      rw [List.length_cons, e]
      exact w
  exact f ns b ⟨s, []⟩ (by simpa using h) g

theorem drawn_takeRestore {L : List Nat} {b : Nat} (s : State) (v : SupplyNo × Except Status Chosen)
    (h : Drawn (ticketOf v.2 ++ L) b s) (g : b < 65535) : Drawn L b (takeRestore s v) := by
  unfold takeRestore
  split <;> rename_i e <;> rw [e] at h
  · exact drawn_quiet.on_restoreRefused _ _ _ h
  · have w := drawn_claimAndBegin (restoreAsk v.1) _ s h g
    split <;> rename_i q <;> rw [q] at w
    · exact drawn_quiet.on_restoreRefused _ _ _ w
    · exact w

theorem drawn_restoreRequests {L : List Nat} {b : Nat} (ns : List SupplyNo) (s : State) (h : Drawn L b s)
    (g : b + 13 * ns.length < 65535) : Drawn L (b + 13 * ns.length) (restoreRequests ns s) := by
  have f : ∀ (l : List (SupplyNo × Except Status Chosen)) (u : State),
      Drawn ((l.flatMap fun v => ticketOf v.2) ++ L) (b + 13 * ns.length) u →
      Drawn L (b + 13 * ns.length) (l.foldl takeRestore u) := by
    intro l
    induction l with
    | nil => intro u k; exact k
    | cons v l ih =>
      intro u k
      rw [List.flatMap_cons, List.append_assoc] at k
      exact ih _ (drawn_takeRestore u v k g)
  exact f _ _ ((drawn_judgeRestores ns s h g).perm List.perm_append_comm)

/-! ## Pre-emption -/

/-- R62 steps 1 to 4 may free a source, and then up to twelve supplies ask to be restored. -/
theorem drawn_releaseSteps {L : List Nat} {b : Nat} (n : SupplyNo) (t : Transfer) (result : Result) (s : State)
    (h : Drawn L b s) (g : b + 156 < 65535) : Drawn L (b + 156) (releaseSteps n t result s) := by
  have w : Drawn L b (closeWindows n (modSlot n (fun t => { t with syncChannel := none })
      (releaseChannel t.ticket (modSlot n (endedSlot result s.clock) s)))) :=
    drawn_quiet.on_closeWindows _ _ (drawn_quiet.on_modSlot _ _ _
      (drawn_quiet.on_releaseChannel _ _ (drawn_quiet.on_modSlot _ _ _ h fun _ => ⟨rfl, fun e => by cases e⟩))
      fun _ => ⟨rfl, id⟩)
  unfold releaseSteps changeSource
  dsimp only
  split
  · have l : ((indices 12).filter (restoresOnto (modSource t.targetSource (releaseClaim t.ticket)
        (closeWindows n (modSlot n (fun t => { t with syncChannel := none })
          (releaseChannel t.ticket (modSlot n (endedSlot result s.clock) s))))) t.targetSource)).length ≤ 12 :=
      List.length_filter_le _ _
    exact (drawn_restoreRequests _ _ (drawn_quiet.on_modSource _ _ _ w) (by omega)).mono (by omega)
  · exact (drawn_quiet.on_modSource _ _ _ w).mono (by omega)

theorem drawn_endPreempted {L : List Nat} {b : Nat} (n : SupplyNo) (s : State) (h : Drawn L b s)
    (g : b + 156 < 65535) : Drawn L (b + 156) (endPreempted n s) := by
  unfold endPreempted
  split
  · exact drawn_quiet.on_tellFailed _ _ _ _ (drawn_quiet.on_reportEnd _ _ _ _ (drawn_releaseSteps _ _ _ _ h g))
  · exact h.mono (by omega)

theorem tickets_preempt (q : Ask) (t : Transfer) (s : State) (h : TicketLaw s) : TicketLaw (preempt q t s).state := by
  have w := drawn_chooseTarget (some t.ticket) q s (drawn_nil s h) (by omega)
  unfold preempt
  split <;> rename_i e <;> rw [e] at w
  · exact w.toTicketLaw
  · split
    · exact w.toTicketLaw
    · exact (drawn_beginTransfer _ _ _ _
        (drawn_endPreempted _ _ (drawn_quiet.on_setClaim _ _ w) (by omega)) (by omega)).toTicketLaw

/-- R40: every shared operation keeps the law. -/
theorem tickets_kept : Kept TicketLaw where
  panel s t e f h := (drawn_quiet.panel s t e f (drawn_nil s h)).toTicketLaw
  slot n f s g h := (drawn_modSlot n f s g (drawn_nil s h)).toTicketLaw
  close n x s h := (drawn_quiet.close n x s (drawn_nil s h)).toTicketLaw
  restores ns s l h := (drawn_restoreRequests ns s (drawn_nil s h) (by omega)).toTicketLaw
  admits q s h := by
    unfold admitOrPreempt
    split
    · exact h
    · split
      · split
        · exact tickets_preempt _ _ _ h
        · exact h
      · exact (drawn_admission q s (drawn_nil s h) (by omega)).toTicketLaw

end Sys2Proof.Machine
end

