-- ==== Sys2Proof/Machine/Replies.lean ====
section
/-! DEFINITION. Machine/Replies.lean: the bytes of a reply (R166, R168, R170, R171). Where chapter 12 lays a payload out,
its bytes are those; elsewhere the fields stand in the order their rule lists them, each at the width that chapter 12
gives the same figure in another payload, or else the smallest of whole bytes that holds its range, by R166's encodings
(DEDUCED, log entry 6). -/

namespace Sys2Proof.Machine

/-! ## Fields (R166) -/

/-- An unsigned figure, most significant byte first. -/
def b8 (n : Nat) : List Byte := [BitVec.ofNat 8 n]
def b16 (n : Nat) : List Byte := b8 (n / 256) ++ b8 n
def b24 (n : Nat) : List Byte := b8 (n / 65536) ++ b16 n
def b32 (n : Nat) : List Byte := b16 (n / 65536) ++ b16 n
def b40 (n : Nat) : List Byte := b8 (n / 4294967296) ++ b32 n
def b48 (n : Nat) : List Byte := b16 (n / 4294967296) ++ b32 n
def b56 (n : Nat) : List Byte := b24 (n / 4294967296) ++ b32 n
def b64 (n : Nat) : List Byte := b32 (n / 4294967296) ++ b32 n
def bFlag (b : Bool) : List Byte := b8 (if b then 1 else 0)

/-- R166: signed figures are two's complement. -/
def z16 (z : Int) : List Byte := b16 (BitVec.ofInt 16 z).toNat
def z24 (z : Int) : List Byte := b24 (BitVec.ofInt 24 z).toNat
def z56 (z : Int) : List Byte := b56 (BitVec.ofInt 56 z).toNat

/-- R166: a field whose range leaves its all-ones value unused; that value is none. -/
def n8 (v : Option Nat) : List Byte := b8 (v.getD 0xFF)
def n16 (v : Option Nat) : List Byte := b16 (v.getD 0xFFFF)
def n24 (v : Option Nat) : List Byte := b24 (v.getD 0xFFFFFF)
def n32 (v : Option Nat) : List Byte := b32 (v.getD 0xFFFFFFFF)
def n56 (v : Option Nat) : List Byte := b56 (v.getD 0xFFFFFFFFFFFFFF)

/-- R166: a presence byte, and the field behind it, 0 when absent. -/
def bOpt {α : Type} (zero : List Byte) (put : α → List Byte) : Option α → List Byte
  | none => bFlag false ++ zero
  | some x => bFlag true ++ put x

def bOpt8 (v : Option Nat) : List Byte := bOpt (b8 0) b8 v
def bOpt16 (v : Option Nat) : List Byte := bOpt (b16 0) b16 v
def bOpt32 (v : Option Nat) : List Byte := bOpt (b32 0) b32 v
def bOpt64 (v : Option Nat) : List Byte := bOpt (b64 0) b64 v

/-- A field that uses its all-ones value but not every value of its width has neither of R166's two forms; it is sent
behind a presence byte (DESIGN CHOICE, log entry 6): a ticket, 1 to 65,535 or none, and a signed figure, whose -1 is all
ones. -/
def bTicket (v : Option Nat) : List Byte := bOpt16 v
def zOpt16 (v : Option Int) : List Byte := bOpt (z16 0) z16 v
def zOpt24 (v : Option Int) : List Byte := bOpt (z24 0) z24 v
def zOpt56 (v : Option Int) : List Byte := bOpt (z56 0) z56 v

/-- A record that may be absent: a presence byte, and nothing behind it when it is (DEDUCED, log entry 6: R166's 0 is a
field's). -/
def bMaybe {α : Type} (put : α → List Byte) (v : Option α) : List Byte := bOpt [] put v

/-- A name without a code in chapter 12; never all ones, which R166 keeps for none (log entry 38). -/
def bName (name : String) : List Byte := b8 (Config.nameCode name % 255)

/-- A source's or a supply's number, and none. -/
def bNumber {n : Nat} (i : Fin n) : List Byte := b8 (numberOf i)
def nNumber {n : Nat} (i : Option (Fin n)) : List Byte := n8 (i.map numberOf)
def nInput (x : Option Input) : List Byte := n8 (x.map inputCode)

/-- R166: the reply header. -/
def bHeader (status : Status) (attention : Bool) : List Byte :=
  b8 (statusCode status + (if attention then 128 else 0))

/-- A list, its length first (log entry 6). -/
def bList {α : Type} (put : α → List Byte) (l : List α) : List Byte := b8 l.length ++ l.flatMap put

/-- A status or a result in two bytes, the first marking which (log entry 38); R166: none is all ones. -/
def bOutcome : StatusOrResult → List Byte
  | .status e => bName "STATUS" ++ b8 (statusCode e)
  | .result r => bName "RESULT" ++ b8 (resultCode r)

def nOutcome (v : Option StatusOrResult) : List Byte := (v.map bOutcome).getD (b16 0xFFFF)

/-! ## Attention, log and link -/

/-- R95 to R103: the reason of a DELIVERY cause. -/
def bDeliveryWhy : DeliveryWhy → List Byte
  | .blocked => bName "BLOCKED"
  | .loadedFill => bName "LOADED_FILL"
  | .unarmed => bName "UNARMED"
  | .ended st => b8 (deliveryCode st)

/-- R160: the detail of a cause, as the rule that raises it states it. -/
def bDetail : Detail → List Byte
  | .transferFault n x => bNumber n ++ nInput x
  | .supplyTrip n => bNumber n
  | .transferEnded k n r => b16 k ++ bNumber n ++ b8 (resultCode r)
  | .delivery i ref why => bNumber i ++ bOpt32 ref ++ bDeliveryWhy why
  | .returnAbandoned n => bNumber n ++ bName "RETURN_ABANDONED"
  | .sourceAlert i .implausible => bNumber i ++ bName "IMPLAUSIBLE"
  | .sourceAlert i .stale => bNumber i ++ bName "STALE"
  | .sourceAlert i .dry => bNumber i ++ bName "DRY"
  | .watchFired w v e => b8 w.1 ++ b32 v.toNat ++ b8 (statusCode e)
  | .periodClosed k t => b8 (bankCode k) ++ b32 t
  | .linkFault p f => b8 p.1 ++ b8 (portFlagCode f)
  | .holdLapsed .lapsed => bName "LAPSED"
  | .holdLapsed .forced => bName "FORCED"
  | .logGap oldest lost => b32 oldest ++ b32 lost
  | .restartedWarm => bName "WARM"

/-- R161: the cause with its detail, and the flags still set. -/
def bAttention (cause : Option Detail) (remaining : BitVec 16) : List Byte :=
  b8 (causeCode (cause.map detailCause)) ++ (cause.map bDetail).getD [] ++ b16 remaining.toNat

/-- R171: byte 0 of a record. -/
def recordByte (r : LogRecord) : Nat :=
  logKindCode r.kind + (if r.subject.isSome then 32 else 0) + (if r.v1.isSome then 64 else 0) +
    (if r.v2.isSome then 128 else 0)

/-- R171: a log record, 16 bytes. -/
def bRecord (r : LogRecord) : List Byte :=
  b8 (recordByte r) ++ b32 r.time ++ b24 (r.subject.getD 0) ++ b32 (r.v1.getD 0) ++ b32 (r.v2.getD 0)

/-- R171: the body of READ LOG. -/
def bLog (lost : Option Nat) (first : Nat) (rs : List LogRecord) (more : Bool) : List Byte :=
  (lost.map b32).getD [] ++ b32 first ++ b8 (rs.length + (if more then 128 else 0)) ++ rs.flatMap bRecord

def bSettings (p : PortSettings) : List Byte := b8 (rateCode p.rate) ++ b8 p.address ++ bFlag p.enabled

def bPortFlags (f : PortFlags) : List Byte :=
  bFlag f.parity ++ bFlag f.framing ++ bFlag f.crc ++ bFlag f.overrun ++ bFlag f.runt ++ bFlag f.badBroadcast

/-! ## Sources and tanks -/

/-- R170: the clamp byte. -/
def bClamps (load voltage freq gauge : Bool) : List Byte :=
  b8 ((if load then 1 else 0) + (if voltage then 2 else 0) + (if freq then 4 else 0) + (if gauge then 8 else 0))

def bHire (h : Hire) : List Byte :=
  b16 h.rating ++ b16 h.curve.r0 ++ b16 h.curve.r1 ++ b16 h.curve.r2 ++ b16 h.curve.r3 ++ b16 h.curve.r4 ++
    b24 h.rate ++ bFlag h.hot ++ b16 h.loadingLimit ++ b8 h.staleTime

/-- R9: the telemetry record, or none for each value. -/
def bTelemetry (t : Option Telemetry) : List Byte :=
  n8 (t.map fun t => if t.running then 1 else 0) ++ n16 (t.map (·.load)) ++ n16 (t.map (·.voltage)) ++
    n24 (t.map (·.freq)) ++ n16 (t.map (·.gauge)) ++ bOpt8 (t.map fun t => t.alarms.toNat)

/-- R9: READ SOURCE's reply. -/
def bSource (r : Source) (available : Bool) (accrued : Nat) (word : Word) : List Byte :=
  b8 (sourceStateCode r.state) ++ bHire (hireOf r) ++ bTelemetry r.telemetry ++ bFlag r.stale ++ bFlag r.implausible ++
    bFlag available ++ bTicket r.claim ++ n8 (r.reservation.map (·.1)) ++ b32 r.runSeconds ++ b56 accrued ++
    b64 r.lastClosed ++ b32 word.toNat

def nLoadKind : Option LoadKind → List Byte
  | none => n8 none
  | some .reported => bName "REPORTED"
  | some .estimated => bName "ESTIMATED"

/-- R87: READ TANK's reply. -/
def bTank (r : Tank) (levelNow gauge : Option Nat) (gaugeStale : Bool) (variance : Option Int) (minutes : Option Nat)
    (wholeBurn remainder price : Nat) : List Byte :=
  bFlag r.set ++ n32 r.capacity ++ n32 r.floor ++ n32 r.book ++ n32 levelNow ++ n32 gauge ++ bFlag gaugeStale ++
    zOpt24 variance ++ bOpt16 minutes ++ b24 r.lastRate ++ n32 r.lastLoad ++ nLoadKind r.loadKind ++
    b56 wholeBurn ++ b16 remainder ++ b64 r.mark ++ b32 r.closedBurn ++ bFlag r.lastEstimated ++ bFlag r.dry ++
    bFlag r.overfill ++ bFlag r.estimated ++ b16 price

/-! ## Supplies, transfers and synchronism -/

def bAbc {α : Type} (put : α → List Byte) (v : Abc α) : List Byte := put v.a ++ put v.b ++ put v.c

/-- R37: the line readings of an input of an UNDEFINED supply. -/
def bLine (r : LineReading) : List Byte :=
  bFlag r.aux ++ bFlag r.voltage ++ bOpt16 r.period ++ bOpt32 r.absentSince ++ n24 r.freq

/-- R20: an input record. -/
def bInput (r : InputRec) : List Byte :=
  nNumber r.source ++ bFlag r.faulted ++ bFlag r.aux ++ bFlag r.voltage ++ bOpt16 r.period ++ bOpt32 r.absentSince

def bTiming (t : Timing) : List Byte :=
  b16 t.deadTime ++ b16 t.confirm ++ b16 t.tripConfirm ++ b16 t.overlap ++ b8 t.settleTime ++ b16 t.settleWindow

/-- R37: READ SUPPLY's reply: the fields of R19 but the inputs, the demand, the inputs, the last restore status and the
status word. -/
def bSupply (r : Supply) (demand : Nat) (freqs : Abc (Option Nat)) (word : Word) : List Byte :=
  bFlag r.defined ++ nInput r.home ++ bFlag r.autoRestore ++ bFlag r.returnHome ++ bFlag r.showHold ++
    bTiming r.timing ++ b8 (supplyStateCode r.state) ++ nInput r.closed ++ nNumber r.record ++ bTicket r.ticket ++
    bFlag r.restoreWaiting ++ b32 r.dark ++ b32 demand ++
    bInput r.inputs.a ++ n24 freqs.a ++ bInput r.inputs.b ++ n24 freqs.b ++ bInput r.inputs.c ++ n24 freqs.c ++
    n8 (r.lastRestore.map statusCode) ++ b32 word.toNat

/-- R39: who asked for a transfer: its kind, its number and whether the station has been removed. SUPPLY has no number,
and only a station can be removed: the number byte of SUPPLY, and the removed byte of every originator but a station, are
there and 0 (DESIGN CHOICE, log entry 6). -/
def bOriginator : Originator → List Byte
  | .station n gone => bName "STATION" ++ b8 n.1 ++ bFlag gone
  | .watch w => bName "WATCH" ++ b8 w.1 ++ bFlag false
  | .supply => bName "SUPPLY" ++ b8 0 ++ bFlag false
  | .unload d => bName "UNLOAD" ++ b8 d.1 ++ bFlag false
  | .returnHome d => bName "RETURN" ++ b8 d.1 ++ bFlag false

def bSyncState : SyncState → List Byte
  | .free => bName "FREE"
  | .measuring => bName "MEASURING"
  | .inStep => bName "IN_STEP"

/-- R66, R71: a measurement, none where it is invalid: valid, and its three figures, each or none. -/
def bMeasurement (m : Option Measurement) : List Byte :=
  bFlag m.isSome ++ zOpt16 (m.map (·.slip)) ++ zOpt16 (m.map (·.phase)) ++ n24 (m.map (·.volts))

/-- R74: what SYN holds for a transfer in SYNC, but for the channel's number. -/
def bChannel (k : SyncChan) : List Byte :=
  bSyncState k.state ++ bOpt32 k.grantTime ++ b8 k.originCount ++ b8 k.targetCount ++ b8 k.run ++
    b16 k.measurements ++ bMaybe bMeasurement k.last

/-- R39, R64, R74: READ TRANSFER's reply. An empty slot is answered UNKNOWN, so a ticket is always there; R39's field has
none in its range, and it is sent behind its presence byte as in every other reply (DESIGN CHOICE, log entry 6). -/
def bSlot (n : SupplyNo) (t : Transfer) (phaseLeft syncLeft position : Option Nat) (channel : Option SyncChan) :
    List Byte :=
  bTicket (some t.ticket) ++ bNumber n ++ nInput t.origin ++ nNumber t.originSource ++ bFlag t.originTripped ++
    b8 (inputCode t.target) ++ bNumber t.targetSource ++ b8 (modeReqCode t.modeReq) ++ b8 (modeCode t.mode) ++
    b8 t.priority ++ bOriginator t.originator ++ b8 (phaseCode t.phase) ++ n16 phaseLeft ++ n24 syncLeft ++
    n8 (t.syncChannel.map (·.1)) ++ bFlag t.overlapExpired ++ bFlag t.abortRequested ++
    n8 (t.pendingResult.map resultCode) ++ bFlag t.excursion ++ b32 t.startTime ++ bOpt32 t.endTime ++
    n8 (t.result.map resultCode) ++ n8 position ++ bMaybe bChannel channel

def bLimits (l : SyncLimits) : List Byte := b16 l.slip ++ b8 l.phase ++ b8 l.volts ++ b8 l.timeout

/-! ## Deliveries -/

def bUnload (e : UnloadEntry) : List Byte :=
  bNumber e.supply ++ match e.status with
    | .inFlight k => bName "IN_FLIGHT" ++ b16 k
    | .blocked why => bName "BLOCKED" ++ bOutcome why

def bMoved (e : MovedEntry) : List Byte :=
  bNumber e.supply ++ b8 (inputCode e.fromInput) ++ b8 (inputCode e.toInput)

/-- R89: a gauge field: absent, or a level or none. -/
def bGauge (v : Option (Option Nat)) : List Byte := bOpt (b32 0) n32 v

/-- R89: every field of a delivery record, in the order of its table. -/
def bDelivery (d : Delivery) : List Byte :=
  b8 d.slot.1 ++ bOpt32 d.reference ++ bNumber d.source ++ bFlag d.cold ++ b8 (deliveryCode d.state) ++
    bFlag d.unarmed ++ bFlag d.fillWhileLoaded ++ bFlag d.autoClosed ++ bFlag d.unchecked ++ b24 d.expected ++
    b8 d.armMinutes ++ b8 d.finishMinutes ++ b8 d.tolerancePm ++ b32 d.registerAtArm ++ b32 d.latestRegister ++
    bGauge d.gaugeAtOpen ++ bGauge d.gaugeAtClose ++ bOpt64 d.markAtOpen ++ bOpt64 d.markAtClose ++
    n24 d.metered ++ n56 d.burnDuring ++ zOpt24 d.gaugeRise ++ zOpt56 d.variance ++ n16 d.tolerance ++
    n24 d.credit ++ bList bUnload d.unloads ++ bFlag d.blockedReported ++ bList bMoved d.moved ++
    bOpt32 d.armTime ++ bOpt32 d.openTime ++ bOpt32 d.endTime ++ bOpt32 d.deadline

def bReturn (e : ReturnEntry) : List Byte :=
  bNumber e.supply ++ b8 (inputCode e.fromInput) ++ b8 (inputCode e.toInput) ++ bNumber e.source ++ b8 e.slot.1 ++
    b32 e.deadline ++ bTicket e.ticket ++ nOutcome e.last

/-- R100: CLOSE DELIVERY's reply. -/
def bClosed (st : DeliveryState) (unarmed fillWhileLoaded autoClosed unchecked : Bool) (metered : Option Nat)
    (variance : Option Int) (tolerance credit : Option Nat) : List Byte :=
  b8 (deliveryCode st) ++ bFlag unarmed ++ bFlag fillWhileLoaded ++ bFlag autoClosed ++ bFlag unchecked ++
    n24 metered ++ zOpt56 variance ++ n16 tolerance ++ n24 credit

/-- R106: READ DELIVERY's reply. The time left is in milliseconds, in three bytes (DESIGN CHOICE, log entry 50). -/
def bRead (active : Option Delivery) (timeLeft : Option Nat) (last : Option Delivery) (returns : List ReturnEntry)
    (fillClosed : Bool) : List Byte :=
  bMaybe bDelivery active ++ n24 timeLeft ++ bMaybe bDelivery last ++ bList bReturn returns ++ bFlag fillClosed

/-! ## Metering, settlement and watches -/

/-- R108: a channel's fields before its timer readings, and behind them. -/
def bChanHead (k : Chan) : List Byte :=
  bFlag k.defined ++ nNumber k.supply ++ n8 (k.account.map (·.1)) ++ b16 k.wh ++ b8 k.width ++ bFlag k.line

def bChanTail (k : Chan) : List Byte :=
  k.bins.flatMap b16 ++ b32 k.energy ++ b32 k.lastEnergy ++ bFlag k.noise ++ b16 k.discarded ++ bFlag k.saturated

/-- R117: a channel's fields but its timer readings. -/
def bChan (k : Chan) : List Byte := bChanHead k ++ bFlag k.discardMark ++ bChanTail k

/-- R110: a channel's fields as now written, the two timer readings among them: R117 alone leaves them out (DESIGN
CHOICE, log entry 6). -/
def bChanWritten (k : Chan) : List Byte :=
  bChanHead k ++ bOpt32 k.pulseStart ++ bFlag k.discardMark ++ bOpt32 k.lastFall ++ bChanTail k

/-- R170: a bank's five figures and SATURATED. -/
def bBank (b : BankRec) : List Byte :=
  b32 b.energy ++ b32 b.unsourced ++ b32 b.charge ++ b32 b.dark ++ b32 b.count ++ bFlag b.saturated

def bBankHeader (h : BankHeader) : List Byte := b8 (bankStateCode h.state) ++ bOpt32 h.start ++ bOpt32 h.ends

def bClock (c : Clock) : List Byte :=
  b32 c.time ++ b8 c.minutes ++ n8 c.pendingMinutes ++ b32 c.index ++ b32 c.serial ++ b32 c.start ++
    b40 c.nextBoundary ++ b32 c.ticks

def bOpenRecord (r : OpenRecord) : List Byte :=
  b32 r.serial ++ b32 r.index ++ bFlag r.hire ++ bFlag r.burn ++ bFlag r.matrix ++ bFlag r.dark

def bFigures (f : SourceFigures) : List Byte :=
  b32 f.burn ++ b64 f.hire ++ b32 f.cost ++ b40 f.energy ++ b8 f.residue ++ bFlag f.costSaturated

/-- R129: the last-settled figures. -/
def bSettled (r : Settled) : List Byte :=
  b32 r.index ++ b32 r.serial ++ b32 r.start ++ b32 r.endTime ++ b32 r.ticks ++ b16 r.price ++
    r.sources.toList.flatMap bFigures ++ b40 r.totalCost ++ b48 r.totalEnergy ++ b40 r.totalUnsourced ++
    b16 r.totalResidue ++ r.dark.toList.flatMap b32

/-- R137: an operand's kind and index; a kind of 0xFF is none (R167). Behind that kind the index byte is there and 0
(DESIGN CHOICE, log entry 6). -/
def bOperand (o : Option Operand) : List Byte :=
  match o with
  | none => b8 0xFF ++ b8 0
  | some o => b8 (operandCode o).1 ++ b8 (operandCode o).2

/-- R137, R148: READ WATCH's reply. R148 has a defined entry alone carry the operand's value; the reply for an undefined
entry has the field all the same, sent as absent: a presence byte of 0 and four bytes of 0 (DESIGN CHOICE, log entry
51). -/
def bWatch (r : Watch) (value : Option Word) : List Byte :=
  bFlag r.defined ++ bFlag r.armed ++ bOperand r.operand ++ b8 (condCode r.cond) ++ b32 r.threshold.toNat ++
    b32 r.hysteresis ++ b16 r.persistence ++ b8 (actionCode r.action) ++ nNumber r.supply ++ n8 r.priority ++
    b8 r.mask.toNat ++ b8 (watchStateCode r.state) ++ b16 r.counter ++ bFlag r.refusalReported ++
    bOpt32 (r.lastValue.map (·.toNat)) ++ bFlag r.lastCond ++ bTicket r.ticket ++ nOutcome r.lastStatus ++
    bOpt32 (value.map (·.toNat))

/-! ## Replies -/

/-- R166, R168, R170, R171: the bytes of a body. READ CHANNEL's sum of the demand bins, at most 60 times 65,535, is sent
in three bytes; a demand, a tank's last load and a status word in four, as wide as the figure that WCH samples (R139): the
spec gives these widths nowhere (DESIGN CHOICE, log entry 6). -/
def bBody : Body → List Byte
  | .empty => []
  | .held m => b8 m.1
  | .station m => b8 m.1
  | .attention cause remaining => bAttention cause remaining
  | .log lost first rs more => bLog lost first rs more
  | .seek cursor oldest next => b32 cursor ++ b32 oldest ++ b32 next
  | .time old new boundary index next => b32 old ++ b32 new ++ bFlag boundary ++ b32 index ++ b40 next
  | .port current pending flags => bSettings current ++ bSettings pending ++ bPortFlags flags
  | .clamps l v f g => bClamps l v f g
  | .source r available accrued word => bSource r available accrued word
  | .undefinedSupply lines => b8 (supplyStateCode .undefined) ++ bAbc bLine lines
  | .supply r demand freqs word => bSupply r demand freqs word
  | .accepted k x m => b16 k ++ b8 (inputCode x) ++ b8 (modeCode m)
  | .slot n t phaseLeft syncLeft position channel => bSlot n t phaseLeft syncLeft position channel
  | .limits l => bLimits l
  | .tankSet book levelNow held => b32 book ++ b32 levelNow ++ bFlag held
  | .price old new => b16 old ++ b16 new
  | .tank r levelNow gauge gaugeStale variance minutes wholeBurn remainder price =>
    bTank r levelNow gauge gaugeStale variance minutes wholeBurn remainder price
  | .armed d st r overfill => b8 d.1 ++ b8 (deliveryCode st) ++ b32 r ++ bFlag overfill
  | .metered q => b32 q
  | .closed st u l a x metered variance tolerance credit => bClosed st u l a x metered variance tolerance credit
  | .delivery active timeLeft last returns fill => bRead active timeLeft last returns fill
  | .channelSet k => bChanWritten k
  | .undefinedChannel line energy last => bFlag false ++ bFlag line ++ b32 energy ++ b32 last
  | .channel k sum demand record cells =>
    bChan k ++ b24 sum ++ b32 demand ++ nNumber record ++ cells.toList.flatMap b32
  | .interval l pending => b8 l ++ n8 pending
  | .period k pending => b8 (bankCode k) ++ bFlag pending
  | .account ref k st e b le lu lc ld index serial pending =>
    bOpt32 ref ++ b8 (bankCode k) ++ bOpt32 st ++ bOpt32 e ++ bBank b ++ b40 le ++ b40 lu ++ b40 lc ++ b40 ld ++
      b32 index ++ b32 serial ++ bFlag pending
  | .settlement clock bankA bankB pending records settled =>
    bClock clock ++ bBankHeader bankA ++ bBankHeader bankB ++ bFlag pending ++ bList bOpenRecord records ++
      bMaybe bSettled settled
  | .armedWatches mask => b32 mask.toNat
  | .watch r value => bWatch r value

/-- R166: the payload of a reply: its header, and its body. -/
def replyPayload (r : Reply) : List Byte := bHeader r.status r.attention ++ bBody r.body

/-- R152, section 12.1: the frame of a reply, from its start character to its CRC. A frame carries at most 200 payload
characters; a payload longer than that has none (log entry 6). -/
def replyFrame (r : Reply) : Option (List Byte) :=
  let pl := replyPayload r
  if pl.length ≤ 200 then
    let covered := b8 r.dest ++ b8 r.src ++ b8 r.kind ++ b8 pl.length ++ pl
    some (0xA5#8 :: covered ++ b16 (crc covered).toNat)
  else none

end Sys2Proof.Machine
end

