-- ==== Sys2Proof/WellFormed.lean ====
section
/-! DEFINITION. WellFormed.lean: the commands whose figures fit the fields that carry them: one, two, three or four
bytes, an all-ones value standing for none (R166, section 12.2). A well-formed figure may still be outside its range,
which the owning block answers RANGE. -/

namespace Sys2Proof

/-- Fields of one to four bytes. -/
def fits1 (n : Nat) : Bool := n < 256
def fits2 (n : Nat) : Bool := n < 65536
def fits3 (n : Nat) : Bool := n < 16777216
def fits4 (n : Nat) : Bool := n < 4294967296

/-- R166: fields of one and two bytes whose all-ones value is none. -/
def fitsOpt1 : Option Nat → Bool
  | none => true
  | some n => n < 255
def fitsOpt2 : Option Nat → Bool
  | none => true
  | some n => n < 65535

/-- R151: a source address of one character and a length of at most 200. -/
def Request.wellFormed (rq : Request) : Bool := fits1 rq.addr && rq.len ≤ 200

def Curve.wellFormed (c : Curve) : Bool := fits2 c.r0 && fits2 c.r1 && fits2 c.r2 && fits2 c.r3 && fits2 c.r4

def TimingReq.wellFormed (t : TimingReq) : Bool :=
  fitsOpt2 t.deadTime && fitsOpt2 t.confirm && fitsOpt2 t.tripConfirm && fitsOpt2 t.overlap && fitsOpt1 t.settleTime &&
    fitsOpt2 t.settleWindow

def WatchReq.wellFormed (w : WatchReq) : Bool :=
  fitsOpt1 w.kind && fits1 w.index && fits1 w.cond && fits4 w.hysteresis && fits2 w.persistence && fits1 w.action &&
    fits1 w.supply && fits1 w.priority

/-- The commands whose figures fit their fields. -/
def Instr.wellFormed : Instr → Bool
  | .coldStart _ _ _ => true
  | .warmRestart _ _ elapsed _ => fits4 elapsed
  | .fillPointRestartCheck _ _ _ => true
  | .frameReceived _ _ _ => true
  | .characterGapTimeout _ _ => true
  | .lineQuiet _ _ => true
  | .replySent _ _ => true
  | .unlistedKind rq kind => rq.wellFormed && kind < 128 && !Machine.listedKind kind
  | .ping rq => rq.wellFormed
  | .takeHold rq => rq.wellFormed
  | .releaseHold rq => rq.wellFormed
  | .forceRelease rq => rq.wellFormed
  | .holdLapsed => true
  | .enrolStation rq port address role supply =>
    rq.wellFormed && fits1 port && fits1 address && fits1 role && fitsOpt1 supply
  | .removeStation rq station => rq.wellFormed && fits1 station
  | .setEnables rq _ => rq.wellFormed
  | .clearEnables rq _ => rq.wellFormed
  | .clearCauses rq _ => rq.wellFormed
  | .queryAttention rq => rq.wellFormed
  | .readLog rq count => rq.wellFormed && fits1 count
  | .seekLog rq position => rq.wellFormed && fits1 position
  | .setTime rq _ time => rq.wellFormed && fits4 time
  | .setPort rq port rate address enabled =>
    rq.wellFormed && fits1 port && fits1 rate && fits1 address && fits1 enabled
  | .restartPort rq port => rq.wellFormed && fits1 port
  | .readPort rq port => rq.wellFormed && fits1 port
  | .hireSource rq source rating curve hireRate hot loadingLimit staleTime =>
    rq.wellFormed && fits1 source && fits2 rating && curve.wellFormed && fits3 hireRate && fits1 hot &&
      fits2 loadingLimit && fits1 staleTime
  | .offHireSource rq source => rq.wellFormed && fits1 source
  | .sourceReport rq source running load voltage freq gauge _ =>
    rq.wellFormed && fits1 source && fits1 running && fits2 load && fits2 voltage && fits3 freq && fits2 gauge
  | .sourceStale _ => true
  | .readSource rq source => rq.wellFormed && fits1 source
  | .secondTick _ _ => true
  | .settlement => true
  | .defineSupply rq supply sources home _ _ timing =>
    rq.wellFormed && fits1 supply && fitsOpt1 sources.a && fitsOpt1 sources.b && fitsOpt1 sources.c && fitsOpt1 home &&
      timing.wellFormed
  | .senseCrossing _ _ _ => true
  | .voltageLossTimeout _ _ => true
  | .supplyTrip _ => true
  | .auxChange _ _ _ _ => true
  | .confirmTimeout _ _ => true
  | .pulseEnd _ _ _ => true
  | .clearFault rq supply => rq.wellFormed && fits1 supply
  | .setShowHold rq _ supply => rq.wellFormed && fits1 supply
  | .clearShowHold rq supply => rq.wellFormed && fits1 supply
  | .readSupply rq supply => rq.wellFormed && fits1 supply
  | .transfer rq supply target mode priority =>
    rq.wellFormed && fits1 supply && fits1 target && fits1 mode && fits1 priority
  | .channelGrant _ => true
  | .inStepReport _ => true
  | .syncTimeout _ => true
  | .tripReport _ => true
  | .overlapExpiry _ => true
  | .deadTimeExpiry _ => true
  | .settleTimeExpiry _ => true
  | .abortTransfer rq supply ticket => rq.wellFormed && fits1 supply && fits2 ticket
  | .readTransfer rq supply => rq.wellFormed && fits1 supply
  | .setSyncLimits rq slip phase voltage timeout =>
    rq.wellFormed && fitsOpt2 slip && fitsOpt1 phase && fitsOpt1 voltage && fitsOpt1 timeout
  | .setTank rq source capacity floor level =>
    rq.wellFormed && fits1 source && fits4 capacity && fits4 floor && fits4 level
  | .setFuelPrice rq price => rq.wellFormed && fits2 price
  | .readTank rq source => rq.wellFormed && fits1 source
  | .armDelivery rq source reference expected register expiry finish tolerance =>
    rq.wellFormed && fits1 source && fits4 reference && fits3 expected && fits4 register && fitsOpt1 expiry &&
      fitsOpt1 finish && fitsOpt1 tolerance
  | .unloadSurveyTimer _ => true
  | .fillPointClose _ _ => true
  | .fillPointOpen _ _ => true
  | .meterReading rq reference register => rq.wellFormed && fits4 reference && fits4 register
  | .closeDelivery rq reference register => rq.wellFormed && fits4 reference && fits4 register
  | .finishTimerExpiry _ => true
  | .cancelDelivery rq reference => rq.wellFormed && fits4 reference
  | .armExpiry _ => true
  | .returnAttemptTimer _ => true
  | .returnWindowExpiry _ => true
  | .readDelivery rq source => rq.wellFormed && fits1 source
  | .defineChannel rq channel supply account wh width =>
    rq.wellFormed && fits1 channel && fitsOpt1 supply && fitsOpt1 account && fits2 wh && fitsOpt1 width
  | .meterRisingEdge _ _ => true
  | .meterFallingEdge _ _ => true
  | .readChannel rq channel => rq.wellFormed && fits1 channel
  | .defineAccount rq account present reference =>
    rq.wellFormed && fits1 account && fits1 present && fits4 reference
  | .removeAccount rq account => rq.wellFormed && fits1 account
  | .setInterval rq minutes => rq.wellFormed && fits1 minutes
  | .closePeriod rq => rq.wellFormed
  | .releasePeriod rq => rq.wellFormed
  | .readAccount rq account bank => rq.wellFormed && fits1 account && fits1 bank
  | .readSettlement rq => rq.wellFormed
  | .defineWatch rq entry fields => rq.wellFormed && fits1 entry && fields.wellFormed
  | .armWatches rq _ => rq.wellFormed
  | .disarmWatches rq _ => rq.wellFormed
  | .readWatch rq entry => rq.wellFormed && fits1 entry

end Sys2Proof
end

