-- ==== Sys2Proof/Tests/Slice0.lean ====
section
/-! SUPPORT. Tests/Slice0.lean: small tests, most of them the manual's own worked figures, and a witness for every
statement that has hypotheses: states and operands that meet them together, clause by clause. -/

open Sys2Proof Sys2Proof.Machine

namespace Sys2Proof.Tests

set_option Elab.async false

/-! ## A small site

Stations: 0 CONSOLE on port 0, 1 STAGE of supply 1 on port 1, 2 FUEL on port 1, 3 FLEET on port 2; station 0 holds the
map. Sources 1 and 2 run fresh; supply 1 is LIVE on A (source 1) with source 2 on B, both with voltage. Channel 0
meters it for account 5. -/

def man (port : PortNo) (addr : Nat) (role : Role) (bound : Option SupplyNo) : Station :=
  { Station.cold 0 with port := port, addr := addr, role := role, bound := bound }

def cons : Station := Station.cold 0
def stage : Station := man 1 2 .stage (some 0)
def fuel : Station := man 1 6 .fuel none
def fleet : Station := man 2 3 .fleet none

def team : Stn :=
  { stations := Vector.replicate 32 none |> (upd · 0 (some cons)) |> (upd · 1 (some stage)) |>
      (upd · 2 (some fuel)) |> (upd · 3 (some fleet))
    hold := some 0 }

def hire : Hire :=
  { rating := 400, curve := ⟨60, 380, 680, 1000, 1300⟩, rate := 24000, hot := false, loadingLimit := 800, staleTime := 10 }
def tele : Telemetry := { running := true, load := 180, voltage := 229, freq := 50000, gauge := 360, alarms := 0 }
def runs : Source :=
  { Source.cold with state := .running, hire := some hire, telemetry := some tele, staleTimer := some 10000 }

def fed (i : SourceNo) (aux : Bool) : InputRec :=
  { InputRec.cold 0 aux with source := some i, voltage := true, absentSince := none, period := some 20000,
                             lastCrossing := some 0 }
def main : Supply :=
  { Supply.cold 0 (Abc.pure false) with
    defined := true, inputs := ⟨fed 0 true, fed 1 false, InputRec.cold 0 false⟩, home := some .a, state := .live,
    closed := some .a, record := some 0 }

def meter : Chan := { Chan.cold 0 false with defined := true, supply := some 0, account := some 5, wh := 10 }
def tank : Tank := { Tank.cold with set := true, capacity := some 10000, floor := some 200, book := some 3700 }

def calm : State := { State.reset with stn := team }
def site : State :=
  calm |> setSource 0 runs |> setSource 1 { runs with telemetry := some { tele with voltage := 231 } } |>
    setSupply 0 main |> setChan 0 meter |> setAccount 5 { Account.cold 5 with defined := true } |> setTankRec 0 tank

def job : Delivery :=
  { slot := 0, reference := some 7731, source := 0, cold := true, state := .armed, unarmed := false,
    fillWhileLoaded := false, autoClosed := false, unchecked := false, expected := 3000, armMinutes := 15,
    finishMinutes := 5, tolerancePm := 20, registerAtArm := 118400, latestRegister := 118400, gaugeAtOpen := none,
    gaugeAtClose := none, markAtOpen := none, markAtClose := none, metered := none, burnDuring := none,
    gaugeRise := none, variance := none, tolerance := none, credit := none, unloads := [], blockedReported := false,
    moved := [], armTime := some 0, openTime := none, endTime := none, deadline := some 900, armTimer := some 900000,
    finishTimer := none, surveyTimer := none }
def bowser : State := setDelivery 0 (some job) site

/-- Ticket 305 of section 3.14: supply 1 from A to B, asked by station 0, in a phase. -/
def move (p : Phase) : Transfer :=
  { ticket := 305, origin := some .a, originSource := some 0, originTripped := false, target := .b, targetSource := 1,
    modeReq := .break, mode := .break, priority := 5, originator := .station 0 false, phase := p, phaseTimer := none,
    syncTimer := none, syncChannel := none, overlapExpired := false, abortRequested := false, pendingResult := none,
    excursion := false, startTime := 0, endTime := none, result := none, tripReport := none }
/-- The site with a transfer in flight on supply 1, its target source claimed by it. -/
def moving (t : Transfer) : State :=
  site |> setSlot 0 (some t) |> setSupply 0 { main with state := .transfer, ticket := some t.ticket } |>
    setSource 1 { runs with claim := some t.ticket } |> setCounter 306

def busy : State := setPort 0 { Port.cold with serving := true } site

/-- A request of a station, of the length of its kind. -/
def ask (st : Station) (k : Kind) : Request := ⟨st.port, st.addr, k.len, 0⟩
/-- The same of the CONSOLE station. -/
def say (k : Kind) : Request := ask cons k

/-- The state a command answers. -/
def after (c : Instr) (s : State) : State :=
  match exec c s with
  | .next t => t
  | .fault _ => s
  | .refused _ => s

/-- The last character of port `p`'s reply sent, the port free for the next request. -/
def freed (p : PortNo) (s : State) : State := after (.replySent p 0) s

/-- The reply waiting on port 0. -/
def said (c : Instr) (s : State) : Option (Status × Body) :=
  ((after c s).port 0).reply.map fun r => (r.status, r.body)

/-- The kind of the newest log record, with its subject and values. -/
def logged (s : State) : Option (LogKind × Option Nat × Option Nat × Option Nat) :=
  s.log.ring.getLast?.map fun r => (r.kind, r.subject, r.v1, r.v2)

/-! ## Meeting the hypotheses -/

theorem apart (s : State) (h : ∀ n m : StationNo, (s.station n).all (fun a => (s.station m).all fun b =>
    !(a.port == b.port && a.addr == b.addr) || n == m) = true) : AddressLaw s := by
  intro n m a b ha hb hp hd
  have := h n m
  simp [ha, hb, hp, hd] at this
  exact this

theorem team_apart (s : State) (h : s.stn.stations = team.stations) : AddressLaw s := by
  have : AddressLaw calm := apart calm (by decide +kernel)
  intro n m a b ha hb
  exact this n m a b (by rw [← ha]; simp [State.station, h]; rfl) (by rw [← hb]; simp [State.station, h]; rfl)

/-- The conditions of `Heard` that a state of the small team may fail, as one decidable test. -/
def reaches (rq : Request) (n : StationNo) (st : Station) (s : State) : Bool :=
  enabled s rq.port && !(s.port rq.port).serving && s.station n == some st && st.port == rq.port && st.addr == rq.addr

/-- The same of `Taken`. -/
def meets (rq : Request) (k : Kind) (n : StationNo) (st : Station) (s : State) : Bool :=
  reaches rq n st s && rq.len == k.len && k.roles.contains st.role && (!k.hold || s.stn.hold == some n)

theorem heard_of {rq : Request} {n : StationNo} {st : Station} {s : State} (hs : s.stn.stations = team.stations)
    (h : reaches rq n st s = true) : Heard rq n st s := by
  simp only [reaches, Bool.and_eq_true, Bool.not_eq_true', beq_iff_eq] at h
  exact ⟨h.1.1.1.1, h.1.1.1.2, h.1.1.2, h.1.2, h.2, team_apart s hs⟩

theorem taken_of {rq : Request} {k : Kind} {n : StationNo} {st : Station} {s : State}
    (hs : s.stn.stations = team.stations) (h : meets rq k n st s = true) : Taken rq k n st s := by
  simp only [meets, Bool.and_eq_true, beq_iff_eq] at h
  refine ⟨heard_of hs h.1.1.1, h.1.1.2, by simpa using h.1.2, ?_⟩
  intro hk
  simpa [hk] using h.2

/-- Every listed kind, asked by the CONSOLE station that holds the map, passes the checks of STN. -/
abbrev Ready (k : Kind) (s : State) : Prop := Taken (say k) k 0 cons s

theorem console_ready : ∀ k ∈ kindTable, Ready k site := by
  intro k hk
  refine taken_of rfl ?_
  have : kindTable.all (fun k => meets (say k) k 0 cons site) = true := by decide +kernel
  exact List.all_eq_true.mp this k hk

theorem ready {k : Kind} {s : State} (hs : s.stn.stations = team.stations) (h : meets (say k) k 0 cons s = true) :
    Ready k s := taken_of hs h

theorem not_flying {s : State} {n : SupplyNo} (h : ∀ t, s.slot n = some t → t.result ≠ none) : ∀ t, ¬ flying s n t :=
  fun t ht => h t ht.1 ht.2

theorem inputs_all {p : Input → Prop} (h : ∀ x ∈ allInputs, p x) : ∀ x, p x := fun x =>
  h x (by cases x <;> decide)

theorem at_inputs {p : SupplyNo → Input → Prop} (h : ∀ n, ∀ x ∈ allInputs, p n x) : ∀ n x, p n x := fun n =>
  inputs_all (h n)

/-! ## Witnesses: the queue, the starts, the laws -/

def queued : State := { site with pending := [.settlement, .ping (say kindPing)] }
def fullLog : Log :=
  { ring := (List.range 512).map fun i =>
      { seq := i + 1000, time := 0, kind := .sourceFresh, subject := none, v1 := none, v2 := none }
    next := 1512 }
/-- A slow reader (section 11.5): the ring is full and the FUEL station's cursor stands at the oldest record. -/
def slow : State :=
  { site with log := fullLog, pending := [.ping (say kindPing)] } |> setStation 2 (some { fuel with cursor := 1000 })

theorem slow_sound (s : State) (h : s.log = fullLog) : RingLaw s := by
  unfold RingLaw RingSound
  rw [h]
  refine ⟨by simp [fullLog, Config.ringSize], ?_, by simp [fullLog, Config.ringSize]⟩
  intro k hk
  simp [fullLog]
  omega

/-- A command that answers a state. -/
def goes (o : Host.Outcome State Fault Refusal) : Bool :=
  match o with
  | .next _ => true
  | .fault _ => false
  | .refused _ => false

theorem goes_next {o : Host.Outcome State Fault Refusal} (h : goes o = true) : ∃ t, o = .next t := by
  cases o with
  | next t => exact ⟨t, rfl⟩
  | fault f => cases h
  | refused r => cases h

theorem goes_after {c : Instr} {s : State} (h : goes (exec c s) = true) : exec c s = .next (after c s) := by
  obtain ⟨t, ht⟩ := goes_next h
  simp only [after, ht]

theorem witness_StepTakesFrontCommand :
    queued.pending = .settlement :: [.ping (say kindPing)] ∧ site.pending = [] := ⟨rfl, rfl⟩

theorem witness_ColdStartSetsEveryBlock : startOf ⟨false, true, true, true⟩ = some .cold ∧
    startOf ⟨true, false, false, false⟩ = some .cold := by decide

/-- Supply 1 in TRANSFER, found closed on two inputs. -/
def twoClosed : State :=
  modSupply 0 (fun r => { r with inputs := ⟨fed 0 true, fed 1 true, InputRec.cold 0 false⟩ }) (moving (move .parallelOpen))
def announced : SettleRec :=
  { index := 0, serial := 1, start := 0, endTime := 900, ticks := 900, hire := none, burn := none, matrix := none,
    dark := none }
def filed : SettleRec :=
  { announced with
    hire := some (Vector.replicate 16 0), burn := some (Vector.replicate 16 0),
    matrix := some (Vector.replicate 48 (Vector.replicate 17 0)), dark := some (Vector.replicate 12 0) }

theorem witness_WarmRestartKeepsAndClears : startOf ⟨false, false, true, true⟩ = some .warm ∧
    startOf ⟨true, false, false, true⟩ = some .warm ∧ site.station 31 = none ∧ site.station 3 = some fleet ∧
    (onHire (site.source 15) = false ∧ onHire (site.source 0) = true ∧ (site.source 0).hire = some hire) ∧
    (site.delivery 0 = none ∧ ∀ q ∈ [DeliveryState.armed, .waitingUnload, .filled, .opened],
      (setDelivery 0 (some { job with state := q }) site).delivery 0 = some { job with state := q }) ∧
    ((∀ t, ¬ flying site 0 t) ∧ flying (moving (move .dead)) 0 (move .dead)) ∧
    ((site.supply 11).defined = false ∧ (site.supply 0).defined = true ∧ (site.supply 0).state ≠ .transfer) ∧
    (twoClosed.slot 0 = some (move .parallelOpen) ∧ (twoClosed.supply 0).state = .transfer ∧
      Input.a ≠ .b ∧ (twoClosed.input 0 .a).aux = true ∧ (twoClosed.input 0 .b).aux = true) ∧
    (({ job with state := .opened, fillWhileLoaded := true } : Delivery).fillWhileLoaded = true ∧
      (site.source job.source).state ≠ .refuel ∧ job.state ≠ .waitingUnload ∧ job.state ≠ .opened) ∧
    ((∀ g ∈ [announced.hire.isSome, announced.burn.isSome, announced.matrix.isSome, announced.dark.isSome], g = false) ∧
      ∀ g ∈ [filed.hire.isSome, filed.burn.isSome, filed.matrix.isSome, filed.dark.isSome], g = true) := by
  refine ⟨?_, ?_, ?_, ?_, ?_, ?_, ⟨not_flying ?_, ?_⟩, ?_⟩ <;> (try unfold flying) <;> decide +kernel

theorem witness_BankLawKept : (BankLaw queued ∧ OverheadLaw queued) ∧ (∃ t, step queued = .next t) :=
  ⟨by unfold BankLaw OverheadLaw; decide +kernel, goes_next (by decide +kernel)⟩

theorem witness_StationLawsKept : (HoldLaw queued ∧ AddressLaw queued) ∧ (∃ t, step queued = .next t) :=
  ⟨⟨by unfold HoldLaw; decide +kernel, team_apart _ rfl⟩, goes_next (by decide +kernel)⟩

theorem witness_LogLawKept : RingLaw slow ∧ CursorLaw slow ∧ (∃ t, step slow = .next t) :=
  ⟨slow_sound _ rfl, by unfold CursorLaw; decide +kernel, goes_next (by decide +kernel)⟩

/-- A part with port 3 disabled. -/
def shut : State := setPort 3 { Port.cold with current := { PortSettings.cold with enabled := false } } queued

theorem witness_DisabledPortFlagsStayClear : QuietPortLaw shut ∧ enabled shut 3 = false ∧ (∃ t, step shut = .next t) :=
  ⟨by unfold QuietPortLaw; decide +kernel, by decide +kernel, goes_next (by decide +kernel)⟩

/-! ## Witnesses: requests and answers -/

theorem witness_UnlistedRequesterDenied :
    (asks (.ping ⟨3, 9, 0, 0⟩) = some (⟨3, 9, 0, 0⟩, kindPing) ∧ enabled shut 3 = false) ∧
    (asks (.ping ⟨0, 31, 0, 0⟩) = some (⟨0, 31, 0, 0⟩, kindPing) ∧ enabled busy 0 = true ∧
      (busy.port 0).serving = true) ∧
    (enabled site 0 = true ∧ (site.port 0).serving = false ∧
      ∀ n st, site.station n = some st → ¬ (st.port = 0 ∧ st.addr = 31)) ∧
    (127 < 128 ∧ listedKind 127 = false ∧ listedKind 0 = false) := by decide +kernel
/-- R161, R166: DENIED to a station that is not listed carries the kind's code plus 128 and no attention. -/
theorem test_unlisted_requester : ∀ c ∈ [Instr.ping ⟨0, 31, 0, 0⟩, .unlistedKind ⟨0, 31, 7, 0⟩ 127],
    ((after c site).port 0).reply.map (fun r => (r.dest, r.status, r.attention)) = some (31, .denied, false) := by decide +kernel

def loose : State := setHold none site
def lent : State := setHold (some 2) site

theorem witness_RequestChecksInOrder :
    (asks (.setTime (say kindPing) false 7) = some (say kindPing, kindSetTime) ∧ Heard (say kindPing) 0 cons site ∧
      (say kindPing).len ≠ kindSetTime.len) ∧
    (asks (.takeHold (ask stage kindTakeHold)) = some (ask stage kindTakeHold, kindTakeHold) ∧
      Heard (ask stage kindTakeHold) 1 stage site ∧ stage.role ∉ kindTakeHold.roles) ∧
    (asks (.setInterval (say kindSetInterval) 5) = some (say kindSetInterval, kindSetInterval) ∧
      Heard (say kindSetInterval) 0 cons loose ∧ cons.role ∈ kindSetInterval.roles ∧ kindSetInterval.hold = true ∧
      loose.stn.hold = none) ∧
    (Heard (say kindSetInterval) 0 cons lent ∧ lent.stn.hold = some 2 ∧ (2 : StationNo) ≠ 0) ∧
    (127 < 128 ∧ listedKind 127 = false ∧ listedKind 0 = false ∧ listedKind 17 = false ∧
      Heard (say kindPing) 0 cons site) ∧
    site.station 3 = some fleet := by
  refine ⟨⟨rfl, heard_of rfl ?_, ?_⟩, ⟨rfl, heard_of rfl ?_, ?_⟩, ⟨rfl, heard_of rfl ?_, ?_, rfl, rfl⟩,
    ⟨heard_of rfl ?_, rfl, ?_⟩, ⟨by decide, by decide, by decide, by decide, heard_of rfl ?_⟩, ?_⟩ <;> decide +kernel

/-- R157: a request two seconds on sets the requester's last-request time, whatever its answer. -/
theorem test_request_renews : ((heard ⟨2, 3, 0, 2000000⟩ 3 site).station 3).map (·.lastRequest) = some 2000 ∧
    (heard ⟨2, 3, 0, 2000000⟩ 3 site).now = 2000000 := by decide +kernel

/-- The site with a channel of no supply, and one of supply 2 for account 7. -/
def rows : State :=
  site |> setChan 1 { meter with supply := none } |> setChan 2 { meter with supply := some 1, account := some 7 }

theorem witness_StageStationsNameTheirOwn : stage.role = .stage ∧ (number? 12 2 = some 1 ∧ stage.bound ≠ some 1) ∧
    (number? 12 12 = some 11 ∧ stage.bound ≠ some 11) ∧
    (∀ k ∈ [kindTransfer, kindAbortTransfer, kindSetShowHold, kindClearShowHold, kindReadSupply, kindReadChannel,
      kindReadAccount], Taken (ask stage k) k 1 stage rows) ∧
    (index? 24 0 = some 0 ∧ index? 24 1 = some 1 ∧ index? 24 2 = some 2 ∧ index? 24 23 = some 23 ∧
      (rows.chan 1).supply = none ∧ (rows.chan 2).supply ≠ stage.bound ∧ (rows.chan 23).defined = false) ∧
    (index? 48 7 = some 7 ∧ ∀ c m, (rows.chan c).defined = true → (rows.chan c).account = some 7 →
      (rows.chan c).supply = some m → stage.bound ≠ some m) := by
  refine ⟨rfl, by decide, by decide, ?_, by decide +kernel, by decide +kernel⟩
  intro k hk
  refine taken_of rfl ?_
  have : [kindTransfer, kindAbortTransfer, kindSetShowHold, kindClearShowHold, kindReadSupply, kindReadChannel,
    kindReadAccount].all (fun k => meets (ask stage k) k 1 stage rows) = true := by decide +kernel
  exact List.all_eq_true.mp this k hk

/-- Account 5 undefined, and still named by the channel on supply 1. -/
def unnamed : State := setAccount 5 (Account.cold 5) site

/-- The numbers 0, 17, 13, 24, 48, 32 and 4 lie just outside; the requests are `console_ready`'s. -/
theorem witness_NumbersOutOfRangeAreRefused : (∀ k ∈ kindTable, Ready k site) ∧ (0 = 0 ∨ 16 < 0) ∧ (17 = 0 ∨ 16 < 17) ∧
    (13 = 0 ∨ 12 < 13) ∧ 24 ≤ 24 ∧ 48 ≤ 48 ∧ 32 ≤ 32 ∧ 4 ≤ 4 := ⟨console_ready, by decide⟩

/-- The fields just outside their ranges, kind by kind, and the two stations that may name supply 1 and account 5. -/
theorem witness_NumbersOutOfRangeAreRefused_fields :
    (19 < 20 ∧ 2500 < 2501 ∧ 1 < 2 ∧ 499 < 500 ∧ 1000 < 1001 ∧ (1 : Nat) ≠ 0 ∧ 1 < 2 ∧ 60 < 61) ∧
    ((⟨some 17, none, none⟩ : Abc (Option Nat)).get .a = some 17 ∧ 16 < 17) ∧
    (∀ x ∈ allInputs, inputCode x = 2 → (⟨some 1, some 2, none⟩ : Abc (Option Nat)).get x = none) ∧
    (∀ x ∈ allInputs, inputCode x ≠ 3) ∧ (10000 < 10001 ∧ 99 < 100 ∧ 2000 < 2001 ∧ 39 < 40 ∧ 500 < 501 ∧ 30 < 31 ∧
      199 < 200 ∧ 5000 < 5001) ∧
    (3 < 4 ∧ 2 < 3 ∧ cons.role ≠ .stage ∧ 7 < 8) ∧ (9 < 10 ∧ 200000 < 200001 ∧ 200 < 201) ∧ 65535 < 65536 ∧
    (48 ≤ 48 ∧ 1000 < 1001 ∧ 4 < 5 ∧ 100 < 101) ∧ (5 < 6 ∧ 31 < 32 ∧ 47 < 48) ∧
    (stage.role = .stage ∧ (∀ m, number? 12 1 = some m → stage.bound = some m) ∧
      Taken (ask stage kindTransfer) kindTransfer 1 stage site ∧
      Taken (ask stage kindAbortTransfer) kindAbortTransfer 1 stage site) ∧
    (Taken (ask stage kindReadAccount) kindReadAccount 1 stage site ∧ (5 : Nat) = (5 : AccountNo).1 ∧
      (site.chan 0).defined = true ∧ (site.chan 0).account = some 5 ∧ (site.chan 0).supply = some 0 ∧
      stage.bound = some 0) := by
  refine ⟨?_, ?_, ?_, ?_, ?_, ?_, ?_, ?_, ?_, ?_, ⟨?_, ?_, taken_of rfl ?_, taken_of rfl ?_⟩, taken_of rfl ?_, ?_⟩ <;>
    decide +kernel

/-- R4, R6, R21, R42, R61, R77, R86: each of these fields lies outside its range. -/
theorem test_range_of_fields : ∀ c ∈ [
      Instr.hireSource (say kindHireSource) 1 2501 hire.curve 0 0 0 0, .hireSource (say kindHireSource) 1 400 ⟨2, 1, 3, 4, 5⟩ 0 0 0 0,
      .hireSource (say kindHireSource) 1 400 hire.curve 0 2 0 0, .hireSource (say kindHireSource) 1 400 hire.curve 0 0 499 0,
      .hireSource (say kindHireSource) 1 400 hire.curve 0 0 0 61, .sourceReport (say kindSourceReport) 16 2 0 0 0 0 0,
      .defineSupply (say kindDefineSupply) 1 ⟨some 17, none, none⟩ none false false ⟨none, none, none, none, none, none⟩,
      .defineSupply (say kindDefineSupply) 1 ⟨some 1, some 2, none⟩ (some 3) false false ⟨none, none, none, none, none, none⟩,
      .defineSupply (say kindDefineSupply) 1 ⟨some 1, some 2, none⟩ none false false ⟨some 10001, none, none, none, none, none⟩,
      .transfer (say kindTransfer) 12 4 0 5, .transfer (say kindTransfer) 12 1 3 5, .transfer (say kindTransfer) 12 1 0 8,
      .abortTransfer (say kindAbortTransfer) 12 0, .setTank (say kindSetTank) 16 9 0 0, .setTank (say kindSetTank) 16 200 201 0,
      .setFuelPrice (say kindSetFuelPrice) 65536], said c site = some (.range, .empty) := by decide +kernel
/-- R109, R125, R133, R154, R158: so does each of these. -/
theorem test_range_of_more_fields : ∀ c ∈ [
      Instr.defineChannel (say kindDefineChannel) 0 (some 13) (some 5) 10 none, .defineChannel (say kindDefineChannel) 0 none (some 48) 10 none,
      .defineChannel (say kindDefineChannel) 0 (some 12) (some 47) 0 none, .defineChannel (say kindDefineChannel) 0 (some 12) (some 47) 1001 none,
      .defineChannel (say kindDefineChannel) 0 none (some 5) 10 (some 4), .defineChannel (say kindDefineChannel) 0 none (some 5) 10 (some 101),
      .defineAccount (say kindDefineAccount) 47 2 0, .readAccount (say kindReadAccount) 47 2,
      .setPort (say kindSetPort) 0 6 40 0, .setPort (say kindSetPort) 0 1 31 0, .setPort (say kindSetPort) 0 1 48 0,
      .setPort (say kindSetPort) 0 1 40 2, .enrolStation (say kindEnrolStation) 0 0 0 none,
      .enrolStation (say kindEnrolStation) 0 32 0 none, .enrolStation (say kindEnrolStation) 0 9 4 none,
      .enrolStation (say kindEnrolStation) 0 9 3 none, .enrolStation (say kindEnrolStation) 0 9 3 (some 13)],
    said c site = some (.range, .empty) := by decide +kernel
/-- R9, R34, R61, R87, R133: an UNLISTED source, an undefined supply and an undefined account are UNKNOWN. -/
theorem test_unknown_objects : ∀ c ∈ [
      Instr.readTank (say kindReadTank) 16, .readAccount (say kindReadAccount) 6 1, .setShowHold (say kindSetShowHold) false 12,
      .clearShowHold (say kindClearShowHold) 12, .abortTransfer (say kindAbortTransfer) 12 1],
    said c site = some (.unknown, .empty) := by decide +kernel

theorem witness_AnswersAndRaises : site.station 0 = some cons ∧ site.station 31 = none ∧
    (site.station 2 = some fuel ∧ toConsole 2 fuel = false) ∧ toConsole 0 cons = true := by decide +kernel

theorem witness_LogAppendTakesNextNumber :
    (4294967295 < ({ site with log := { fullLog with next := 4294967296 } } : State).log.next) ∧
    (({ site with log := { fullLog with next := 4294967295 } } : State).log.next ≤ 4294967295) ∧
    site.log.ring.length < 512 ∧ slow.log.ring.length = 512 ∧ slow.station 31 = none ∧
    (slow.station 2 = some { fuel with cursor := 1000 } ∧ 1000 ≤ slow.log.next - 512 ∧
      ({ fuel with cursor := 1000 } : Station).gapMark = false) ∧
    ((setStation 2 (some { fuel with cursor := 1001 }) slow).station 2 = some { fuel with cursor := 1001 } ∧
      slow.log.next - 512 < 1001) := by decide +kernel

/-! ## Witnesses: the link -/

def frame (dest kind : Byte) (payload : List Byte) : Frame := { dest := dest, src := 1, kind := kind, payload := payload }

theorem witness_SoundFrameIsJudged :
    ((frame 40 0x01 (List.replicate 200 7)).payload.length ≤ 200 ∧ enabled site 0 = true ∧
      (site.port 0).rx = .hunting) ∧
    ((0x7F : Byte).toNat < 128 ∧ (40 : Byte) ≠ 0 ∧ (40 : Byte).toNat = (site.port 0).current.address ∧
      (site.port 0).serving = false) ∧
    (enabled busy 0 = true ∧ (busy.port 0).rx = .hunting ∧ (40 : Byte).toNat = (busy.port 0).current.address ∧
      (busy.port 0).serving = true) ∧
    (128 ≤ (0x80 : Byte).toNat ∧ (41 : Byte) ≠ 0 ∧ (41 : Byte).toNat ≠ (site.port 0).current.address) ∧
    (frame 0 0x0D [0, 0, 14, 16]).payload = [0, 0, 14, 16] ∧ (frame 0 0x33 [0]).payload = [0] ∧
    ((0x33 : Byte).toNat < 128 ∧ (frame 0 0x33 [1]).dest = 0 ∧ (frame 0 0x33 [1]).payload ≠ [0] ∧
      (frame 0 0x33 [1]).kind ≠ 0x0D) ∧
    ((enabled site 0 = true ∧ ∀ got ∈ [[], [40, 1, 1], [40, 1, 1, 0, 0x32]],
        ((setPort 0 { Port.cold with rx := .assembling got } site).port 0).rx = .assembling got) ∧
      ([40, 1, 1] : List Byte).length = 3 ∧ 200 < (201 : Byte).toNat ∧
      crc [40, 1, 1, 0] ≠ (0x32 : Byte) ++ (0x4D : Byte)) := by decide +kernel

/-- The broadcast rows: through a disabled port, at a serving one, from no listed station, from a STAGE station, a length
off, and for one supply. -/
theorem witness_SoundFrameIsJudged_broadcast :
    (∃ time, Instr.setTime ⟨0, 31, 4, 0⟩ true 7 = .setTime ⟨0, 31, 4, 0⟩ true time) ∧
    (∃ supply, Instr.setShowHold ⟨0, 31, 1, 0⟩ true 0 = .setShowHold ⟨0, 31, 1, 0⟩ true supply) ∧
    enabled shut 3 = false ∧ (enabled busy 0 = true ∧ (busy.port 0).serving = true) ∧
    (enabled site 0 = true ∧ (site.port 0).serving = false ∧
      ∀ n st, site.station n = some st → ¬ (st.port = 0 ∧ st.addr = 31)) ∧
    (Heard (ask stage kindSetTime) 1 stage site ∧ stage.role ≠ .console) ∧
    (Heard { say kindSetTime with len := 3 } 0 cons site ∧ cons.role = .console ∧ 3 ≠ 4) ∧
    (Heard (say kindSetShowHold) 0 cons site ∧ ¬ 1 = 0) := by
  refine ⟨⟨7, rfl⟩, ⟨0, rfl⟩, ?_, ?_, ?_, ⟨heard_of rfl ?_, ?_⟩, ⟨heard_of rfl ?_, ?_⟩, ⟨heard_of rfl ?_, ?_⟩⟩ <;>
    decide +kernel

/-- R153: the refused broadcasts, and one that finds the port serving. -/
theorem test_broadcasts_refused :
    (∀ c ∈ [Instr.setTime ⟨0, 31, 4, 0⟩ true 7, .setTime { say kindSetTime with len := 3 } true 7,
        .setShowHold (say kindSetShowHold) true 1, .setShowHold ⟨0, 31, 1, 0⟩ true 0],
      ((after c site).port 0).flags = { PortFlags.clear with badBroadcast := true } ∧ (after c site).sup = site.sup) ∧
    ((after (.setTime (ask stage kindSetTime) true 7) site).port 1).flags.badBroadcast = true ∧
    ((after (.setShowHold (say kindSetShowHold) true 0) busy).port 0).flags =
      { PortFlags.clear with overrun := true } := by decide +kernel

def reply : Reply := { dest := 1, src := 40, kind := 129, status := .ok, attention := false, body := .empty }
def leaving : Port := { Port.cold with serving := true, reply := some reply }

theorem witness_PortsFlagAndFree :
    ((flagSet (setPortFlag 0 .crc site).lnk[0].flags .crc = true ∧ enabled shut 3 = false) ∧
      (flagSet (site.port 0).flags .crc = false ∧ enabled site 0 = true)) ∧
    (((setPort 1 { Port.cold with rx := .assembling [40, 1] } site).port 1).rx = .assembling [40, 1] ∧
      enabled (setPort 1 { Port.cold with rx := .assembling [40, 1] } site) 1 = true) ∧
    ((setPort 1 { Port.cold with rx := .waitingQuiet } site).port 1).rx = .waitingQuiet ∧
    (leaving.reply = some reply ∧ leaving.restartNext = none ∧ leaving.restartWaits = false) ∧
    (({ leaving with restartNext := some 1 } : Port).restartNext = some 1 ∧ (1 : PortNo) ≠ 0 ∧
      (site.port 1).serving = false ∧ (busy.port 0).serving = true) ∧
    ({ leaving with restartWaits := true } : Port).restartWaits = true ∧
    (({ leaving with restartNext := some 1, restartWaits := true } : Port).restartNext = some 1 ∧
      ((setPort 1 leaving site).port 1).serving = true) := by decide +kernel
/-- Port 0's reply leaves: its own restart has waited for it, and it answers a RESTART PORT of port 1. -/
def twoRestarts : State :=
  after (.replySent 0 9) (setPort 0 { leaving with restartNext := some 1, restartWaits := true, pending := ⟨.r38400, 41, true⟩ }
    (setPort 1 { Port.cold with pending := ⟨.r38400, 42, true⟩ } site))
theorem test_two_port_restarts : (twoRestarts.port 0).current.address = 41 ∧ (twoRestarts.port 1).current.address = 42 ∧
    (twoRestarts.port 0).serving = false := by decide +kernel

/-! ## Witnesses: stations, the map hold, attention and the log -/

/-- The CONSOLE station with SUPPLY_TRIP and LINK_FAULT set, SUPPLY_TRIP not enabled. -/
def told : Station :=
  { cons with flags := upd (upd cons.flags 9 (some (.supplyTrip 0))) 3 (some (.linkFault 1 .crc)),
              enables := upd cons.enables 9 false }
def noisy : State := setStation 0 (some told) site

/-- An answer to station 0 in `noisy` indicates attention; one to no station does not. -/
theorem witness_AnswersAndRaises_attention :
    (∃ n st i, some (0 : StationNo) = some n ∧ noisy.station n = some st ∧ (look st.flags i).isSome = true ∧
      look st.enables i = true) ∧
    (¬ ∃ (n : StationNo) (st : Station) (i : Fin 11), none = some n ∧ noisy.station n = some st ∧
      (look st.flags i).isSome = true ∧ look st.enables i = true) :=
  ⟨⟨0, told, 3, rfl, by decide +kernel⟩, by rintro ⟨n, st, i, h, -⟩; cases h⟩

theorem witness_OwnRecordRequests : (∀ k ∈ kindTable, Ready k site) ∧
    (∀ i, ¬ ((look cons.flags i).isSome = true ∧ look cons.enables i = true)) ∧
    (look told.flags 3 = some (.linkFault 1 .crc) ∧ look told.enables 3 = true ∧
      ∀ j, 3 < j → ¬ ((look told.flags j).isSome = true ∧ look told.enables j = true)) ∧
    meets (say kindQueryAttention) kindQueryAttention 0 told noisy = true :=
  ⟨console_ready, by decide +kernel⟩

theorem witness_MapHoldRequests :
    (Ready kindTakeHold loose ∧ loose.stn.hold = none) ∧ (Ready kindTakeHold site ∧ site.stn.hold = some 0) ∧
    (Ready kindTakeHold lent ∧ lent.stn.hold = some 2 ∧ (2 : StationNo) ≠ 0) ∧ Ready kindReleaseHold site ∧
    (Ready kindReleaseHold lent ∧ lent.stn.hold ≠ some 0) ∧ Ready kindForceRelease loose ∧
    Ready kindForceRelease lent ∧ lent.station 2 = some fuel := by
  refine ⟨⟨ready rfl ?_, ?_⟩, ⟨ready rfl ?_, ?_⟩, ⟨ready rfl ?_, ?_, ?_⟩, ready rfl ?_, ⟨ready rfl ?_, ?_⟩,
    ready rfl ?_, ready rfl ?_, ?_⟩ <;> decide +kernel

/-- Every station number listed. -/
def crowd : State :=
  { site with stn := { team with stations := tab fun n => some (man ⟨n.1 / 31, by omega⟩ (n.1 % 31 + 1)
      (if n = 0 then .console else .fuel) none) } }

theorem witness_StationsAreEnrolledAndRemoved :
    (Ready kindEnrolStation site ∧ 1 ≤ 1 ∧ 1 ≤ 31) ∧
    ((∃ m q, site.station m = some q ∧ q.port = 1 ∧ q.addr = 6) ∧
      (3 = 3 ∧ ∃ x : SupplyNo, some 12 = some (numberOf x))) ∧
    ((∀ m q, site.station m = some q → ¬ (q.port = 3 ∧ q.addr = 31)) ∧ (site.supply 1).defined = false ∧
      (site.supply 0).defined = true ∧ site.station 4 = none ∧ (∀ j : StationNo, j < 4 → (site.station j).isSome = true) ∧
      roleOf? 2 = some .fuel ∧ Role.fuel ≠ .stage) ∧
    ((∀ m q, crowd.station m = some q → ¬ (q.port = 3 ∧ q.addr = 31)) ∧ (∀ m, (crowd.station m).isSome = true) ∧
      ∃ x : SupplyNo, some 1 = some (numberOf x) ∧ (crowd.supply x).defined = true) ∧
    (Ready kindRemoveStation site ∧ site.station 31 = none ∧ site.station 0 = some cons ∧ cons.role = .console ∧
      (∀ j r, site.station j = some r → r.role = .console → j = 0) ∧ site.station 2 = some fuel ∧
      fuel.role ≠ .console) :=
  ⟨⟨console_ready _ (by decide), by decide⟩, by decide +kernel, by decide +kernel, by decide +kernel,
    console_ready _ (by decide), by decide +kernel⟩

def reader (cursor : Nat) : State := setStation 0 (some { cons with cursor := cursor }) slow

theorem witness_LogIsReadFromTheCursor : RingLaw slow ∧ CursorLaw (reader 1512) ∧ (∀ k ∈ kindTable, Ready k site) ∧
    (12 ≤ 12 ∧ oldestOf (reader 1000).log ≤ 1000 ∧ 999 < oldestOf (reader 999).log ∧ 12 < 13 ∧ 1 < 2) ∧
    meets (say kindReadLog) kindReadLog 0 { cons with cursor := 999 } (reader 999) = true :=
  ⟨slow_sound _ rfl, by unfold CursorLaw; decide +kernel, console_ready, by decide +kernel⟩

theorem witness_PortRequests : (∀ k ∈ kindTable, Ready k site) ∧
    (rateOf? 5 = some .r230400 ∧ 32 ≤ 32 ∧ 47 ≤ 47) ∧
    (∃ q j w, site.station j = some w ∧ w.port = q ∧ w.role = .console ∧
      (if q = (1 : PortNo) then false else (site.port q).pending.enabled) = true) ∧
    (∀ q j w, site.station j = some w → w.port = q → w.role = .console →
      (if q = (0 : PortNo) then false else (site.port q).pending.enabled) = false) ∧ 4 ≤ 4 :=
  ⟨console_ready, by decide +kernel⟩

/-! ## Witnesses: sources, the tick, the clock and billing -/

def off : Source := { runs with state := .offHire, staleTimer := none }
/-- Source 3 off hire, source 4 held by a claim, source 5 stopped and free, source 6 stale and implausible. -/
def yard : State :=
  site |> setSource 2 off |> setSource 3 { runs with claim := some 7 } |> setSource 4 { runs with state := .stopped } |>
    setSource 5 { runs with stale := true, implausible := true }

theorem witness_SourcesAreHiredAndOffHired : (∀ k ∈ kindTable, Ready k site) ∧
    (20 ≤ 2500 ∧ 2500 ≤ 2500 ∧ (500 ≤ 500 ∧ 1000 ≤ 1000) ∧ (2 ≤ 2 ∧ 60 ≤ 60)) ∧
    ((yard.source 15).state = .unlisted ∧ (yard.source 2).state = .offHire ∧ onHire (yard.source 0) = true) ∧
    (∃ m x, (yard.input m x).source = some 0 ∧ (yard.input m x).aux = true) ∧ (yard.source 3).claim ≠ none ∧
    (onHire (yard.source 4) = true ∧ (∀ m x, (yard.input m x).source = some 4 → (yard.input m x).aux = false) ∧
      (yard.source 4).claim = none ∧ (yard.source 4).reservation = none ∧
      ∀ d r, yard.delivery d = some r → r.source ≠ 4) := by
  refine ⟨console_ready, by decide +kernel, by decide +kernel, ⟨0, .a, by decide +kernel⟩, by decide +kernel,
    by decide +kernel, at_inputs (by decide +kernel), by decide +kernel⟩

/-- Supply 1 TRIPPED and waiting for a restore, with source 2 to go to; and supply 2 the same. -/
def waits (r : Supply) : Supply := { r with state := .tripped, record := none, restoreWaiting := true }
def oneWaits : State := modSupply 0 waits site
def twoWait : State := modSupply 1 (fun r => waits { main with inputs := r.inputs.map fun _ => fed 1 false, closed := none }) oneWaits
def waitsOn (s : State) (i : SourceNo) (n : SupplyNo) : Prop :=
  (s.supply n).restoreWaiting = true ∧ ((s.supply n).state = .tripped ∨ (s.supply n).state = .dark) ∧
    ∃ x ∈ allInputs, (s.input n x).source = some i ∧ (s.input n x).faulted = false ∧ (s.supply n).closed ≠ some x ∧
      (s.input n x).voltage = true
def restoreAsk : Ask := { supply := 0, target := none, mode := .auto, priority := 7, originator := .supply }
/-- Source 2 held by another transfer's claim. -/
def noneFree (s : State) : State := setSource 1 { runs with claim := some 211 } s

theorem witness_SourceReportsAndStaleTimer_restores :
    (∀ n, ¬ waitsOn site 1 n) ∧ (waitsOn oneWaits 1 0 ∧ ∀ m, waitsOn oneWaits 1 m → m = 0) ∧
    (([0, 1] : List SupplyNo).Pairwise (· < ·) ∧ ∀ n : SupplyNo, n ∈ ([0, 1] : List SupplyNo) ↔ waitsOn twoWait 1 n) ∧
    (admission restoreAsk oneWaits).val = .accepted 1 .b .break ∧
    (admission restoreAsk (noneFree oneWaits)).val = .refused .noAlternative ∧
    (available (site.source 1) = true ∧ available ((noneFree site).source 1) = false) := by
  unfold waitsOn; decide +kernel

/-- What the two supplies pick while none has claimed: source 2 both, with the tickets 1 and 2. -/
def twoPicks : List (SupplyNo × Option Chosen) := [(0, some ⟨1, .b, 1⟩), (1, some ⟨2, .a, 1⟩)]
def fitsOn (s : State) (n : SupplyNo) (x : Input) (i : SourceNo) : Prop :=
  (s.supply n).closed ≠ some x ∧ (s.input n x).source = some i ∧ (s.input n x).faulted = false ∧
    (s.input n x).voltage = true ∧ available (s.source i) = true

theorem witness_SourceReportsAndStaleTimer_picks :
    twoPicks.map (fun p => p.1) = [0, 1] ∧
    (∀ n ∈ ([0, 1] : List SupplyNo), (twoWait.supply n).defined = true ∧ (twoWait.supply n).state = .tripped ∧
      ∀ t, twoWait.slot n = some t → t.result ≠ none) ∧
    (fitsOn twoWait 0 .b 1 ∧ (∀ i, ¬ fitsOn twoWait 0 .a i) ∧ fitsOn twoWait 1 .a 1) ∧
    (∀ n ∈ ([0, 1] : List SupplyNo), ∀ y ∈ allInputs, ∀ i, ¬ fitsOn (noneFree twoWait) n y i) ∧
    ((twoPicks.filterMap fun p => p.2).map fun k => k.ticket) =
      (List.range 2).map (fun j => (Nat.repeat drawTicket j twoWait).xfr.counter) := by
  unfold fitsOn
  refine ⟨?_, ?_, ⟨?_, ?_, ?_⟩, ?_, ?_⟩ <;> decide +kernel

/-- R36: the lower number takes the shared standby, and the other is refused LOST and waits on. -/
theorem test_shared_standby : let t := restoreRequests [0, 1] twoWait
    (t.source 1).claim = some 1 ∧ (t.supply 0).state = .transfer ∧ (t.supply 1).restoreWaiting = true ∧
      (t.supply 1).lastRestore = some .lost := by decide +kernel

theorem witness_SourceReportsAndStaleTimer : Ready kindSourceReport yard ∧ onHire (yard.source 15) = false ∧
    (onHire (yard.source 0) = true ∧ (yard.source 0).hire = some hire ∧ available (yard.source 0) = true) ∧
    (onHire (yard.source 5) = true ∧ available { yard.source 5 with stale := false, state := .stopped } = false) ∧
    ((yard.source 0).staleTimer = some 10000 ∧ (yard.source 0).stale = false ∧ (yard.source 0).telemetry = some tele) ∧
    ((yard.source 5).staleTimer = some 10000 ∧ (yard.source 5).stale = true) := by
  refine ⟨ready rfl ?_, ?_⟩ <;> decide +kernel

/-- Source 1 stale, source 2 fresh, source 16 unlisted; no entry armed. -/
def hour : State := setSource 0 { runs with stale := true } site

theorem witness_SecondTickAccrues : (∀ w, (hour.watch w).armed = false) ∧
    hour.stl.clock.time + 1 ≠ hour.stl.clock.nextBoundary ∧ hour.stl.clock.time < 4294967295 ∧
    onHire (hour.source 15) = false ∧ (onHire (hour.source 0) = true ∧ (hour.source 0).hire = some hire) ∧
    sampled (hour.source 15) = false ∧
    (sampled (hour.source 1) = true ∧ (hour.source 1).stale = false ∧ (hour.source 1).hire = some hire ∧
      (hour.source 1).telemetry.isSome = true) ∧
    (sampled (hour.source 0) = true ∧ (hour.source 0).stale = true ∧
      (⟨false, true⟩ : TickOrder).meterFirst = false) := by decide +kernel

/-- Section 5.10's curve at 0, a quarter, a half, three quarters, the whole and five quarters of its rating. -/
theorem witness_BurnRateFollowsTheCurve : (60 ≤ 380 ∧ 380 ≤ 680 ∧ 680 ≤ 1000 ∧ 1000 ≤ 1300 ∧ 0 < 500) ∧
    (4 * 125 = 500 ∧ 2 * 250 = 500 ∧ 4 * 375 = 3 * 500) ∧ (3 ≤ 3 ∧ 3 * 500 ≤ 4 * 500 ∧ 4 * 500 ≤ (3 + 1) * 500) ∧
    5 * 500 ≤ 4 * 625 ∧ (620 = 310 * 1000 / 500 ∧ 250 * 2 ≤ 620 ∧ 620 ≤ 250 * 3) ∧
    (1240 = 620 * 1000 / 500 ∧ 250 * 3 ≤ 1240 ∧ 1240 ≤ 1250) := by decide

/-- The last second of an interval, an open record of an earlier one, and a new length pending. -/
def eve : State :=
  site |> setClock { Clock.cold with time := 899, ticks := 899, serial := 2, pendingMinutes := some 5 } |>
    setRecords [⟨0, 1, 0, 900, 900, none, none, none, none⟩]

theorem witness_BoundaryClosesTheInterval : ((∀ r ∈ eve.stl.records, r.serial ≠ eve.stl.clock.serial) ∧
      eve.stl.clock.serial < 4294967295) ∧
    ((eve.tank 0).set = true ∧ (eve.tank 0).book = some 3700 ∧ (eve.tank 15).set = false) ∧
    ((∀ w, (eve.watch w).armed = false) ∧ eve.stl.clock.time < 4294967295 ∧
      eve.stl.clock.nextBoundary = eve.stl.clock.time + 1) := by decide +kernel

theorem witness_SetTimeMovesTheClock : Ready kindSetTime site ∧
    (899 < site.stl.clock.nextBoundary ∧ site.stl.clock.nextBoundary ≤ 900) ∧
    (Heard (say kindSetTime) 0 cons site ∧ cons.role = .console ∧ (say kindSetTime).len = 4 ∧
      (site.port 0).serving = false) := by
  refine ⟨ready rfl ?_, ?_, heard_of rfl ?_, ?_⟩ <;> decide +kernel

theorem witness_ChargesSumToCosts : (fun a : AccountNo => decide (a = 0 ∨ a = 5)) 0 = true ∧
    (fun a : AccountNo => decide (a = 0 ∨ a = 5)) 47 = false ∧
    sourceEnergy (fun a => decide (a = 0 ∨ a = 5)) (Vector.replicate 48 (Vector.replicate 17 10)) 0 ≠ 0 := by decide +kernel

/-- A complete record of an interval, with the close of the period pending (section 8.11). -/
def done : SettleRec :=
  { index := 191, serial := 3, start := 171900, endTime := 172800, ticks := 900,
    hire := some (Vector.replicate 16 6000), burn := some (Vector.replicate 16 208),
    matrix := some (Vector.replicate 48 (Vector.replicate 17 10)), dark := some (Vector.replicate 12 3) }
def due : State := setClosePending true (setRecords [done] site)
def bankB : State := due |> setHeader .a ⟨.frozen, some 0, some 900⟩ |> setHeader .b ⟨.active, some 900, none⟩

theorem witness_SettlementCreditsTheActiveBank : due.stl.records = done :: [] ∧
    (done.hire.isSome = true ∧ done.burn.isSome = true ∧ done.matrix.isSome = true ∧ done.dark.isSome = true) ∧
    ((due.account 47).defined = false ∧ (due.account 5).defined = true) ∧ (activeBank due = .a ∧ activeBank bankB = .b) ∧
    (site.stl.closePending = false ∧ due.stl.closePending = true ∧ due.stl.bankA.state = .active ∧
      bankB.stl.closePending = true ∧ bankB.stl.bankA.state ≠ .active) := by decide +kernel

def bankA : State := setHeader .b ⟨.frozen, some 0, some 900⟩ site
/-- Account 6 with a charge in bank A, account 7 empty, account 8 undefined. -/
def books : State :=
  site |> setAccount 6 { Account.cold 6 with defined := true, bankA := { BankRec.zero with charge := 1 } } |>
    setAccount 7 { Account.cold 7 with defined := true }

theorem witness_BillingRequests : (∀ k ∈ kindTable, Ready k site) ∧ (5 ∈ [5, 10, 15, 20, 30, 60] ∧ 60 ∈ [5, 10, 15, 20, 30, 60] ∧
      61 ∉ [5, 10, 15, 20, 30, 60]) ∧
    (BankLaw site ∧ site.stl.bankA.state ≠ .frozen ∧ site.stl.bankB.state ≠ .frozen) ∧
    (BankLaw bankB ∧ bankB.stl.bankA.state = .frozen ∧ Ready kindClosePeriod bankB ∧ Ready kindReleasePeriod bankB) ∧
    (BankLaw bankA ∧ bankA.stl.bankB.state = .frozen ∧ Ready kindReleasePeriod bankA) ∧
    (Ready kindDefineAccount books ∧ (books.account 7).defined = true ∧ (books.account 8).defined = false) ∧
    (Ready kindRemoveAccount books ∧ (∃ c, (books.chan c).defined = true ∧ (books.chan c).account = some 5) ∧
      (∀ c, (books.chan c).defined = true → (books.chan c).account ≠ some 7) ∧
      bankHolds (books.account 7).bankA = false ∧ bankHolds (books.account 7).bankB = false ∧
      (∀ c, (books.chan c).defined = true → (books.chan c).account ≠ some 6) ∧ bankHolds (books.account 6).bankA = true) := by
  refine ⟨console_ready, by decide, ⟨?_, ?_⟩, ⟨?_, ?_, ready rfl ?_, ready rfl ?_⟩, ⟨?_, ?_, ready rfl ?_⟩,
    ⟨ready rfl ?_, ?_⟩, ⟨ready rfl ?_, ?_⟩⟩ <;> (try unfold BankLaw) <;> decide +kernel

/-! ## Witnesses: reading -/

theorem witness_ReadsAnswerTheRecords : (∀ k ∈ kindTable, Ready k site) ∧ (site.source 0).state ≠ .unlisted ∧
    (site.source 15).state = .unlisted ∧ ((site.account 6).defined = false ∧ 1 ≤ 1) ∧
    (Taken (ask stage kindReadAccount) kindReadAccount 1 stage unnamed ∧ (unnamed.account 5).defined = false ∧
      (unnamed.chan 0).defined = true ∧ (unnamed.chan 0).account = some 5 ∧ (unnamed.chan 0).supply = some 0) ∧
    (Ready kindReadDelivery bowser ∧ bowser.delivery 0 = some job ∧ job.source = 0 ∧
      (∀ e q, bowser.delivery e = some q → q.source = 0 → (0 : SlotNo) ≤ e)) ∧
    (∀ d r, site.delivery d = some r → r.source ≠ 15) ∧
    ((site.supply 0).defined = true ∧ (site.supply 11).defined = false ∧
      (cons.role = .stage → cons.bound = some 0)) ∧
    (site.slot 0 = none ∧ (moving (move .dead)).slot 0 = some (move .dead)) ∧
    (cons.role ≠ .stage ∧ (site.chan 0).defined = true ∧ (site.chan 0).account = some 5 ∧
      (site.chan 23).defined = false ∧ (site.account 5).defined = true) ∧
    (Taken (ask stage kindReadChannel) kindReadChannel 1 stage site ∧
      Taken (ask stage kindReadAccount) kindReadAccount 1 stage site ∧ (site.chan 0).supply = some 0 ∧
      stage.bound = some 0) ∧
    (frozenBank site = none ∧ frozenBank bankA = some .b ∧ Ready kindReadAccount bankA) ∧
    (((setSource 0 off site).source 0).state = .offHire ∧ Tank.cold.set = false ∧ tank.set = true ∧
      tank.capacity = some 10000 ∧ tank.floor = some 200 ∧ tank.book = some 3700 ∧ runs.telemetry = some tele ∧
      Source.cold.telemetry = none ∧ 3700 ≤ 3500 + 200 ∧ 3499 + 200 < 3700 ∧ tank.lastRate = 0) ∧
    ((InputRec.cold 0 false).voltage = false ∧ (fed 0 true).voltage = true ∧ (fed 0 true).period = some 20000) ∧
    ((∀ e ∈ site.syn.queue, e.ticket ≠ 305) ∧ ([⟨7, 1⟩, ⟨305, 0⟩] : List QueueEntry) = [⟨7, 1⟩] ++ ⟨305, 0⟩ :: []) ∧
    (site.stl.bankA.state = .active ∧ bankB.stl.bankA.state ≠ .active ∧ bankB.stl.bankA.state = .frozen ∧
      bankA.stl.bankA.state ≠ .frozen ∧ bankA.stl.bankB.state = .frozen ∧ site.stl.bankB.state ≠ .frozen) := by
  refine ⟨console_ready, ?_, ?_, ?_, ⟨taken_of rfl ?_, ?_⟩, ⟨ready rfl ?_, ?_⟩, ?_, ?_, ?_, ?_,
    ⟨taken_of rfl ?_, taken_of rfl ?_, ?_⟩, ⟨?_, ?_, ready rfl ?_⟩, ?_⟩ <;> decide +kernel

theorem witness_ReadWatchChangesNothing :
    (Heard (say kindReadWatch) 0 cons site ∧ (say kindReadWatch).len = 1 ∧ cons.role = .console) ∧
    (Heard (ask fuel kindReadWatch) 2 fuel site ∧ fuel.role ≠ .console) ∧ 32 ≤ 32 ∧
    ((setWatch 31 { Watch.cold with defined := true } site).watch 31).defined = true ∧
    (site.watch 31).defined = false ∧
    ((site.source 15).state = .unlisted ∧ (site.source 15).telemetry = none ∧ (site.tank 15).set = false ∧
      (site.source 0).state ≠ .unlisted ∧ (site.source 0).telemetry = some tele ∧
      tankVariance (site.tank 0) (site.source 0) = some 100 ∧ minutesToDry (site.tank 0) = some 65535 ∧
      levelNow (site.tank 0) = some 3700) ∧
    ((site.supply 11).defined = false ∧ (site.supply 0).defined = true ∧ (site.chan 23).defined = false ∧
      (site.chan 0).defined = true ∧ (site.account 47).defined = false ∧ (site.account 5).defined = true) ∧
    (site.stl.bankA.state = .active ∧ bankB.stl.bankA.state ≠ .active) := by
  refine ⟨⟨heard_of rfl ?_, ?_⟩, ⟨heard_of rfl ?_, ?_⟩, ?_⟩ <;> decide +kernel

/-! ## Witnesses: supplies and panel lines -/

def defaults : TimingReq := ⟨none, none, none, none, none, none⟩
def changed (f : Supply → Supply) : State := modSupply 0 f site

theorem witness_DefineSupplyWritesTheFields : Ready kindDefineSupply site ∧ timingSelects defaults Timing.cold ∧
    timingSelects ⟨some 10000, some 100, some 2000, some 40, some 30, some 200⟩ ⟨10000, 100, 2000, 40, 30, 200⟩ ∧
    (∀ x, some Input.a = some x → ((⟨some 0, some 1, none⟩ : Abc (Option SourceNo)).get x).isSome = true) ∧
    ((moving (move .dead)).supply 0).state = .transfer ∧ ((site.supply 0).state ≠ .transfer ∧
      (∃ x y i, x ≠ y ∧ (⟨some 0, some 0, none⟩ : Abc (Option SourceNo)).get x = some i ∧
        (⟨some 0, some 0, none⟩ : Abc (Option SourceNo)).get y = some i)) ∧
    (∃ x, (site.input 0 x).aux = true ∧ (site.input 0 x).source ≠ none ∧
      (⟨some 2, some 1, none⟩ : Abc (Option SourceNo)).get x ≠ (site.input 0 x).source) ∧
    (¬ (∃ x y i, x ≠ y ∧ (⟨some 0, some 1, none⟩ : Abc (Option SourceNo)).get x = some i ∧
        (⟨some 0, some 1, none⟩ : Abc (Option SourceNo)).get y = some i) ∧
      ¬ (∃ x, (site.input 0 x).aux = true ∧
        (((site.input 0 x).source ≠ none ∧ (⟨some 0, some 1, none⟩ : Abc (Option SourceNo)).get x ≠ (site.input 0 x).source) ∨
          ((site.input 0 x).source = none ∧ (⟨some 0, some 1, none⟩ : Abc (Option SourceNo)).get x = none)))) ∧
    ((site.supply 1).defined = false ∧ (site.supply 0).defined = true ∧ (site.supply 0).autoRestore = false) ∧
    ((changed fun r => { r with state := .tripped }).supply 0).state = .tripped ∧
    (∀ tr, site.slot 0 = some tr → tr.result ≠ none) := by
  refine ⟨ready rfl ?_, by unfold timingSelects; decide, by unfold timingSelects; decide, inputs_all (by decide), ?_, ⟨?_, .a, .b, 0, by decide⟩,
    ⟨.a, ?_⟩, ⟨?_, ?_⟩, ?_, ?_, ?_⟩ <;> try decide +kernel
  · rintro ⟨x, y, i, h, hx, hy⟩; revert i h; cases x <;> cases y <;> decide
  · rintro ⟨x, h⟩; revert h; cases x <;> decide +kernel

def lines (a b : InputRec) : State := changed fun r => { r with inputs := ⟨a, b, InputRec.cold 0 false⟩ }
def tanked : State := setSource 0 { runs with state := .refuel, reservation := some 0 } site

theorem witness_DerivationFollowsTheLines : (site.supply 0).autoRestore = false ∧
    (((changed fun r => { r with autoRestore := true }).supply 0).autoRestore = true ∧
      ∀ t, ¬ flying (changed fun r => { r with autoRestore := true }) 0 t) ∧
    flying (moving (move .dead)) 0 (move .dead) ∧
    (∀ x, ((lines (fed 0 false) (fed 1 false)).input 0 x).aux = false) ∧
    ((site.input 0 .a).aux = true ∧ ∀ y, y ≠ .a → (site.input 0 y).aux = false) ∧
    (((lines { fed 0 true with source := none } (fed 1 false)).input 0 .a).source = none) ∧
    ((site.input 0 .a).source = some 0 ∧ (site.source 0).state ≠ .refuel ∧ tripDue site 0 .a = false) ∧
    (tripDue ({ lines { fed 0 true with voltage := false, absentSince := some 0 } (fed 1 false) with now := 300000 }) 0 .a
      = true) ∧ ((tanked.input 0 .a).source = some 0 ∧ (tanked.source 0).state = .refuel) ∧
    (Input.a ≠ .b ∧ ((lines (fed 0 true) (fed 1 true)).input 0 .a).aux = true ∧
      ((lines (fed 0 true) (fed 1 true)).input 0 .b).aux = true) := by
  refine ⟨?_, ⟨?_, not_flying ?_⟩, ?_, inputs_all ?_, ⟨?_, inputs_all ?_⟩, ?_⟩ <;> (try unfold flying) <;> decide +kernel

def dim : InputRec := { fed 0 true with voltage := false, absentSince := some 60 }

/-- Supply 1 waiting for a restore, its input B without voltage. -/
def darkB : State :=
  modSupply 0 waits (lines (fed 0 true) { fed 1 false with voltage := false, absentSince := some 60 })

theorem witness_LinesAreMeasuredAndTrip :
    ((14286 ≤ 14286 ∧ 14286 ≤ 25000) ∧ (14286 ≤ 25000 ∧ 25000 ≤ 25000)) ∧
    (∀ tr, (moving { move .settle with target := .b }).slot 0 = some tr → tr.result = none → tr.phase = .settle →
      tr.target ≠ .a) ∧
    (flying (moving (move .settle)) 0 (move .settle) ∧ (move .settle).phase = .settle ∧ (move .settle).target = .b ∧
      ((moving (move .settle)).supply 0).defined = true ∧ ((moving (move .settle)).input 0 .b).voltage = true ∧
      ((moving (move .settle)).input 0 .b).lastCrossing = some 0 ∧
      ((moving (move .settle)).supply 0).timing.settleWindow = 1500 ∧
      1000000000 / 20619 + 1500 < 50000 ∧ ¬ 1000000000 / 20618 + 1500 < 50000 ∧
      50000 + 1500 < 1000000000 / 19417 ∧ ¬ 50000 + 1500 < 1000000000 / 19418) ∧ ((site.supply 11).defined = false ∧ (site.input 0 .a).voltage = true) ∧
    (((lines dim (fed 1 false)).supply 0).defined = true ∧ ((lines dim (fed 1 false)).input 0 .a).voltage = false ∧
      ((lines dim (fed 1 false)).input 0 .a).source = some 0 ∧ ((lines dim (fed 1 false)).input 0 .a).absentSince = some 60 ∧
      ((lines dim (fed 1 false)).supply 0).state = .live ∧ ((lines dim (fed 1 false)).supply 0).closed = some .a ∧
      ((lines dim (fed 1 false)).supply 0).autoRestore = false) ∧
    ((modSupply 0 (fun r => { r with state := .tripped }) (lines dim (fed 1 false))).supply 0).state = .tripped ∧
    ((site.input 0 .a).lastCrossing = some 0) ∧
    (∀ q ∈ [SupplyState.tripped, .dark, .live], let s := modSupply 0 (fun r => { r with state := q }) darkB
      (s.supply 0).defined = true ∧ (s.input 0 .b).voltage = false ∧ (s.supply 0).restoreWaiting = true ∧
      (s.supply 0).closed ≠ some .b ∧ (s.input 0 .b).source = some 1 ∧ (s.input 0 .b).faulted = false ∧
      available (s.source 1) = true) ∧
    (available ((noneFree darkB).source 1) = false ∧
      ((lines { fed 0 true with faulted := true } (fed 1 false)).input 0 .a).faulted = true) ∧
    (((modSupply 0 (fun r => { r with autoRestore := true }) (lines dim (fed 1 false))).supply 0).autoRestore = true ∧
      (∀ tr, ¬ flying (lines dim (fed 1 false)) 0 tr) ∧ flying (moving (move .dead)) 0 (move .dead)) ∧
    (((moving (move .opening)).supply 0).state = .transfer ∧ ((moving (move .opening)).supply 0).record = some 0 ∧
      (∀ y, y ≠ .a → ((moving (move .opening)).input 0 y).source ≠ some 0) ∧
      (moving (move .opening)).slot 0 = some (move .opening)) := by
  refine ⟨by decide, ?_, ?_, ?_, ?_, ?_, ?_, ?_, ?_, ⟨?_, not_flying ?_, ?_⟩, ?_, ?_, inputs_all ?_, ?_⟩ <;>
    (try unfold flying) <;> decide +kernel

/-- R58: a crossing of the target outside the settle window, and the loss of its voltage, are excursions. -/
theorem test_settle_excursion : [20618, 20619, 19417, 19418].map (fun t =>
      ((after (.senseCrossing 0 .b t) (moving (move .settle))).slot 0).map (·.excursion)) =
      [some false, some true, some true, some false] ∧
    ((after (.voltageLossTimeout 0 .b) (moving (move .settle))).slot 0).map (·.excursion) = some true := by
  decide +kernel

def opened : Window := { dir := .toOpen, ends := 400, restart := false }

theorem witness_ContactorChangesAreJudged :
    ((site.input 11 .a).aux ≠ true ∧ (site.supply 11).defined = false) ∧
    (((lines { fed 0 true with window := some opened } (fed 1 false)).input 0 .a).window = some opened ∧
      opened.dir = (if false then Dir.toClose else .toOpen) ∧ opened.restart = false ∧
      ({ opened with restart := true } : Window).restart = true ∧ (site.input 0 .a).aux ≠ false) ∧
    ((site.supply 0).defined = true ∧ (∀ w, (site.input 0 .a).window = some w → w.dir = .toClose) ∧
      (∀ tr, site.slot 0 = some tr → tr.result ≠ none)) ∧
    (((moving (move .dead)).supply 0).defined = true ∧ ((moving (move .dead)).input 0 .b).window = none ∧
      flying (moving (move .dead)) 0 (move .dead)) ∧
    ((∀ i, (site.input 0 .b).source = some i → (site.source i).state ≠ .refuel) ∧ (site.input 0 .b).aux ≠ true) ∧
    ((setSource 1 { runs with state := .refuel } site).source 1).state = .refuel := by unfold flying; decide +kernel

theorem witness_PulsesKeepTheClosingLaw :
    (∃ y, y ≠ Input.b ∧ (site.input 0 y).aux = true) ∧
    (∀ y, y ≠ .b → ((lines (fed 0 false) (fed 1 false)).input 0 y).aux = false) ∧ (move .opening).origin = some .a ∧
    ((lines { fed 0 true with openPulse := some 100, closePulse := some 100 } (fed 1 false)).input 0 .a).openPulse = some 100 := by
  refine ⟨⟨.a, by decide +kernel⟩, inputs_all ?_, ?_, ?_⟩ <;> decide +kernel

theorem witness_ClearFaultAndShowHold : Ready kindClearFault site ∧ (site.supply 11).defined = false ∧
    ((moving (move .dead)).supply 0).state = .transfer ∧
    (∃ x y, x ≠ y ∧ ((lines (fed 0 true) (fed 1 true)).input 0 x).aux = true ∧
      ((lines (fed 0 true) (fed 1 true)).input 0 y).aux = true) ∧
    (¬ (∃ x y, x ≠ y ∧ (site.input 0 x).aux = true ∧ (site.input 0 y).aux = true) ∧
      ¬ (∃ x, (site.input 0 x).aux = true ∧ (site.input 0 x).source = none)) ∧
    (stage.role = .stage → stage.bound = some 0) ∧ (∀ k ∈ kindTable, Ready k site) ∧
    (Taken (ask stage kindSetShowHold) kindSetShowHold 1 stage (changed fun r => { r with defined := false }) ∧
      ((changed fun r => { r with defined := false }).supply 0).defined = false) ∧
    (∀ m, look (tab fun m => if (site.supply m).defined then { site.supply m with showHold := true } else site.supply m) m =
      if (site.supply m).defined then { site.supply m with showHold := true } else site.supply m) ∧
    (Heard (say kindSetShowHold) 0 cons site ∧ (say kindSetShowHold).len = 1 ∧ (site.port 0).serving = false) := by
  refine ⟨ready rfl ?_, ?_, ?_, ⟨.a, .b, ?_⟩, ⟨?_, ?_⟩, ?_, console_ready, ⟨taken_of rfl ?_, ?_⟩, ?_,
    heard_of rfl ?_, ?_⟩ <;> try decide +kernel
  · rintro ⟨x, y, h⟩; revert h; cases x <;> cases y <;> decide +kernel
  · rintro ⟨x, h⟩; revert h; cases x <;> decide +kernel

/-! ## Witnesses: transfers -/

/-- Three transfers in flight on the tickets behind the counter's, counted from 65,535 on to 1. -/
def threeFlying : State :=
  setSlot 0 (some { move .dead with ticket := 65535 }) (setSlot 5 (some { move .dead with ticket := 1 })
    (setSlot 11 (some { move .settle with ticket := 2 }) (setCounter 65534 site)))

/-- R40: the counter advances past every ticket in flight. -/
theorem test_tickets_passed_over : (drawTicket threeFlying).xfr.counter = 3 ∧ ticketPlaces 65534 4 = 3 ∧
    ticketPlaces 65534 1 = 65535 ∧ ticketPlaces 65534 2 = 1 := by decide +kernel

theorem witness_DrawnTicketsAreFresh_law : TicketLaw threeFlying ∧ TicketLaw State.reset ∧
    goes (step { threeFlying with pending := [.transfer (say kindTransfer) 1 3 2 6] }) = true := by
  have f : ∀ n t, threeFlying.slot n = some t → t.ticket ≠ 65534 := by decide +kernel
  have a : ∀ n t, threeFlying.slot n = some t → ∀ m u, threeFlying.slot m = some u → t.ticket = u.ticket → n = m := by
    decide +kernel
  have r : ∀ n, State.reset.slot n = none := by decide +kernel
  refine ⟨⟨by decide, by decide, fun n t h => f n t h.1, fun n m t u h k => a n t h.1 m u k.1⟩,
    ⟨by decide, by decide, fun n t h => ?_, fun n m t u h => ?_⟩, by decide +kernel⟩ <;>
    · rw [flying, r] at h
      cases h.1

/-- The last ticket but one in flight, so that the counter's next value is passed over. -/
theorem witness_DrawnTicketsAreFresh : (1 ≤ site.xfr.counter ∧ site.xfr.counter ≤ 65535) ∧
    ((setCounter 65535 site).xfr.counter = 65535) ∧
    ((∀ n t, site.slot n = some t → t.result ≠ none ∨ t.ticket ≠ 2) ∧
      flying (moving { move .dead with ticket := 2 }) 0 { move .dead with ticket := 2 }) := by
  unfold flying; decide +kernel

theorem witness_TransferIsAdmitted :
    Ready kindTransfer site ∧ (cons.role = .stage → cons.bound = some 0) ∧
    (Taken (ask stage kindTransfer) kindTransfer 1 stage site ∧ (stage.role = .stage → stage.bound = some 0)) ∧
    (modeReqOf? 0 = some .break ∧ modeReqOf? 2 = some .auto) ∧ (7 ≤ 7 ∧ min 9 5 ≤ 7) ∧ (site.supply 0).defined = true ∧
    (∀ t, ¬ flying site 0 t) ∧
    ((site.input 0 .b).source = some 1 ∧ (site.input 0 .b).faulted = false ∧ (site.supply 0).closed ≠ some .b ∧
      (site.input 0 .b).voltage = true ∧ available (site.source 1) = true ∧ (site.supply 0).state = .live ∧
      (site.supply 0).showHold = false) ∧
    (∀ h, (site.source 1).hire = some h → supplyDemand site 0 + demandOn site 1 ≤ h.rating * h.loadingLimit / 1000) ∧
    (site.source 1).hire.isSome = true ∧ ((changed fun r => { r with state := .tripped }).supply 0).state = .tripped ∧
    ((changed fun r => { r with state := .dark, closed := none }).supply 0).state = .dark ∧
    (∀ y ∈ allInputs, ∀ j, inputCode y < inputCode .b → (site.supply 0).closed ≠ some y → (site.input 0 y).source = some j →
      (site.input 0 y).faulted = false → (site.input 0 y).voltage = true → available (site.source j) = true →
      5 ≠ 7 ∧ withinCapacity site 0 j = false) := by
  refine ⟨ready rfl ?_, ?_, ⟨taken_of rfl ?_, ?_⟩, ?_, ?_, ?_, not_flying ?_, ?_⟩ <;> decide +kernel

/-- The site heavily loaded: 600 pulses of 10 Wh in the minute, and show hold set. -/
def heavy : State :=
  setChan 0 { meter with bins := List.replicate 60 20 } (changed fun r => { r with showHold := true })

def stationAsk : Ask := { supply := 0, target := none, mode := .auto, priority := 6, originator := .station 0 false }

theorem witness_TransferIsRefused : (Ready kindTransfer site ∧ cons.role = .console ∧ modeReqOf? 1 = some .closed) ∧
    (site.supply 11).defined = false ∧ ((changed fun r => { r with state := .fault }).supply 0).state = .fault ∧
    (flying (moving (move .dead)) 0 (move .dead) ∧ (move .dead).phase ≠ .syncWait ∧ (move .dead).phase ≠ .sync) ∧
    (flying (moving (move .sync)) 0 (move .sync) ∧ 5 ≤ (move .sync).priority) ∧
    ((∀ t, ¬ flying site 0 t) ∧ (site.input 0 .c).source = none ∧ (site.supply 0).closed = some .a) ∧
    (((setSource 1 { runs with claim := some 9 } site).source 1).claim ≠ none) ∧
    (((setSource 1 { runs with state := .refuel } site).source 1).state = .refuel) ∧
    (available ((setSource 1 { runs with stale := true } site).source 1) = false) ∧
    ((heavy.supply 0).showHold = true ∧ (heavy.supply 0).state = .live ∧ modeReqOf? 0 = some .break ∧ 6 < 7) ∧
    (withinCapacity heavy 0 1 = false ∧ available (heavy.source 1) = true ∧ (heavy.input 0 .b).voltage = true) ∧
    (∀ y ∈ allInputs, ∀ j, ((noneFree site).input 0 y).source = some j → ((noneFree site).supply 0).closed ≠ some y →
      available ((noneFree site).source j) = false) ∧
    (targetOf? 3 = some none ∧ (admitOrPreempt stationAsk (heard (say kindTransfer) 0 site)).val = .accepted 1 .b .closed ∧
      (admitOrPreempt stationAsk (heard (say kindTransfer) 0 (noneFree site))).val = .refused .noAlternative) ∧
    (flying (moving (move .sync)) 0 (move .sync) ∧ ((moving (move .sync)).supply 0).state = .transfer ∧ 5 < 6 ∧
      ((moving (move .sync)).source 1).claim = some (move .sync).ticket ∧ (runs.reservation = none) ∧
      ((moving (move .sync)).input 0 .b).voltage = true ∧ withinCapacity (moving (move .sync)) 0 1 = true ∧
      ((endPreempted 0 (setSource 1 { runs with claim := some 306 } (drawTicket (moving (move .sync))))).supply 0).state =
        .transfer) ∧
    (((modSupply 0 (fun r => { r with showHold := true }) (moving (move .sync))).supply 0).showHold = true ∧
      ((moving (move .sync)).input 0 .c).source = none ∧
      ((setSource 1 { runs with claim := some 305, stale := true } (moving (move .sync))).source 1).stale = true) ∧
    (stationAsk.target = none ∧ stationAsk.priority = 6 ∧ ((moving (move .sync)).supply 0).closed = some .a ∧
      ((moving (move .sync)).input 0 .b).source = some 1 ∧ ((moving (move .sync)).input 0 .b).faulted = false ∧
      ((noneFree (moving (move .sync))).source 1).claim = some 211 ∧ 211 ≠ (move .sync).ticket) := by
  refine ⟨⟨ready rfl ?_, ?_⟩, ?_, ?_, ⟨⟨?_, ?_⟩, ?_⟩, ⟨⟨?_, ?_⟩, ?_⟩, ⟨not_flying ?_, ?_⟩, ?_⟩ <;> (try unfold flying) <;>
    decide +kernel

/-- BEST at priority 6, whose only candidate is past its capacity. -/
theorem witness_TransferIsRefused_best : Ready kindTransfer heavy ∧ (heavy.supply 0).defined = true ∧
    (∀ t, ¬ flying heavy 0 t) ∧
    (∀ y ∈ allInputs, ∀ j, (heavy.input 0 y).source = some j → (heavy.supply 0).closed ≠ some y →
      available (heavy.source j) = false ∨ (6 < 7 ∧ withinCapacity heavy 0 j = false)) := by
  refine ⟨ready rfl ?_, ?_, not_flying ?_, ?_⟩ <;> decide +kernel

/-- R43: below priority 7 BEST asks for capacity too; refused so, it draws no ticket. -/
theorem test_best_needs_capacity : said (.transfer (say kindTransfer) 1 3 1 6) heavy = some (.noAlternative, .empty) ∧
    (after (.transfer (say kindTransfer) 1 3 1 6) heavy).xfr.counter = 1 ∧
    said (.transfer (say kindTransfer) 1 3 1 7) heavy = some (.accepted, .accepted 1 .b .closed) := by decide +kernel

def timed (t : Transfer) : Transfer := { t with phaseTimer := some 150 }

theorem witness_PhasesAreEnteredAndRunOut : (moving (move .dead)).slot 0 = some (move .dead) ∧
    (move .dead).origin = some .a ∧
    ((site.sync 0).state = .free ∧ ∀ d : SyncNo, d < 0 → (site.sync d).state ≠ .free) ∧
    (∀ c, ((List.foldl (fun s c => setSync c { SyncChan.cold with state := .measuring } s) site (indices 4)).sync c).state
      ≠ .free) ∧
    (∀ p ∈ [Phase.parallelOpen, .dead, .settle], flying (moving (timed (move p))) 0 (timed (move p)) ∧
      (timed (move p)).phaseTimer = some 150 ∧ Input.a ≠ (timed (move p)).target) := by
  unfold flying; decide +kernel

def serving (k : Nat) : SyncChan :=
  { SyncChan.cold with state := .inStep, ticket := some k, supply := some 0, origin := some .a, target := some .b }
def synced (t : Transfer) : State := setSync 2 (serving 305) (moving t)
def waiting : Transfer := { move .sync with syncTimer := some 30000, modeReq := .auto, mode := .closed }

theorem witness_SynchronismMovesTheTransfer :
    (flying (synced (move .syncWait)) 0 (move .syncWait) ∧ ((synced (move .syncWait)).sync 2).ticket = some 305 ∧
      (∀ d : SyncNo, d < 2 → ((synced (move .syncWait)).sync d).ticket ≠ some 305)) ∧
    (flying (synced (move .sync)) 0 (move .sync) ∧ ((synced (move .sync)).sync 2).state = .inStep ∧
      ((synced (move .sync)).sync 2).supply = some 0 ∧
      (releaseChannel 305 (synced (move .sync))).slot 0 = some (move .sync) ∧
      targetRecheck (synced (move .sync)) 0 (move .sync) = true ∧
      targetRecheck (setSource 1 off (synced (move .sync))) 0 (move .sync) = false) ∧
    (flying (synced waiting) 0 waiting ∧ waiting.phase = .sync ∧ waiting.syncTimer = some 30000 ∧ waiting.modeReq = .auto ∧
      ((synced waiting).supply 0).showHold = false ∧
      ((modSupply 0 (fun r => { r with showHold := true }) (synced waiting)).supply 0).showHold = true ∧
      waiting.priority ≠ 7) ∧
    ((synced waiting).syn.queue = [] ∧
      (setQueue [⟨305, 0⟩] (synced waiting)).syn.queue = ⟨305, 0⟩ :: [] ∧
      ∀ c, ((moving waiting).sync c).ticket ≠ some 305) := by unfold flying; decide +kernel

def tripping (p : Phase) (x : Input) : Transfer := { move p with tripReport := some x }

theorem witness_TripsAndAbortsByPhase :
    (∀ p ∈ [Phase.syncWait, .sync, .parallelClose, .parallelOpen, .opening],
      flying (moving (tripping p .a)) 0 (tripping p .a) ∧ (tripping p .a).origin = some .a) ∧
    (flying (moving (tripping .settle .b)) 0 (tripping .settle .b) ∧ (tripping .settle .b).target = .b) ∧
    ((∀ p ∈ [Phase.dead, .closing, .reclose], flying (moving (tripping p .a)) 0 (tripping p .a)) ∧
      (tripping .settle .a).target ≠ .a ∧ (tripping .opening .c).origin ≠ some .c) ∧
    (∀ p ∈ [Phase.syncWait, .sync, .parallelClose, .parallelOpen, .opening, .dead, .closing, .reclose, .settle],
      meets (say kindAbortTransfer) kindAbortTransfer 0 cons (moving (move p)) = true ∧
      flying (moving (move p)) 0 (move p) ∧ ((moving (move p)).supply 0).defined = true) ∧
    ((move .dead).ticket = 305 ∧ 305 ≠ 0) ∧ (site.supply 11).defined = false ∧ (∀ t, ¬ flying site 0 t) ∧
    (Taken (ask stage kindAbortTransfer) kindAbortTransfer 1 stage (moving (move .dead)) ∧ stage.role ≠ .console ∧
      (move .dead).originator ≠ .station 1 false) := by
  refine ⟨?_, ?_, ?_, ?_, ?_, ?_, not_flying ?_, taken_of rfl ?_, ?_⟩ <;> (try unfold flying) <;> decide +kernel

theorem witness_ConfirmationsMoveTheTransfer :
    (∀ p ∈ [Phase.parallelClose, .parallelOpen, .opening, .closing], flying (moving (move p)) 0 (move p) ∧
      (move p).origin = some .a ∧ Input.a ≠ (move p).target) ∧
    (∀ t ∈ [{ move .parallelOpen with overlapExpired := true }, { move .opening with abortRequested := true },
        { move .opening with abortRequested := true, originTripped := true }, { move .opening with originTripped := true },
        { move .reclose with pendingResult := some .aborted }], flying (moving t) 0 t) ∧
    ((changed fun r => { r with timing := { r.timing with deadTime := 0 } }).supply 0).timing.deadTime = 0 ∧
    0 < ((moving (move .opening)).supply 0).timing.deadTime := by unfold flying; decide +kernel

/-- A transfer with a confirm window open on one of its inputs. -/
def windowed (t : Transfer) (x : Input) (w : Window) : State := modInput 0 x (fun r => { r with window := some w }) (moving t)
def closing : Window := { dir := .toClose, ends := 400, restart := false }

theorem witness_ConfirmTimeoutsEndOrTurnBack :
    (∀ t ∈ [move .parallelClose, move .closing, { move .closing with originTripped := true },
        { move .closing with origin := none }], ((windowed t .b closing).input 0 .b).window = some closing ∧
        flying (windowed t .b closing) 0 t ∧ t.target = .b) ∧
    (((windowed (move .opening) .a opened).input 0 .a).window = some opened ∧
      flying (windowed (move .opening) .a opened) 0 (move .opening) ∧ (move .opening).origin = some .a) ∧
    (flying (windowed { move .parallelOpen with overlapExpired := true } .b opened) 0
        { move .parallelOpen with overlapExpired := true } ∧
      ((windowed { move .parallelOpen with overlapExpired := true } .b opened).input 0 .b).window = some opened) ∧
    (∀ b ∈ [true, false], let t := { move .parallelOpen with overlapExpired := b }
      flying (windowed t .a opened) 0 t ∧ ((windowed t .a opened).input 0 .a).window = some opened ∧ t.target ≠ .a) ∧
    (((windowed (move .reclose) .a closing).input 0 .a).window = some closing ∧
      flying (windowed (move .reclose) .a closing) 0 (move .reclose)) ∧
    ({ opened with restart := true } : Window).restart = true := by unfold flying; decide +kernel

def village : ReturnEntry :=
  { supply := 0, fromInput := .b, toInput := .a, source := 1, slot := 0, window := some 1800000, deadline := 1800,
    attempt := some 0, ticket := none, last := none }
def home : State := setReturns [village] site
def unloading : Delivery := { job with state := .waitingUnload, surveyTimer := some 10000 }
/-- Its unload of supply 1 in flight with ticket 305. -/
def unloadingBy : Delivery := { unloading with unloads := [⟨0, .inFlight 305⟩] }
def bound : ReturnEntry := { village with ticket := some 305, attempt := none }

theorem witness_TransferEndsInOrder : flying (moving (move .settle)) 0 (move .settle) ∧
    (move .settle).originator = .station 0 false ∧
    (∀ m, ((moving (move .settle)).supply m).restoreWaiting = false) ∧
    (∀ o ∈ [Originator.station 0 true, .supply, .watch 12, .unload 0, .returnHome 0],
      flying (moving { move .settle with originator := o }) 0 { move .settle with originator := o }) ∧
    ((∀ b ∈ [true, false], ({ unloadingBy with blockedReported := b } : Delivery).blockedReported = b ∧
        (setDelivery 0 (some { unloadingBy with blockedReported := b }) site).delivery 0 =
          some { unloadingBy with blockedReported := b }) ∧
      (∃ e ∈ unloadingBy.unloads, e.status = .inFlight 305) ∧ (∀ c : SlotNo, ¬ c < 0) ∧
      unloadingBy.state = .waitingUnload ∧ ({ unloadingBy with state := .opened } : Delivery).fillWhileLoaded = false) ∧
    ((∀ d, site.delivery d = none) ∧ (setLastEnded 0 (some unloadingBy) site).lastEnded 0 = some unloadingBy ∧
      (∀ j : SourceNo, ¬ j < 0) ∧ ∀ i, site.lastEnded i = none) ∧
    (bound ∈ [bound] ∧ bound.ticket = some 305 ∧ bound.window.isSome = true ∧
      ({ bound with window := none } : ReturnEntry).window = none ∧ village.ticket ≠ some 305) := by
  unfold flying; decide +kernel

/-- Section 4.6's measurement, and one a half turn on: 3600 * 9990 / 19980 = 1800 and the next microsecond but five. -/
theorem witness_MeasurementFigures : (14286 ≤ 20000 ∧ 20000 ≤ 25000) ∧ (14286 ≤ 19980 ∧ 19980 ≤ 25000) ∧
    (2 * 300 < 3 * 19980 ∧ 2 * 29969 < 3 * 19980) ∧ 0 < 229 ∧
    (9990 * 3600 / 19980 ≤ 1800 ∧ 1800 < 9996 * 3600 / 19980) ∧ (229 ≤ 231 ∧ 229 ≤ 229) := by decide

def tuning : SyncChan := { serving 305 with state := .measuring, run := 3 }
def tuned : SyncChan :=
  { tuning with originCount := 8, targetCount := 8, lastCrossing := some 1000000, lastPeriod := some 19980,
                originSource := some 0, targetSource := some 1 }

/-- R69: a crossing of supply 1's target reaches the channel that measures it. -/
theorem test_crossing_reaches_the_channel :
    let t := after (.senseCrossing 0 .b 20000) (setSync 3 tuning site)
    (t.sync 3).lastCrossing = some 20000 ∧ (t.sync 3).lastPeriod = some 20000 ∧ (t.sync 2) = SyncChan.cold := by
  decide +kernel

theorem witness_ChannelsTakeCrossings :
    (∃ ch : Vector SyncChan 4, ∀ c, look ch c = channelCrossing site 0 .b 20000 20000 (site.sync c)) ∧
    (SyncChan.cold.state ≠ .measuring) ∧
    (tuning.state = .measuring ∧ tuning.supply = some 0 ∧ tuning.target = some .b ∧ tuning.origin = some .a ∧
      tuning.target ≠ some .a) ∧
    (withinLimits site.syn.limits ⟨50, 54, 8⟩ = true ∧ withinLimits site.syn.limits ⟨150, 101, 17⟩ = false) ∧
    measure site { tuning with originCount := 0 } 20000 25001 = none ∧ Ready kindSetSyncLimits site ∧
    ((∀ v, some 500 = some v → 50 ≤ v ∧ v ≤ 500) ∧ (∀ v, (none : Option Nat) = some v → 20 ≤ v ∧ v ≤ 200) ∧
      (∀ v, some 10 = some v → 10 ≤ v ∧ v ≤ 100) ∧ (∀ v, some 120 = some v → 5 ≤ v ∧ v ≤ 120)) ∧
    (∃ v, some 49 = some v ∧ (v < 50 ∨ 500 < v)) ∧
    (tuned.lastPeriod = some 19980 ∧ tuned.lastCrossing = some 1000000 ∧ tuned.originSource = some 0 ∧
      (site.source 0).stale = false ∧ (site.source 0).telemetry = some tele ∧ tele.voltage = 229 ∧
      tuned.originCount = 8 ∧ tuned.targetCount = 8 ∧ 2 * (1029969 - 1000000) < 3 * 19980 ∧
      ¬ 2 * (1029970 - 1000000) < 3 * 19980) ∧
    (tuning.lastPeriod = none ∧ tuning.originSource = none ∧ (hour.source 0).stale = true) := by
  refine ⟨⟨site.syn.channels, ?_⟩, ?_, ?_, ?_, ?_, ready rfl ?_, ⟨?_, ?_, ?_, ?_⟩, ⟨49, ?_⟩, ?_⟩ <;>
    first | decide +kernel | simp

/-! ## Witnesses: fuel -/

theorem witness_TanksAndThePriceAreSet : (∀ k ∈ kindTable, Ready k site) ∧
    (10 ≤ 10 ∧ 200000 ≤ 200000 ∧ 10 ≤ 10) ∧ ((site.source 15).state = .unlisted ∧ (site.source 0).state ≠ .unlisted) ∧
    (∃ d r, bowser.delivery d = some r ∧ r.source = 0) ∧ (∀ d r, site.delivery d = some r → r.source ≠ 0) ∧
    65535 ≤ 65535 := ⟨console_ready, by decide +kernel⟩

def tank5 : State := site |> setTankRec 4 tank |> setSource 4 { runs with state := .stopped }

theorem witness_DeliveriesAreArmed : (Ready kindArmDelivery site ∧ Ready kindArmDelivery bowser ∧ Ready kindArmDelivery tank5) ∧
    (200000 ≤ 200000 ∧ 1 ≤ 60 ∧ 60 ≤ 60 ∧ 1 ≤ 30 ∧ 30 ≤ 30 ∧ 100 ≤ 100) ∧
    (200000 < 200001 ∧ 0 < 1 ∧ 60 < 61 ∧ 30 < 31 ∧ 100 < 101) ∧
    ((none : Option Nat).getD 15 = 15 ∧ (none : Option Nat).getD 5 = 5 ∧ (none : Option Nat).getD 20 = 20 ∧
      (some 60).getD 15 = 60) ∧
    (∃ d r, bowser.delivery d = some r ∧ r.source = 0) ∧
    ((∀ d r, bowser.delivery d = some r → r.source ≠ 1) ∧ (∃ d r, bowser.delivery d = some r ∧ r.reference = some 7731) ∧
      (bowser.tank 1).set = false ∧ (bowser.source 15).state ≠ .stopped ∧ (bowser.source 15).state ≠ .running) ∧
    (∀ d, ((List.foldl (fun s d => setDelivery d (some { job with slot := d, source := 9, reference := some d.1 }) s) site
      (indices 8)).delivery d).isSome = true) ∧
    ((∀ d r, site.delivery d = some r → r.source ≠ 0) ∧ (site.source 0).state = .running ∧ (site.tank 0).set = true ∧
      site.delivery 0 = none ∧ (∀ e : SlotNo, e < 0 → (site.delivery e).isSome = true) ∧
      (site.source 0).hire = some hire ∧ hire.hot = false ∧ (site.tank 0).capacity = some 10000 ∧
      (site.tank 0).book = some 3700) ∧
    ((tank5.source 4).claim = none ∧ ∀ m x, (tank5.input m x).source = some 4 → (tank5.input m x).aux = false) ∧
    ((∃ m x, (tanked.input m x).source = some 0 ∧ (tanked.input m x).aux = true) ∧
      ∀ m x, ((changed fun r => { r with state := .fault }).supply m).closed = some x →
        ((changed fun r => { r with state := .fault }).input m x).source = some 0 →
        ((changed fun r => { r with state := .fault }).supply m).state ≠ .live ∧
          ((changed fun r => { r with state := .fault }).supply m).state ≠ .tripped) ∧
    ({ hire with hot := true } : Hire).hot = true := by
  refine ⟨⟨ready rfl ?_, ready rfl ?_, ready rfl ?_⟩, ?_, ?_, ?_, ?_, ?_, ?_, ?_, ⟨?_, at_inputs ?_⟩,
    ⟨⟨0, .a, ?_⟩, at_inputs ?_⟩, ?_⟩ <;> decide +kernel

/-- The survey of a cold arming of source `i`, in slot 0. -/
def surveyed (i : SourceNo) (s : State) : State :=
  survey 0 (setSource i { s.source i with reservation := some 0 }
    (setDelivery 0 (some { job with source := i, state := .waitingUnload }) (heard (say kindArmDelivery) 0 s)))

/-- Source 1 feeds supply 1, which moves; source 5 feeds nothing, and REFUEL is granted. -/
theorem witness_DeliveriesAreArmed_surveyed :
    (((surveyed 0 site).delivery 0).map fun q => (q.state, q.unloads)) = some (.waitingUnload, [⟨0, .inFlight 1⟩]) ∧
    (((surveyed 4 tank5).delivery 0).map fun q => q.state) = some .armed ∧
    ((surveyed 4 tank5).source 4).state = .refuel := by decide +kernel
theorem test_arm_delivery_ranges : ∀ c ∈ [
      Instr.armDelivery (say kindArmDelivery) 1 1 200001 0 none none none, .armDelivery (say kindArmDelivery) 1 1 0 0 (some 0) none none,
      .armDelivery (say kindArmDelivery) 1 1 0 0 (some 61) none none, .armDelivery (say kindArmDelivery) 1 1 0 0 none (some 0) none,
      .armDelivery (say kindArmDelivery) 1 1 0 0 none (some 31) none, .armDelivery (say kindArmDelivery) 1 1 0 0 none none (some 101)],
    said c site = some (.range, .empty) := by decide +kernel

def filling (r : Delivery) (closed unread : Bool) : State :=
  setDelivery 0 (some r) site |> setFill 0 closed |> setFillUnread 0 unread

def spill : Delivery :=
  { job with slot := 3, reference := none, cold := false, state := .opened, unarmed := true,
             gaugeAtOpen := some (some 2400), markAtOpen := some 9000000, armTimer := none }
def spilled : State :=
  site |> setDelivery 3 (some spill) |> setFill 0 true |>
    setTankRec 0 { tank with capacity := some 8000, mark := 9324000 } |>
    setSource 0 { runs with telemetry := some { tele with gauge := 600 } }

theorem witness_FillPointsMoveDeliveries :
    (∀ q ∈ [DeliveryState.armed, .waitingUnload, .filled],
      (filling { job with state := q } false false).delivery 0 = some { job with state := q } ∧
      (∀ e p, (filling { job with state := q } false false).delivery e = some p → p.source = 0 → e = 0) ∧
      look (filling { job with state := q } false false).dlv.fill 0 = false ∧
      look (filling { job with state := q } false false).dlv.fillUnread 0 = false) ∧
    (look (filling { job with state := .opened } true false).dlv.fill 0 = true ∧ job.unarmed = false) ∧
    look (filling { job with state := .opened } false true).dlv.fillUnread 0 = true ∧
    ((∀ e p, site.delivery e = some p → p.source ≠ 1) ∧ look site.dlv.fill 1 = false ∧ look site.dlv.fillUnread 1 = false ∧
      (site.source 1).state = .running ∧ site.delivery 0 = none ∧ (site.source 15).state = .unlisted) ∧
    look (setFillUnread 1 true site).dlv.fillUnread 1 = true ∧
    ((∀ q ∈ [DeliveryState.armed, .waitingUnload, .filled, .opened],
        look (filling { job with state := q } false true).dlv.fillUnread 0 = true) ∧
      look (filling job true false).dlv.fill 0 = true ∧ job.state ≠ .opened) ∧
    (spilled.delivery 3 = some spill ∧ spill.unarmed = true ∧ spill.markAtOpen = some 9000000 ∧ spill.gaugeRise = none ∧
      look spilled.dlv.fill 0 = true ∧ look spilled.dlv.fillUnread 0 = false ∧ spill.gaugeAtOpen = some (some 2400) ∧
      (spilled.source 0).stale = false ∧ gaugeLevel (spilled.tank 0) (spilled.source 0) = some 4800 ∧
      gaugeLevel (spilled.tank 0) (hour.source 0) = some 2880 ∧ (hour.source 0).stale = true ∧
      ({ spill with gaugeAtOpen := some none } : Delivery).gaugeAtOpen = some none) ∧
    ((setSource 2 off site).source 2).state = .offHire ∧
    (∀ d, ((List.foldl (fun s d => setDelivery d (some { job with slot := d, source := 9 }) s) site (indices 8)).delivery d
      ).isSome = true) ∧ look (setFill 1 true site).dlv.fill 1 = true := by decide +kernel

/-- Section 6.10's delivery before its close: 3,600 dL at open, the gauge now at 655 per-mille. -/
def topped : Delivery :=
  { job with state := .filled, gaugeAtOpen := some (some 3600), markAtOpen := some 0, armTimer := none,
             finishTimer := some 1080000, latestRegister := 120100 }
def dipped : State :=
  site |> setDelivery 0 (some topped) |> setTankRec 0 { tank with mark := 43200 } |>
    setSource 0 { runs with state := .refuel, reservation := some 0, telemetry := some { tele with gauge := 655 } }

theorem witness_DeliveriesAreReconciled :
    (bowser.delivery 0 = some job ∧ job.reference = some 7731 ∧
      (∀ e p, bowser.delivery e = some p → p.reference = some 7731 → e = 0) ∧ job.armTimer = some 900000 ∧
      ∀ k ∈ [kindMeterReading, kindCloseDelivery, kindCancelDelivery], meets (say k) k 0 cons bowser = true) ∧
    (dipped.delivery 0 = some topped ∧ (∀ e p, dipped.delivery e = some p → p.reference = some 7731 → e = 0) ∧
      topped.gaugeAtOpen = some (some 3600) ∧ topped.markAtOpen = some 0 ∧ (dipped.source 0).stale = false ∧
      gaugeLevel (dipped.tank 0) (dipped.source 0) = some 6550 ∧ (dipped.tank 0).capacity = some 10000 ∧
      topped.finishTimer = some 1080000 ∧ meets (say kindCloseDelivery) kindCloseDelivery 0 cons dipped = true) ∧
    ((∀ m, m ∈ topped.moved → (dipped.supply m.supply).returnHome = false) ∧ (dipped.tank 0).set = true ∧
      (dipped.tank 0).book = some 3700 ∧ (topped.cold = true → ∀ m, (dipped.supply m).restoreWaiting = false)) ∧
    (∀ k ∈ [kindMeterReading, kindCloseDelivery, kindCancelDelivery], meets (say k) k 0 cons site = true) ∧
    ((∀ d, site.delivery d = none) ∧ (∀ i, site.lastEnded i = none) ∧
      (setLastEnded 0 (some topped) site).lastEnded 0 = some topped ∧ topped.reference = some 7731) ∧
    (topped.gaugeRise = none ∧ topped.variance = none ∧ topped.tolerance = none ∧ (hour.source 0).stale = true ∧
      ({ topped with gaugeAtOpen := some none } : Delivery).gaugeAtOpen = some none) ∧
    (({ topped with moved := [⟨0, .a, .b⟩] } : Delivery).moved ≠ [] ∧
      ((changed fun r => { r with returnHome := true }).supply 0).returnHome = true ∧ (site.supply 0).returnHome = false) ∧
    ((site.tank 15).set = false ∧ (site.tank 0).set = true ∧ (site.tank 0).capacity = some 10000 ∧
      (site.tank 0).book = some 3700) := by
  decide +kernel

def asksB : Ask := { supply := 0, target := none, mode := .auto, priority := 4, originator := .unload 0 }
def refusing : State := setDelivery 0 (some unloading) site |> setSource 1 off
def homeAsk : Ask := { supply := 0, target := some .b, mode := .closed, priority := 3, originator := .returnHome 0 }

theorem witness_UnloadsAndReturnsAreAsked :
    ((setDelivery 0 (some unloading) site).delivery 0 = some unloading ∧ unloading.surveyTimer = some 10000 ∧
      unloading.state = .waitingUnload) ∧
    ((setSource 4 { runs with reservation := some 0 } site).source 4).reservation = some 0 ∧
    (∀ m x, (site.input m x).source = some 4 → (site.input m x).aux = false) ∧
    ((site.supply 0).closed = some .a ∧ (site.input 0 .a).source = some 0 ∧ (site.supply 0).state = .live ∧
      ∀ e k, e ∈ unloading.unloads → e.supply = 0 → e.status ≠ .inFlight k) ∧
    ((admission asksB (setDelivery 0 (some unloading) site)).val = .accepted 1 .b .closed ∧
      (admission asksB (setDelivery 0 (some unloading) site)).state.delivery 0 = some unloading) ∧
    ((admission asksB refusing).val = .refused .noAlternative ∧ (admission asksB refusing).state.delivery 0 = some unloading) ∧
    (village ∈ home.dlv.returns ∧ (∀ f, f ∈ home.dlv.returns → f.supply = 0 → f = village) ∧ village.attempt = some 0 ∧
      village.ticket = none ∧ village.window = some 1800000) ∧
    ((home.supply 0).closed = some village.toInput ∧ (home.supply 11).state ≠ .live) ∧
    ((admission homeAsk home).val = .accepted 1 .b .closed ∧
      (admission homeAsk (setSource 1 off home)).val = .refused .noAlternative) ∧
    (∀ r ∈ [unloading, { unloading with state := .opened, fillWhileLoaded := true },
        { unloading with state := .opened }], r.surveyTimer = some 10000 ∧
        (setDelivery 0 (some r) site).delivery 0 = some r ∧ (site.source r.source).state ≠ .refuel) ∧
    ((∃ f ∈ unloadingBy.unloads, f.supply = 0) ∧ (∀ f ∈ unloadingBy.unloads, f.supply ≠ 1) ∧
      (∃ f ∈ home.dlv.returns, f.supply = village.supply) ∧ (∀ f ∈ site.dlv.returns, f.supply ≠ village.supply)) ∧
    (bound ∈ (setReturns [bound] site).dlv.returns ∧ bound.ticket ≠ none ∧ bound.window = some 1800000) := by
  refine ⟨?_, ?_, at_inputs ?_, ⟨?_, ?_, ?_, ?_⟩, ?_⟩ <;> first | decide +kernel | simp [unloading, job]

/-! ## Witnesses: metering and watches -/

/-- R109: a width carried as none selects 20 ms. -/
theorem test_width_none : (after (.defineChannel (say kindDefineChannel) 1 none (some 5) 10 none) site).chan 1 =
    { Chan.cold 0 false with defined := true, account := some 5, wh := 10, width := 20 } := by decide +kernel

theorem witness_ChannelsAreDefined : Ready kindDefineChannel site ∧ (1 ≤ 1 ∧ 1000 ≤ 1000 ∧ 5 ≤ 5 ∧ 100 ≤ 100) ∧
    (5 = (some 5).getD 20 ∧ 100 = (some 100).getD 20 ∧ 20 = (none : Option Nat).getD 20) ∧
    ((site.account 5).defined = true ∧ (∀ x, some (0 : SupplyNo) = some x → (site.supply x).defined = true)) ∧
    ((site.account 47).defined = false) ∧ (∃ x, some (11 : SupplyNo) = some x ∧ (site.supply x).defined = false) := by
  refine ⟨ready rfl ?_, ?_⟩ <;> decide +kernel

def edge (f : Chan → Chan) : State := modChan 0 f site

theorem witness_PulsesAreCounted :
    ((site.chan 0).line = false ∧ (site.chan 0).defined = true ∧ (site.chan 0).lastFall = some 0 ∧
      (0 ≤ 20 ∧ 0 + (site.chan 0).width ≤ 20) ∧ 19 < 0 + (site.chan 0).width) ∧
    ((edge fun r => { r with lastFall := none }).chan 0).lastFall = none ∧
    (((edge fun r => { r with line := true, pulseStart := some 60 }).chan 0).line = true ∧ (site.chan 0).account = some 5 ∧
      ((edge fun r => { r with line := true, pulseStart := some 60 }).chan 0).pulseStart = some 60 ∧
      (60 + (site.chan 0).width ≤ 80 ∧ 1060 ≤ 60 + 1000) ∧ (60 ≤ 79 ∧ 79 < 60 + (site.chan 0).width) ∧ 60 + 1000 < 1061 ∧
      (site.chan 0).bins = 0 :: List.replicate 59 0) ∧
    ((∀ m i, (site.chan 0).supply = some m → (site.supply m).record = some i → (0 : Fin 17).1 = i.1) ∧
      ¬ ∀ m i, (site.chan 0).supply = some m → (site.supply m).record ≠ some i) ∧
    (∀ m i, ((edge fun r => { r with supply := none }).chan 0).supply = some m → (site.supply m).record ≠ some i) ∧
    ((site.chan 0).pulseStart = none ∧ (site.chan 0).discardMark = false ∧
      ((edge fun r => { r with discardMark := true }).chan 0).discardMark = true) ∧
    ((site.chan 23).defined = false ∧ (site.chan 23).line = false ∧
      ((setChan 23 { Chan.cold 0 true with line := true } site).chan 23).line = true) := by
  refine ⟨?_, ?_, ?_, ⟨?_, ?_⟩, ?_, ?_, ?_⟩ <;> decide +kernel

/-- DEFINE WATCH of section 9.8: TANK_VARIANCE of source 5 below -20, hysteresis 10, persistence 3. -/
def varianceReq : WatchReq :=
  { kind := some 5, index := 5, cond := 5, threshold := BitVec.ofInt 32 (-20), hysteresis := 10, persistence := 3,
    action := 0, supply := 0, priority := 0, mask := 5 }

theorem witness_WatchesAreDefinedAndArmed : (∀ k ∈ kindTable, Ready k site) ∧
    (operandOf? 5 5 = some (.tankVariance 4) ∧ condOf? 5 = some .lt ∧ 3600 ≤ 3600 ∧ varianceReq.action = 0) ∧
    ({ varianceReq with kind := none } : WatchReq).kind = none ∧
    ({ varianceReq with action := 1, supply := 12, priority := 6 } : WatchReq).supply = numberOf (11 : SupplyNo) ∧ 6 ≤ 6 ∧
    (varianceReq.kind = some 5 ∧ operandOf? 5 17 = none ∧ condOf? 14 = none ∧ actionOf? 2 = none ∧ 3600 < 3601 ∧
      12 < 13 ∧ 6 < 7) :=
  ⟨console_ready, by decide⟩

theorem witness_ConditionsAndReleaseTests :
    (∀ c ∈ [CondCode.gt, .ge, .lt, .le, .above, .atOrAbove, .below, .atOrBelow, .eq, .ne, .neg, .bitSet, .bitClr, .always],
      ({ Watch.cold with cond := c } : Watch).cond = c) := by decide

/-- An entry on TIME_OF_DAY, which reads 0 here: its condition holds ABOVE_OR_EQUAL 0 and fails ABOVE 0. -/
def entry (q : WatchState) (c : CondCode) (k : Nat) : Watch :=
  { Watch.cold with defined := true, armed := true, operand := some .timeOfDay, cond := c, persistence := 3, state := q,
                    counter := k, mask := 1 }
def mover (k : Nat) : Watch :=
  { entry .pending .atOrAbove k with action := .transfer, supply := some 0, priority := some 6 }
def tries : Watch := { mover 9 with state := .retry }
def watched (r : Watch) : State := setWatch 12 r site
def watchQ : Ask := { supply := 0, target := none, mode := .auto, priority := 6, originator := .watch 12 }

theorem witness_WatchSamplesMoveTheEntry :
    (∀ r ∈ [entry .idle .above 0, entry .pending .above 2], condition r ((r.operand.bind (operandValue (watched r)))) = false) ∧
    (∀ r ∈ [entry .fired .above 3, entry .retry .above 9], released r (r.operand.bind (operandValue (watched r))) = true) ∧
    (∀ r ∈ [entry .fired .atOrAbove 3, entry .retry .atOrAbove 8],
      released r (r.operand.bind (operandValue (watched r))) = false) ∧
    (9 = min 10 (8 + 1) ∧ 9 < 10) ∧
    (∀ r ∈ [entry .idle .atOrAbove 0, entry .pending .atOrAbove 1, entry .pending .atOrAbove 2],
      condition r (some 0) = true ∧ r.operand.bind (operandValue (watched r)) = some 0) ∧ (1 < 3 ∧ 3 ≤ 2 + 1) ∧
    ((mover 2).action = .transfer ∧ (mover 2).supply = some 0 ∧ (mover 2).priority = some 6 ∧
      (admitOrPreempt watchQ (watched (mover 3))).val = .accepted 1 .b .closed ∧
      (admitOrPreempt watchQ (watched (mover 3))).state.watch 12 = mover 3) ∧
    ((admitOrPreempt watchQ (setSource 1 off (watched (mover 3)))).val = .refused .noAlternative ∧
      (admitOrPreempt watchQ (setSource 1 off (watched (mover 3)))).state.watch 12 = mover 3 ∧
      (mover 2).refusalReported = false) ∧ (Watch.cold.armed = false) ∧
    (tries.state = .retry ∧ released tries (some 0) = false ∧ 9 ≤ tries.counter ∧ condition tries (some 0) = true ∧
      (admitOrPreempt watchQ (watched { tries with counter := 10 })).val = .accepted 1 .b .closed ∧
      (admitOrPreempt watchQ (watched { tries with counter := 10 })).state.watch 12 = { tries with counter := 10 } ∧
      (admitOrPreempt watchQ (setSource 1 off (watched { tries with counter := 10 }))).val = .refused .noAlternative) := by
  decide +kernel

/-! ## Ill-formed commands, one for each check -/

def plain : Request := ⟨0, 1, 0, 0⟩
def hireCmd (c : Curve) (rate stale : Nat) : Instr := .hireSource plain 1 400 c rate 0 0 stale

theorem test_refuses_address : Instr.wellFormed (.ping ⟨0, 256, 0, 0⟩) = false := by decide
theorem test_refuses_length : Instr.wellFormed (.ping ⟨0, 1, 201, 0⟩) = false := by decide
theorem test_refuses_one_byte : Instr.wellFormed (.readSource plain 256) = false := by decide
theorem test_refuses_two_bytes : Instr.wellFormed (.setFuelPrice plain 65536) = false := by decide
theorem test_refuses_three_bytes : Instr.wellFormed (hireCmd ⟨1, 2, 3, 4, 5⟩ 16777216 0) = false := by decide
theorem test_refuses_four_bytes : Instr.wellFormed (.setTime plain false 4294967296) = false := by decide
theorem test_refuses_optional_byte : Instr.wellFormed (.setSyncLimits plain none (some 255) none none) = false := by decide
theorem test_refuses_optional_word : Instr.wellFormed (.setSyncLimits plain (some 65535) none none none) = false := by decide
theorem test_refuses_curve : Instr.wellFormed (hireCmd ⟨1, 2, 3, 4, 65536⟩ 0 0) = false := by decide
theorem test_refuses_timing :
    Instr.wellFormed (.defineSupply plain 1 (Abc.pure none) none false false ⟨none, some 65535, none, none, none, none⟩) = false := by
  decide
theorem test_refuses_watch : Instr.wellFormed (.defineWatch plain 0 { varianceReq with persistence := 65536 }) = false := by
  decide
theorem test_refuses_high_kind : Instr.wellFormed (.unlistedKind plain 128) = false := by decide
theorem test_refuses_listed_kind : Instr.wellFormed (.unlistedKind plain 1) = false := by decide
theorem test_takes_unlisted_kind : Instr.wellFormed (.unlistedKind plain 0x11) = true := by decide

/-- No row of the table has bits. -/
theorem test_no_word_spells_a_command : decodeTableWord 8 0x01 = none := rfl

/-! ## The link (chapters 10 and 12) -/

/-- R151: the CRC of a PING to part address 40 from address 1, worked by hand from the polynomial. -/
theorem test_crc : crc [40, 1, 1, 0] = 0x324C := by decide +kernel

def wire (cs : List Byte) : List RxChar := cs.map soundChar

/-- R152: the PING is held in the buffer and answered; a frame that comes before the reply is sent is discarded. -/
theorem test_ping_frame_is_answered :
    (after (.frameReceived 0 5 (wire [0x55, 0xA5, 40, 1, 1, 0, 0x32, 0x4C])) site).port 0 =
    { Port.cold with serving := true, buffer := some (frame 40 1 []), reply := some reply } ∧
    (after (.frameReceived 0 5 (wire [0xA5, 40, 1, 1, 0, 0x32, 0x4C])) (setPort 0 leaving site)).port 0 =
      { leaving with flags := { PortFlags.clear with overrun := true } } := by decide +kernel
/-- R151: a wrong CRC, and a length above 200, which is a RUNT logged with the port and the flag. -/
theorem test_damaged_frames :
    (after (.frameReceived 0 5 (wire [0xA5, 40, 1, 1, 0, 0x4C, 0x32])) site).port 0 =
      { Port.cold with flags := { PortFlags.clear with crc := true }, rx := .waitingQuiet } ∧
    logged (after (.frameReceived 2 5 (wire [0xA5, 40, 1, 1, 201])) site) = some (.linkFault, some 2, some 4, none) := by
  decide +kernel
theorem test_gap_inside_frame : ((after (.characterGapTimeout 0 9) (setPort 0 { Port.cold with rx := .assembling [40] } site)).port 0).rx
    = .waitingQuiet := by decide +kernel
theorem test_quiet_line_hunts : ((after (.lineQuiet 0 9) (setPort 0 { Port.cold with rx := .waitingQuiet } site)).port 0).rx
    = .hunting := by decide +kernel
theorem test_reply_sent_frees_the_port :
    ((after (.replySent 0 9) (after (.ping (say kindPing)) site)).port 0) = Port.cold := by decide +kernel
theorem test_unlisted_kind : said (.unlistedKind (say kindPing) 0x11) site = some (.badKind, .empty) := by decide +kernel
/-- Sixty full demand bins (R108) come to 0x3BFFC4, in three bytes behind a channel's own fields (log entry 6). -/
theorem test_demand_sum_bytes : ((bBody (.channel meter (60 * 65535) 0 none (Vector.replicate 17 0))).drop
    (bChan meter).length).take 3 = [0x3B, 0xFF, 0xC4] := by decide +kernel

/-- R166: the ticket, a nameless originator's number and an operand of none in their replies (log entry 6). -/
theorem test_bytes_with_nothing_to_carry : (bSlot 0 (move .dead) none none none none).take 4 = [1, 1, 49, 1] ∧
    (bOriginator .supply).drop 1 = [0, 0] ∧ bOperand none = [255, 0] := by decide +kernel

/-- Section 12.5: TRANSFER's four bytes, and the frame of its ACCEPTED reply for ticket 305, target B, mode BREAK. -/
theorem test_transfer_payload : frameCommand 0 7 { dest := 40, src := 1, kind := 0x31, payload := [1, 1, 0, 5] } =
    .transfer ⟨0, 1, 4, 7⟩ 1 1 0 5 := by decide
theorem test_accepted_reply : replyPayload { reply with status := .accepted, body := .accepted 305 .b .break } =
    [0x01, 0x01, 0x31, 1, 0] := by decide
/-- The reply to a PING: status OK in one byte, and the CRC worked by hand. -/
theorem test_ping_reply_frame : replyFrame reply = some [0xA5, 1, 40, 0x81, 1, 0, 0x36, 0x8B] := by decide +kernel
/-- R166: signed figures are two's complement and none is all ones; the header is the status, with bit 7 for attention. -/
theorem test_reply_fields : z24 (-38) = [0xFF, 0xFF, 0xDA] ∧ n16 none = [0xFF, 0xFF] ∧
    nOutcome none = [0xFF, 0xFF] ∧ bGauge none = [0, 0, 0, 0, 0] ∧
    replyPayload { reply with status := .held, attention := true, body := .held 2 } =
      [BitVec.ofNat 8 (statusCode .held + 128), 2] := by decide
/-- Section 12.5: the reply of READ ACCOUNT is 67 bytes long. -/
theorem test_account_reply_length : (replyPayload { reply with body := accountBody 5 .a site }).length = 67 := by
  decide +kernel

/-! ## Stations, the hold, attention and the log (sections 10.7, 11.5) -/

theorem test_ping : said (.ping (say kindPing)) site = some (.ok, .empty) := by decide +kernel
theorem test_take_hold_names_holder : said (.takeHold (say kindTakeHold)) lent = some (.held, .held 2) := by decide +kernel
theorem test_take_hold_logs : logged (after (.takeHold (say kindTakeHold)) loose) = some (.holdTaken, some 0, none, none) := by
  decide +kernel
theorem test_release_hold : (after (.releaseHold (say kindReleaseHold)) site).stn.hold = none := by decide +kernel
theorem test_force_release_tells_the_holder :
    ((after (.forceRelease (say kindForceRelease)) lent).station 2).map (fun st => look st.flags 2) =
      some (some (.holdLapsed .forced)) := by decide +kernel
/-- Last heard at 12 s, the FUEL station loses the hold at 132 s. -/
def roundTrip : State := setHold (some 2) (setStation 2 (some { fuel with lastRequest := 12000 }) site)
theorem test_hold_lapses_at_132_seconds : let t := after .holdLapsed roundTrip
    t.now = 132000000 ∧ t.stn.hold = none ∧ logged t = some (.holdLapsed, some 2, none, none) ∧
      attentionOutput t 1 = true ∧ attentionOutput roundTrip 1 = false := by decide +kernel
/-- At 135 s its SET TANK is answered NO_HOLD with attention, and at 136 s QUERY ATTENTION clears the flag. -/
theorem test_set_tank_without_hold :
    ((after (.setTank (ask fuel kindSetTank) 7 10 0 0) (after .holdLapsed roundTrip)).port 1).reply.map
      (fun r => (r.status, r.attention)) = some (.noHold, true) := by decide +kernel
theorem test_query_attention_clears_the_flag : let t := after (.queryAttention (ask fuel kindQueryAttention)) (after .holdLapsed roundTrip)
    (t.port 1).reply.map (·.body) = some (.attention (some (.holdLapsed .lapsed)) 0) ∧ attentionOutput t 1 = false := by
  decide +kernel
theorem test_enrol_takes_lowest_number :
    said (.enrolStation (say kindEnrolStation) 2 9 3 (some 1)) site = some (.ok, .station 4) := by decide +kernel
theorem test_enrol_taken_address :
    said (.enrolStation (say kindEnrolStation) 1 6 2 none) site = some (.state, .empty) := by decide +kernel
theorem test_remove_station : (after (.removeStation (say kindRemoveStation) 2) site).station 2 = none := by decide +kernel
theorem test_last_console_stays : said (.removeStation (say kindRemoveStation) 0) site = some (.state, .empty) := by
  decide +kernel
theorem test_clear_enables : ((after (.clearEnables (say kindClearEnables) 0x0001) site).station 0).map
    (fun st => (look st.enables 0, look st.enables 1)) = some (false, true) := by decide +kernel
theorem test_set_enables : ((after (.setEnables (say kindSetEnables) 0x0001)
    (freed 0 (after (.clearEnables (say kindClearEnables) 0xFFFF) site))).station 0).map
      (fun st => (look st.enables 0, look st.enables 1)) = some (true, false) := by decide +kernel
theorem test_clear_causes : ((after (.clearCauses (say kindClearCauses) 0x0008) noisy).station 0).map
    (fun st => ((look st.flags 3).isSome, (look st.flags 9).isSome)) =
      some (false, true) := by decide +kernel
/-- Section 11.5: one append at a full ring marks station 6 (here 2) at cursor 1,000 and tells it one record is lost. -/
theorem test_append_at_full_ring : let t := logAppend .sourceFresh none none none slow
    oldestOf t.log = 1001 ∧ t.log.next = 1513 ∧
      (t.station 2).map (fun st => (st.gapMark, look st.flags 1)) = some (true, some (.logGap 1001 1)) := by decide +kernel
/-- Section 11.5: with the oldest at 1,009, READ LOG from cursor 1,000 answers GAP, lost 9, and leaves the cursor 1,020. -/
def late : State :=
  { reader 1000 with log := { ring := fullLog.ring.map fun r => { r with seq := r.seq + 9 }, next := 1521 } }
theorem test_read_log_gap : ((after (.readLog (say kindReadLog) 0) late).station 0).map (·.cursor) = some 1020 ∧
    (((after (.readLog (say kindReadLog) 0) late).port 0).reply.map fun r => match r.body with
      | .log lost first rs more => (r.status, lost, first, rs.length, more)
      | _ => (.ok, none, 0, 0, false)) = some (.gap, some 9, 1009, 11, true) := by decide +kernel
theorem test_seek_newest : said (.seekLog (say kindSeekLog) 1) late = some (.ok, .seek 1521 1009 1521) := by decide +kernel
theorem test_set_port_keeps_a_console : said (.setPort (say kindSetPort) 0 1 40 0) site = some (.state, .empty) := by
  decide +kernel
theorem test_set_port_is_pending : ((after (.setPort (say kindSetPort) 3 5 47 1) site).port 3) =
    { Port.cold with pending := ⟨.r230400, 47, true⟩ } := by decide +kernel
theorem test_restart_port_after_reply :
    ((after (.replySent 0 9) (after (.restartPort (say kindRestartPort) 3)
      (setPort 3 { Port.cold with pending := ⟨.r9600, 32, true⟩ } site))).port 3).current = ⟨.r9600, 32, true⟩ := by
  decide +kernel
theorem test_read_port_clears_flags :
    ((after (.readPort (say kindReadPort) 3) (setPortFlag 3 .runt site)).port 3).flags = PortFlags.clear := by decide +kernel

/-! ## Sources (section 1.9) -/

def hiredAt : Source := { runs with hire := some { hire with rate := 37550 }, hireAcc := 22492450 }
/-- The tick ending second 36,899: 600 ticks accrued, 6,258 closed and 1,200 carried. -/
def lastTick : State :=
  site |> setSource 6 hiredAt |>
    setClock { time := 36899, minutes := 15, pendingMinutes := none, index := 40, serial := 1, start := 36000,
               nextBoundary := 36900, ticks := 899 }
theorem test_hire_closes : let r := (after (.secondTick ⟨false, false⟩ 0) lastTick).source 6
    r.lastClosed = 6258 ∧ r.hireAcc = 1200 ∧ r.runSeconds = 1 := by decide +kernel
theorem test_hire_source : ((after (.hireSource (say kindHireSource) 16 500 ⟨60, 380, 680, 1000, 1300⟩ 24000 1 0 0) site).source 15) =
    { Source.cold with
      state := .stopped, stale := true, hire := some ⟨500, ⟨60, 380, 680, 1000, 1300⟩, 24000, true, 800, 10⟩ } := by decide +kernel
theorem test_hire_below_rating_range :
    said (.hireSource (say kindHireSource) 16 19 ⟨60, 380, 680, 1000, 1300⟩ 24000 1 0 0) site = some (.range, .empty) := by
  decide +kernel
theorem test_off_hire_of_a_feeding_source : said (.offHireSource (say kindOffHireSource) 1) site = some (.state, .empty) := by
  decide +kernel
theorem test_off_hire : logged (after (.offHireSource (say kindOffHireSource) 7)
    (setSource 6 { hiredAt with runSeconds := 1950, hireAcc := 16900500 } site)) =
      some (.sourceOffHire, some 7, some 1950, some 4694) := by decide +kernel
/-- R7: a load above twice the rating is held there, and the reply says so. -/
theorem test_report_clamps_load :
    said (.sourceReport (say kindSourceReport) 1 1 801 229 50000 360 0) site = some (.ok, .clamps true false false false) ∧
      ((after (.sourceReport (say kindSourceReport) 1 1 801 229 50000 360 0) site).source 0).telemetry.map (·.load) =
        some 800 := by decide +kernel
theorem test_stale_source_is_logged : logged (after (.sourceStale 0) site) = some (.sourceStale, some 1, some 180, some 50000) := by
  decide +kernel
theorem test_read_unlisted_source : said (.readSource (say kindReadSource) 16) site = some (.unknown, .empty) := by
  decide +kernel

/-! ## Supplies and transfers (sections 2.11, 2.12, 3.14, 3.15) -/

theorem test_trip_of_a_live_supply : let t := after (.supplyTrip 0) (lines dim (fed 1 false))
    (t.supply 0).state = .tripped ∧ (t.supply 0).closed = some .a ∧ (t.supply 0).record = none ∧ t.now = 360000 ∧
      logged t = some (.supplyTrip, some 1, some 0, some 1) := by decide +kernel
/-- Auto-restore: the request (AUTO, BEST, 7) to the one source left, which another transfer claims, is refused
NO_ALTERNATIVE, and the supply waits. -/
theorem test_trip_waits_for_a_restore :
    let t := after (.supplyTrip 0) (modSupply 0 (fun r => { r with autoRestore := true })
      (setSource 1 { runs with claim := some 211 } (lines dim (fed 1 false))))
    (t.supply 0).restoreWaiting = true ∧ (t.supply 0).lastRestore = some .noAlternative := by decide +kernel
/-- Section 2.12: supply 1 found open on A and closed on B in PARALLEL_OPEN: ticket INTERRUPTED, LIVE on B, source 2. -/
def found12 : Found := { Found.quiet with aux := upd Found.quiet.aux 0 ⟨false, true, false⟩ }
theorem test_warm_restart_in_parallel_open :
    let t := after (.warmRestart ⟨false, false, true, true⟩ 50 7 found12) (moving (move .parallelOpen))
    ((t.slot 0).bind (·.result) = some .interrupted) ∧ (t.supply 0).state = .live ∧ (t.supply 0).closed = some .b ∧
      (t.supply 0).record = some 1 ∧ t.stl.clock.time = 7 := by decide +kernel
theorem test_cold_start_wins : ((after (.coldStart ⟨true, true, false, true⟩ 50 Found.quiet) site).supply 0).state = .undefined := by
  decide +kernel
theorem test_define_supply : said (.defineSupply (say kindDefineSupply) 2 ⟨some 1, some 2, none⟩ (some 0) true false defaults) site =
    some (.ok, .empty) ∧
    ((after (.defineSupply (say kindDefineSupply) 2 ⟨some 1, some 2, none⟩ (some 0) true false defaults) site).supply 1).state =
      .dark := by decide +kernel
theorem test_define_supply_home_unassigned :
    said (.defineSupply (say kindDefineSupply) 2 ⟨some 1, some 2, none⟩ (some 2) true false defaults) site =
      some (.range, .empty) := by decide +kernel
/-- R23: a period of 14,286 us gives voltage; one of 25,001 us takes it. -/
theorem test_crossing_qualifies : ((after (.senseCrossing 0 .a 14286) site).input 0 .a).voltage = true ∧
    ((after (.senseCrossing 0 .a 25001) site).input 0 .a).voltage = false := by decide +kernel
theorem test_voltage_loss_after_60_ms : let r := (after (.voltageLossTimeout 0 .a) site).input 0 .a
    r.voltage = false ∧ r.absentSince = some 60 := by decide +kernel
theorem test_uncommanded_open : let t := after (.auxChange 0 .a false 5) site
    (t.supply 0).state = .fault ∧ logged t = some (.uncommanded, some 1, some 0, some 0) := by decide +kernel
theorem test_clear_fault_derives : ((after (.clearFault (say kindClearFault) 1)
    (changed fun r => { r with state := .fault, closed := none, record := none })).supply 0).closed = some .a := by decide +kernel
theorem test_show_hold_of_a_stage : ((after (.setShowHold (ask stage kindSetShowHold) false 1) site).supply 0).showHold = true := by
  decide +kernel
theorem test_show_hold_of_another_supply : ((after (.setShowHold (ask stage kindSetShowHold) false 2) site).port 1).reply.map
    (·.status) = some .denied := by decide +kernel
theorem test_clear_show_hold_all : ((after (.clearShowHold (say kindClearShowHold) 0)
    (changed fun r => { r with showHold := true })).supply 0).showHold = false := by decide +kernel
theorem test_read_undefined_supply : (said (.readSupply (say kindReadSupply) 12) site).map (·.1) = some .ok := by decide +kernel

/-- Section 3.14: TRANSFER of supply 1 to B, BREAK, priority 5, the counter at 305. -/
def start14 : State := setCounter 305 site
def s14 : State := after (.transfer (say kindTransfer) 1 1 0 5) start14
theorem test_break_transfer_accepted : said (.transfer (say kindTransfer) 1 1 0 5) start14 =
    some (.accepted, .accepted 305 .b .break) ∧ (s14.slot 0).map (·.phase) = some .opening ∧
    (s14.input 0 .a).openPulse = some 100 ∧ (s14.input 0 .a).window.map (·.ends) = some 400 ∧
    (s14.source 1).claim = some 305 ∧ s14.xfr.counter = 306 := by decide +kernel
def s14b : State := freed 0 (after (.auxChange 0 .a false 170000) s14)
theorem test_opening_confirmed_starts_the_dead_time : (s14b.slot 0).map (fun t => (t.phase, t.phaseTimer)) =
    some (.dead, some 3170) ∧ (s14b.supply 0).closed = none ∧ (s14b.supply 0).record = none := by decide +kernel
def s14c : State := after (.abortTransfer { say kindAbortTransfer with t := 1400000 } 1 305) s14b
theorem test_abort_in_dead_recloses : (s14c.slot 0).map (fun t => (t.phase, t.pendingResult)) = some (.reclose, some .aborted) ∧
    (s14c.input 0 .a).closePulse = some 1500 ∧ (s14c.input 0 .a).window.map (·.ends) = some 1800 := by decide +kernel
theorem test_reclose_ends_aborted : let t := after (.auxChange 0 .a true 1560000) s14c
    (t.slot 0).bind (·.result) = some .aborted ∧ (t.source 1).claim = none ∧ (t.supply 0).state = .live ∧
      (t.supply 0).record = some 0 ∧ logged t = some (.transferEnd, some 305, some 1, some 2) := by decide +kernel
theorem test_dead_time_enters_closing : let t := after (.deadTimeExpiry 0) s14b
    (t.slot 0).map (·.phase) = some .closing ∧ t.now = 3170000 ∧ (t.input 0 .b).closePulse = some 3270 := by decide +kernel
theorem test_abort_in_closing_is_late :
    said (.abortTransfer (say kindAbortTransfer) 1 305) (after (.deadTimeExpiry 0) s14b) = some (.late, .empty) := by
  decide +kernel
theorem test_open_confirm_timeout_fails_open : let t := after (.confirmTimeout 0 .a) s14
    (t.slot 0).bind (·.result) = some .failOpen ∧ (t.input 0 .a).faulted = true ∧ t.now = 400000 := by decide +kernel
theorem test_pulse_ends : ((after (.pulseEnd 0 .a .toOpen) s14).input 0 .a).openPulse = none := by decide +kernel

/-- Section 3.15: a CLOSED transfer takes a free channel at once, and fails open at the overlap limit. -/
def s15 : State := after (.transfer (say kindTransfer) 1 1 1 5) (setCounter 318 site)
theorem test_closed_transfer_is_granted : (s15.slot 0).map (fun t => (t.phase, t.syncChannel, t.syncTimer)) =
    some (.sync, some 0, some 30000) := by decide +kernel
def s15b : State := { modSource 0 id s15 with now := 4200000 } |> setSync 0 { s15.sync 0 with state := .inStep }
def s15c : State := after (.auxChange 0 .b true 4290000) (after (.inStepReport 0) s15b)
theorem test_in_step_closes_the_target : let t := after (.inStepReport 0) s15b
    (t.slot 0).map (·.phase) = some .parallelClose ∧ (t.input 0 .b).closePulse = some 4300 ∧
      (t.input 0 .b).window.map (·.ends) = some 4600 ∧ (t.sync 0).state = .free := by decide +kernel
theorem test_target_closed_opens_the_origin : (s15c.slot 0).map (fun t => (t.phase, t.phaseTimer)) =
    some (.parallelOpen, some 4440) ∧ (s15c.input 0 .a).openPulse = some 4390 ∧ (s15c.supply 0).closed = some .a := by
  decide +kernel
/-- R25: the dead time closes B with A open; the in-step report closes B with A closed. -/
theorem witness_PulsesKeepTheClosingLaw_steps :
    (let t := after (.deadTimeExpiry 0) s14b
     exec (.deadTimeExpiry 0) s14b = .next t ∧ (t.input 0 .b).closePulse ≠ none ∧
       (t.input 0 .b).closePulse ≠ (s14b.input 0 .b).closePulse ∧ (t.input 0 .a).aux = false) ∧
    (let t := after (.inStepReport 0) s15b
     exec (.inStepReport 0) s15b = .next t ∧ (t.input 0 .b).closePulse ≠ none ∧
       (t.input 0 .b).closePulse ≠ (s15b.input 0 .b).closePulse ∧ (t.input 0 .a).aux = true) := by
  refine ⟨⟨goes_after ?_, ?_⟩, ⟨goes_after ?_, ?_⟩⟩ <;> decide +kernel
theorem test_overlap_limit_opens_the_target : let t := after (.overlapExpiry 0) s15c
    (t.input 0 .a).faulted = true ∧ (t.input 0 .b).openPulse = some 4540 ∧
      logged t = some (.inputFault, some 1, some 0, some 1) ∧ t.now = 4440000 := by decide +kernel
theorem test_target_open_ends_fail_open : let t := after (.auxChange 0 .b false 4530000) (after (.overlapExpiry 0) s15c)
    (t.slot 0).bind (·.result) = some .failOpen ∧ (t.supply 0).state = .live ∧ (t.supply 0).closed = some .a ∧
      (t.input 0 .a).window = none ∧ logged t = some (.transferEnd, some 318, some 1, some 3) := by decide +kernel
/-- Had A opened at 4,400 ms: SETTLE until 9,400 ms, then DONE. -/
theorem test_settle_ends_done : let u := after (.auxChange 0 .a false 4400000) s15c
    (u.slot 0).map (fun t => (t.phase, t.phaseTimer)) = some (.settle, some 9400) ∧
      ((after (.settleTimeExpiry 0) u).slot 0).bind (·.result) = some .done := by decide +kernel
/-- R42 step 5, R46: an UNLOAD at priority 4 pre-empts a RETURN at 3 in SYNC, on to the claim that the RETURN held. -/
theorem test_unload_preempts_a_return : let s := moving { move .sync with priority := 3, originator := .returnHome 0 }
    let a := admitOrPreempt { asksB with priority := 4 } s
    a.val = .accepted 306 .b .closed ∧ (a.state.slot 0).map (fun t => (t.ticket, t.originator)) = some (306, .unload 0) ∧
      (a.state.source 1).claim = some 306 ∧ (a.state.supply 0).state = .transfer ∧
      logged a.state = some (.transferEnd, some 305, some 1, some (resultCode .aborted)) := by decide +kernel
/-- R59: a trip report that waits in the slot stands for the transfer that pre-empts. -/
theorem test_trip_report_survives_preemption :
    ((admitOrPreempt { asksB with priority := 7 } (moving (tripping .sync .a))).state.slot 0).map (·.tripReport) =
      some (some .a) := by decide +kernel
theorem test_trip_report_in_settle : ((after (.tripReport 0) (moving (tripping .settle .b))).slot 0).bind (·.result) =
    some .doneUnstable := by decide +kernel
theorem test_sync_timeout_falls_back : let t := after (.syncTimeout 0) (synced waiting)
    (t.slot 0).map (fun r => (r.phase, r.mode)) = some (.opening, .break) ∧ (t.sync 2).state = .free := by decide +kernel
theorem test_channel_grant : ((after (.channelGrant 0) (synced (move .syncWait))).slot 0).map (·.phase) = some .sync := by
  decide +kernel
theorem test_read_transfer_time_left : (match said (.readTransfer { say kindReadTransfer with t := 1400000 } 1) s14b with
    | some (.ok, .slot _ _ left _ _ _) => left
    | _ => none) = some 1770 := by decide +kernel

/-! ## Synchronism (sections 4.6 to 4.8) -/

theorem test_measurement : figures 20000 19980 300 229 231 = { slip := 50, phase := 54, volts := 8 } := by decide +kernel
theorem test_phase_behind : (figures 20000 19940 19400 230 234).phase = -98 ∧ (figures 20000 19940 560 230 234).phase = 101 := by
  decide +kernel
/-- Crossing 328: the fourth measurement in a row within the limits. -/
def nearly : SyncChan :=
  { SyncChan.cold with
    state := .measuring, ticket := some 420, supply := some 0, origin := some .a, target := some .b,
    originSource := some 0, targetSource := some 1, originCount := 8, targetCount := 8, lastCrossing := some 1000000,
    lastPeriod := some 19940, run := 3 }
def volts : State := setSource 0 { runs with telemetry := some { tele with voltage := 230 } }
  (setSource 1 { runs with telemetry := some { tele with voltage := 234 } } site)
theorem test_fourth_in_a_row_is_in_step : let k := channelCrossing volts 0 .a 1019580 20000 nearly
    k.state = .inStep ∧ k.last = some (some { slip := 150, phase := -65, volts := 17 }) := by decide +kernel
theorem test_noise_breaks_the_target_count : (channelCrossing volts 0 .b 1005000 5000 nearly).targetCount = 0 := by
  decide +kernel
/-- Section 4.8: a released channel goes to the head of the queue, with fresh counts. -/
def five : State :=
  List.foldl (fun s c => setSync c { nearly with ticket := some (c.1 + 1), supply := some 5 } s) site (indices 4) |>
    setSlot 7 (some { move .syncWait with ticket := 501 }) |> setQueue [⟨501, 7⟩, ⟨502, 10⟩]
theorem test_release_serves_the_queue : let t := releaseChannel 3 five
    (t.sync 2).ticket = some 501 ∧ (t.sync 2).originCount = 0 ∧ t.syn.queue = [⟨502, 10⟩] := by decide +kernel
theorem test_set_sync_limits : let t := after (.setSyncLimits (say kindSetSyncLimits) none (some 200) none none) (setSync 1 nearly site)
    t.syn.limits = ⟨200, 200, 50, 30⟩ ∧ (t.sync 1).run = 0 := by decide +kernel

/-! ## Tanks (sections 5.10 to 5.12) -/

def curve5 : Curve := ⟨60, 380, 680, 1000, 1300⟩
theorem test_burn_rates : [0, 125, 310, 500, 620, 1000].map (burnRate curve5 500) = [60, 380, 833, 1300, 1588, 1600] := by
  decide +kernel
/-- The boundary of interval 61: 735,300 in the accumulator closes 204 dL and carries 900. -/
def tank3 : Tank :=
  { tank with capacity := some 12000, book := some 4200, acc := 735300, mark := 735300, lastRate := 833, estimated := true }
theorem test_burn_closes : let k := ((takeBoundary 900 (setTankRec 3 tank3 site)).tank 3)
    k.book = some 3996 ∧ k.acc = 900 ∧ k.closedBurn = 204 ∧ k.lastEstimated = true ∧ k.estimated = false := by decide +kernel
theorem test_set_tank : said (.setTank (say kindSetTank) 1 12000 200 3850) (setTankRec 0 { tank3 with acc := 375750 } site) =
    some (.ok, .tankSet 3954 3850 false) := by decide +kernel
theorem test_minutes_to_dry : minutesToDry { tank3 with acc := 900 } = some 288 := by decide
theorem test_variance : tankVariance { tank3 with acc := 900 }
    { runs with telemetry := some { tele with gauge := 330 } } = some 240 := by decide
/-- Section 5.12: the next boundary finds 155 dL burned and a book of 25: held at 0, DRY raised to the FUEL station. -/
theorem test_tank_runs_dry : let t := takeBoundary 900 (setTankRec 13 { tank with book := some 25, acc := 558000 } site)
    (t.tank 13).book = some 0 ∧ (t.tank 13).dry = true ∧ (t.tank 13).closedBurn = 155 ∧
      (t.station 2).map (fun st => look st.flags 6) = some (some (.sourceAlert 13 .dry)) ∧
      (t.station 3).map (fun st => look st.flags 6) = some none := by decide +kernel
theorem test_set_price : said (.setFuelPrice (say kindSetFuelPrice) 185) site = some (.ok, .price 0 185) := by decide +kernel
/-- R87: an OFF_HIRE source's tank is read with a last rate of 0, and so shows 65,535 minutes while it holds fuel (R85). -/
theorem test_read_tank_off_hire : (match said (.readTank (say kindReadTank) 1) (setTankRec 0 tank3 (setSource 0 off site)) with
    | some (.ok, .tank k _ _ _ _ minutes _ _ _) => some (k.lastRate, minutes)
    | _ => none) = some (0, some 65535) := by decide +kernel
theorem test_read_tank : (match said (.readTank (say kindReadTank) 1) site with
    | some (.ok, .tank _ level gauge _ v _ _ _ _) => (level, gauge, v)
    | _ => (none, none, none)) = (some 3700, some 3600, some 100) := by decide +kernel

/-! ## Deliveries (sections 6.10, 6.11) -/

/-- Source 1 feeds supply 1, which can move to source 2: WAITING_UNLOAD with its unload in flight. -/
def armed10 : State := after (.armDelivery (say kindArmDelivery) 1 7731 3000 118400 none none none) (setCounter 600 site)
theorem test_cold_arming_asks_for_the_unload : (armed10.delivery 0).map (fun r => (r.state, r.unloads, r.tolerancePm)) =
    some (.waitingUnload, [⟨0, .inFlight 600⟩], 20) ∧ (armed10.source 0).reservation = some 0 ∧
    (armed10.supply 0).state = .transfer := by decide +kernel
theorem test_arm_delivery_answers_room : said (.armDelivery (say kindArmDelivery) 1 7731 6301 118400 none none none) site =
    some (.ok, .armed 0 .waitingUnload 6300 true) := by decide +kernel
theorem test_survey_grants_refuel : let t := after (.unloadSurveyTimer 0) (setDelivery 0 (some { unloading with source := 4 })
      (setSource 4 { runs with reservation := some 0 } site))
    (t.source 4).state = .refuel ∧ (t.delivery 0).map (fun r => (r.state, r.surveyTimer)) = some (.armed, none) := by
  decide +kernel
theorem test_fill_opens_the_delivery : let t := after (.fillPointClose 0 5) bowser
    (t.delivery 0).map (fun r => (r.state, r.gaugeAtOpen)) = some (.opened, some (some 3600)) ∧
      logged t = some (.deliveryOpen, some 1, some 7731, some 3600) := by decide +kernel
theorem test_restart_finds_the_fill_closed :
    ((after (.fillPointRestartCheck 0 true 5) (filling job false true)).delivery 0).map (·.state) = some .opened := by
  decide +kernel
theorem test_meter_reading : said (.meterReading (say kindMeterReading) 7731 120100)
    (filling { job with state := .opened } true false) = some (.ok, .metered 1700) := by decide +kernel
/-- The reconciliation of section 6.10, 320 s of idling at 135 dL/h in the mark. -/
def closed10 : State := after (.closeDelivery (say kindCloseDelivery) 7731 121400) dipped
theorem test_reconciliation : said (.closeDelivery (say kindCloseDelivery) 7731 121400) dipped =
    some (.ok, .closed .closed false false false false (some 3000) (some (-38)) (some 80) (some 3000)) ∧
    (closed10.tank 0).book = some 6700 ∧ (closed10.source 0).state = .running ∧ closed10.delivery 0 = none := by decide +kernel
theorem test_finish_timer_closes_at_the_last_register : let t := after (.finishTimerExpiry 0) dipped
    (t.lastEnded 0).map (fun r => (r.state, r.metered, r.autoClosed)) = some (.disputed, some 1700, true) := by decide +kernel
theorem test_unarmed_fill : let t := after (.fillPointClose 1 5) (setTankRec 1 { tank with capacity := some 8000, mark := 9000000 }
      (setSource 1 { runs with telemetry := some { tele with gauge := 300 } } site))
    logged t = some (.unarmedFill, some 2, some 2400, some 0) ∧
      (t.delivery 0).map (fun r => (r.state, r.unarmed, r.markAtOpen)) = some (.opened, true, some 9000000) := by decide +kernel
theorem test_unarmed_fill_credits_gauge_and_burn : let t := after (.fillPointOpen 0 5) spilled
    (t.lastEnded 0).map (fun r => (r.state, r.burnDuring, r.gaugeRise, r.credit)) =
      some (.closedUnarmed, some 90, some 2400, some 2490) ∧ (t.tank 0).book = some 6190 ∧ t.delivery 3 = none := by
  decide +kernel
theorem test_cancel_delivery : (after (.cancelDelivery (say kindCancelDelivery) 7731) bowser).delivery 0 = none := by
  decide +kernel
theorem test_arm_expiry : ((after (.armExpiry 0) bowser).lastEnded 0).map (·.state) = some .expired := by decide +kernel
theorem test_return_attempt : let t := after (.returnAttemptTimer 0) home
    t.dlv.returns.map (·.ticket) = [some 1] ∧ (t.slot 0).map (·.originator) = some (.returnHome 0) := by decide +kernel
theorem test_return_window_abandons : let t := after (.returnWindowExpiry 0) home
    t.dlv.returns = [] ∧ logged t = some (.returnAbandoned, some 1, some 1, none) := by decide +kernel
theorem test_read_delivery : (match said (.readDelivery (say kindReadDelivery) 1) bowser with
    | some (.ok, .delivery (some r) left none [] false) => (r.reference, left)
    | _ => (none, none)) = (some 7731, some 900000) := by decide +kernel

/-! ## Metering (sections 7.9, 7.10) -/

def at9 (c : Chan → Chan) : State := site |> modChan 0 c
/-- The pulse high from 60 to 100 ms is counted for account 5 in column 1; a spike of 3 ms is noise. -/
theorem test_pulse_counts : let t := after (.meterFallingEdge 0 100000) (at9 fun r => { r with line := true, pulseStart := some 60 })
    (t.chan 0).energy = 10 ∧ (t.chan 0).bins.head? = some 1 ∧ cell t.mtr.matrix 5 0 = 10 ∧ cell t.mtr.matrix 5 16 = 0 := by
  decide +kernel
theorem test_spike_is_noise : let r := (after (.meterFallingEdge 0 823000)
      (at9 fun r => { r with line := true, pulseStart := some 820 })).chan 0
    r.noise = true ∧ r.discarded = 1 ∧ r.energy = 0 := by decide +kernel
/-- 37 ms after the spike's fall a rise starts a pulse; 10 ms after it, it does not. -/
theorem test_rise_after_the_spike :
    ((after (.meterRisingEdge 0 860000) (at9 fun r => { r with lastFall := some 823 })).chan 0).pulseStart = some 860 ∧
    ((after (.meterRisingEdge 0 860000) (at9 fun r => { r with lastFall := some 850 })).chan 0).discardMark = true := by
  decide +kernel
theorem test_demand : chanDemand { meter with bins := List.replicate 60 5 } = 180 ∧
    chanDemand { meter with bins := 4 :: List.replicate 59 5 } = 179 := by decide +kernel
/-- The stall changes hands at the same Wh per pulse: the bins and the interval energy stay. -/
theorem test_channel_changes_account : let r := (after (.defineChannel (say kindDefineChannel) 0 (some 1) (some 7) 10 none)
      (setChan 0 { meter with bins := List.replicate 60 5, energy := 41200 } books)).chan 0
    r.account = some 7 ∧ r.energy = 41200 ∧ r.bins = List.replicate 60 5 := by decide +kernel
theorem test_read_channel_of_another_supply : ((after (.readChannel (ask stage kindReadChannel) 23) site).port 1).reply.map
    (·.status) = some .denied := by decide +kernel

/-! ## The clock, settlement and billing (sections 8.8 to 8.11) -/

def clock40 : Clock :=
  { time := 36500, minutes := 15, pendingMinutes := none, index := 40, serial := 1207, start := 36000, nextBoundary := 36900,
    ticks := 500 }
theorem test_set_time_back : (after (.setTime (say kindSetTime) false 35950) (setClock { clock40 with time := 36300, ticks := 600 } site)).stl.clock
    = { clock40 with time := 35950, nextBoundary := 36000, ticks := 600 } := by decide +kernel
theorem test_set_time_past_the_boundary :
    let t := after (.setTime (say kindSetTime) false 40000) (setClock { clock40 with time := 36300, serial := 1208, ticks := 300 } site)
    t.stl.clock = { clock40 with time := 40000, index := 44, serial := 1209, start := 40000, nextBoundary := 40500, ticks := 0 } ∧
      t.stl.records.map (fun r => (r.serial, r.start, r.endTime, r.ticks)) = [(1208, 36000, 36300, 300)] := by decide +kernel
/-- Section 8.8: source 3 costs 44,480 at 185 a dL; accounts 5, 9 and 12 share it, and account 0 has the residue. -/
def matrix8 : Matrix :=
  let row (k : Nat) : Vector Nat 17 := upd (Vector.replicate 17 0) 2 k
  upd (upd (upd (Vector.replicate 48 (Vector.replicate 17 0)) 5 (row 51200)) 9 (row 17400)) 12 (row 8900)
def accounts8 : State :=
  setPrice 185 (setAccount 12 { Account.cold 12 with defined := true, bankA := { BankRec.zero with charge := 1000 } }
    (setAccount 9 { Account.cold 9 with defined := true } site))
def record8 : SettleRec :=
  { index := 60, serial := 1, start := 0, endTime := 900, ticks := 900,
    hire := some (upd (Vector.replicate 16 0) 2 6000), burn := some (upd (Vector.replicate 16 0) 2 208),
    matrix := some matrix8, dark := some (Vector.replicate 12 0) }
def settled8 : State := after .settlement (setRecords [record8] accounts8)
theorem test_settlement : [0, 5, 9, 12].map (fun a => (settled8.account a).lastCharge) = [1, 29385, 9986, 5108] ∧
    (settled8.account 12).bankA.charge = 6108 ∧ settled8.stl.records = [] ∧
    logged settled8 = some (.intervalSettled, some 60, some 44480, some 1) := by decide +kernel
/-- Section 8.9: three sources, the standby one wholly to account 0. -/
def matrix9 : Matrix :=
  let row (k l u : Nat) : Vector Nat 17 := upd (upd (upd (Vector.replicate 17 0) 2 k) 3 l) 16 u
  upd (upd (upd (Vector.replicate 48 (Vector.replicate 17 0)) 12 (row 61300 29700 200)) 20 (row 12100 5900 40)) 31 (row 0 45000 0)
def who9 (a : AccountNo) : Bool := a == 0 || a == 12 || a == 20 || a == 31
def costs9 (i : SourceNo) : Nat := if i = 2 then 33750 else if i = 3 then 42650 else if i = 8 then 9290 else 0
theorem test_settlement_of_three_sources :
    [0, 12, 20, 31].map (fun a => intervalCharge who9 matrix9 costs9 a) = [9292, 43901, 8685, 23812] ∧
    [12, 20, 31].map (fun a => intervalEnergy who9 matrix9 a) = [91000, 18000, 45000] ∧
    [12, 20, 31].map (fun a => intervalUnsourced who9 matrix9 a) = [200, 40, 0] := by decide +kernel
theorem test_close_period_is_taken_at_settlement : let t := after .settlement due
    t.stl.bankA = ⟨.frozen, some 0, some 172800⟩ ∧ t.stl.bankB = ⟨.active, some 172800, none⟩ ∧
      logged t = some (.periodClosed, some 0, some 0, some 172800) := by decide +kernel
theorem test_close_period_while_frozen : said (.closePeriod (say kindClosePeriod)) bankB = some (.bankFull, .empty) := by
  decide +kernel
def charged : Account := { Account.cold 12 with defined := true, bankA := { BankRec.zero with charge := 1946241 } }
theorem test_release_period : let t := after (.releasePeriod (say kindReleasePeriod)) (setAccount 12 charged bankB)
    (t.account 12).bankA = BankRec.zero ∧ t.stl.bankA = ⟨.released, none, none⟩ := by decide +kernel
theorem test_tick_takes_the_boundary : (after (.secondTick ⟨true, true⟩ 0) eve).stl.clock =
    { Clock.cold with time := 900, minutes := 5, index := 3, serial := 3, start := 900, nextBoundary := 1200 } := by
  decide +kernel
theorem test_set_interval : said (.setInterval (say kindSetInterval) 60) site = some (.ok, .interval 15 (some 60)) := by
  decide +kernel
theorem test_define_account : (after (.defineAccount (say kindDefineAccount) 47 1 77) site).account 47 =
    { Account.cold 47 with defined := true, reference := some 77 } := by decide +kernel
theorem test_remove_named_account : said (.removeAccount (say kindRemoveAccount) 5) site = some (.state, .empty) := by
  decide +kernel
theorem test_read_account_frozen_without_one : said (.readAccount (say kindReadAccount) 5 1) site = some (.state, .empty) := by
  decide +kernel
theorem test_read_settlement : (said (.readSettlement (say kindReadSettlement)) site).map (·.1) = some .ok := by decide +kernel

/-! ## Watches (section 9.8 and the note to R141) -/

def neg (n : Nat) : Word := BitVec.ofInt 32 (-(n : Int))
theorem test_lt_reads_signed : condHolds .lt (neg 35) (neg 20) = true ∧ condHolds .lt (neg 19) (neg 20) = false := by
  decide +kernel
/-- Section 9.8's entry 12 in a state, the variance given by the gauge: capacity 1000, a book of 500. -/
def variance (q : WatchState) (k : Nat) : Watch :=
  { Watch.cold with
    defined := true, armed := true, operand := some (.tankVariance 4), cond := .lt, threshold := neg 20, hysteresis := 10,
    persistence := 3, mask := 5, state := q, counter := k }
def reading (gauge : Nat) (q : WatchState) (k : Nat) : Watch × Option (LogKind × Option Nat × Option Nat × Option Nat) :=
  let t := sampleWatch (site |> setTankRec 4 { tank with capacity := some 1000, book := some 500 } |>
    setSource 4 { runs with telemetry := some { tele with gauge := gauge } } |> setWatch 12 (variance q k)) 12
  (t.watch 12, logged t)
/-- Sample 7: -35 for the third time fires and logs; samples 4, 8 and 11: -19 starts over, -15 holds, -10 releases. -/
theorem test_third_true_sample_fires : let r := reading 535 .pending 2
    r.1.state = .fired ∧ r.1.counter = 3 ∧ r.1.lastValue = some (neg 35) ∧
      r.2 = some (.watchFired, some 12, some 4294967261, some 4294967276) := by decide +kernel
theorem test_samples_move_the_entry : (reading 519 .pending 2).1.state = .idle ∧ (reading 515 .fired 3).1.state = .fired ∧
    (reading 510 .fired 3).1.state = .idle ∧ (reading 522 .idle 0).1.counter = 1 := by decide +kernel
theorem test_define_watch : (after (.defineWatch (say kindDefineWatch) 12 varianceReq) site).watch 12 =
    { variance .idle 0 with armed := false } := by decide +kernel
theorem test_arm_watches : said (.armWatches (say kindArmWatches) 0x80001000) (setWatch 12 { variance .idle 0 with armed := false } site) =
    some (.ok, .armedWatches 0x1000) := by decide +kernel
theorem test_disarm_watches : said (.disarmWatches (say kindDisarmWatches) 0x1000) (setWatch 12 (variance .fired 3) site) =
    some (.ok, .armedWatches 0) := by decide +kernel
theorem test_read_watch_of_a_fuel_station : ((after (.readWatch (ask fuel kindReadWatch) 12) site).port 1).reply.map (·.status) =
    some .denied := by decide +kernel

end Sys2Proof.Tests
end

section
/-! The starts of the part: which start a cause brings (R1). -/

namespace Sys2Proof.Machine

/-- The cold reset input prevails over everything asserted with it. -/
theorem startOf_of_coldInput {c : StartCause} (cold : c.coldInput = true) : startOf c = some .cold := by
  simp [startOf, cold]

/-- Without the cold reset input, the retained domain decides between the starts. -/
theorem startOf_of_powerUp_or_warmInput {c : StartCause} (cold : c.coldInput = false)
    (up : c.powerUp = true ∨ c.warmInput = true) :
    startOf c = some (if c.retainedKept then .warm else .cold) := by
  simp [startOf, cold, up]

theorem startOf_of_no_cause {c : StartCause} (cold : c.coldInput = false)
    (up : ¬ (c.powerUp = true ∨ c.warmInput = true)) : startOf c = none := by
  simp [startOf, cold, up]

/-- Settles O2: the three cases of R1 (the cold reset input, another cause, no cause) each fix the start, and the second
splits on whether the retained domain stayed supplied. -/
theorem startKindFollowsCause : Obligations.StartKindFollowsCause := by
  intro c
  have no_cause_iff : (c.powerUp = false ∧ c.warmInput = false) ↔ ¬ (c.powerUp = true ∨ c.warmInput = true) := by simp
  cases cold : c.coldInput with
  | true => simp [startOf_of_coldInput cold]
  | false =>
    by_cases up : c.powerUp = true ∨ c.warmInput = true
    · cases kept : c.retainedKept <;> simp [startOf_of_powerUp_or_warmInput cold up, kept, up, no_cause_iff]
    · simp [startOf_of_no_cause cold up, up, no_cause_iff]

end Sys2Proof.Machine
end

section
/-! HIRE SOURCE and OFF-HIRE SOURCE (R4, R5): the fields a hire carries, and what keeps a source on hire. -/

namespace Sys2Proof.Machine

@[simp] theorem mem_allInputs (x : Input) : x ∈ allInputs := by cases x <;> decide

@[simp] theorem flagOf?_bit (b : Bool) : flagOf? (if b then 1 else 0) = some b := by cases b <;> rfl

theorem onHire_iff (r : Source) :
    onHire r = true ↔ r.state = .stopped ∨ r.state = .running ∨ r.state = .refuel := by
  simp [onHire, or_assoc]

/-- A source on hire is neither UNLISTED nor OFF_HIRE, and every other one is. -/
theorem onHire_eq_false_iff (r : Source) : onHire r = false ↔ r.state = .unlisted ∨ r.state = .offHire := by
  cases e : r.state <;> simp [onHire, e]

theorem anyClosedOnto_iff (s : State) (i : SourceNo) :
    anyClosedOnto s i = true ↔ ∃ n x, (s.input n x).source = some i ∧ (s.input n x).aux = true := by
  simp [anyClosedOnto]

theorem activeOn_eq_none_iff (s : State) (i : SourceNo) :
    activeOn s i = none ↔ ∀ d r, s.delivery d = some r → r.source ≠ i := by
  simp only [activeOn, List.find?_eq_none, mem_indices, true_implies]
  refine forall_congr' fun d => ?_
  cases s.delivery d <;> simp

/-- R5 check 4, by its four grounds. -/
theorem offHireBlocked_iff (s : State) (i : SourceNo) :
    offHireBlocked s i = true ↔
      (∃ m x, (s.input m x).source = some i ∧ (s.input m x).aux = true) ∨ (s.source i).claim ≠ none ∨
        (s.source i).reservation ≠ none ∨ ∃ d r, s.delivery d = some r ∧ r.source = i := by
  have active : (activeOn s i).isSome = true ↔ ∃ d r, s.delivery d = some r ∧ r.source = i := by
    rw [← not_iff_not, Bool.not_eq_true, Option.isSome_eq_false_iff, Option.isNone_iff_eq_none, activeOn_eq_none_iff]
    simp
  simp only [offHireBlocked, Bool.or_eq_true, bne_iff_ne, anyClosedOnto_iff, active, or_assoc]

/-- R4 check 1: fields in range, with the defaults that a 0 selects. -/
theorem hireFields_of_ranges {rating limit stale : Nat} {curve : Curve} (rate : Nat) (hot : Bool)
    (low : 20 ≤ rating) (high : rating ≤ 2500) (rises01 : curve.r0 ≤ curve.r1) (rises12 : curve.r1 ≤ curve.r2)
    (rises23 : curve.r2 ≤ curve.r3) (rises34 : curve.r3 ≤ curve.r4)
    (limits : limit = 0 ∨ (500 ≤ limit ∧ limit ≤ 1000)) (stales : stale = 0 ∨ (2 ≤ stale ∧ stale ≤ 60)) :
    hireFields rating curve rate (if hot then 1 else 0) limit stale =
      some { rating := rating, curve := curve, rate := rate, hot := hot,
             loadingLimit := if limit = 0 then 800 else limit, staleTime := if stale = 0 then 10 else stale } := by
  have rises : nonDecreasing curve = true := by simp [nonDecreasing, rises01, rises12, rises23, rises34]
  rw [hireFields, if_pos ⟨low, high, rises, limits, stales⟩, flagOf?_bit]
  rfl

section
variable (m : StationNo) (st : Station) (s : State) (i : SourceNo)

theorem ownerHire_listed (h : Hire) (free : (s.source i).state = .unlisted ∨ (s.source i).state = .offHire) :
    ownerHire (numberOf i) (some h) m st s =
      ⟨logAppend .sourceHired (num i) (some h.rating) (some h.rate) (setSource i (hired h (s.source i)) s), .ok,
        .empty⟩ := by
  simp [ownerHire, (onHire_eq_false_iff _).mpr free, modSource]

theorem ownerHire_onHire (h : Hire) (on : onHire (s.source i) = true) :
    ownerHire (numberOf i) (some h) m st s = refuse .state s := by
  simp [ownerHire, on]

theorem ownerOffHire_unlisted (e : (s.source i).state = .unlisted) :
    ownerOffHire (numberOf i) m st s = refuse .unknown s := by
  simp [ownerOffHire, e]

theorem ownerOffHire_offHire (e : (s.source i).state = .offHire) :
    ownerOffHire (numberOf i) m st s = refuse .state s := by
  simp [ownerOffHire, e]

/-- R5: of a source on hire, check 4 decides. -/
theorem ownerOffHire_onHire (on : onHire (s.source i) = true) :
    ownerOffHire (numberOf i) m st s =
      if offHireBlocked s i then refuse .state s
      else ⟨logAppend .sourceOffHire (num i) (some (s.source i).runSeconds) (some (hireAccrued (s.source i)))
        (setSource i { s.source i with state := .offHire, staleTimer := none } s), .ok, .empty⟩ := by
  have states := (onHire_iff _).mp on
  have listed : (s.source i).state ≠ .unlisted := by rintro e; simp [e] at states
  have kept : (s.source i).state ≠ .offHire := by rintro e; simp [e] at states
  simp [ownerOffHire, listed, kept, modSource]

end

/-- What keeps a source on hire is read of the records that a request's hearing leaves alone. -/
theorem offHireBlocked_heard (rq : Request) (n : StationNo) (s : State) (i : SourceNo) :
    offHireBlocked (heard rq n s) i = offHireBlocked s i := rfl

/-- Settles O23: each request is handed to its owner, and the owner's answer is that of the source's state. -/
theorem sourcesAreHiredAndOffHired : Obligations.SourcesAreHiredAndOffHired := by
  intro rq n st s i
  refine ⟨fun taken rating rate limit stale hot curve low high c01 c12 c23 c34 limits stales => ?_, fun taken => ?_⟩
  · have fields := hireFields_of_ranges rate hot low high c01 c12 c23 c34 limits stales
    refine ⟨fun free => ?_, fun on => ?_⟩ <;>
      refine request_done _ _ _ _ n st s taken (fun _ => rfl) _ _ _ ?_ <;> rw [fields]
    · exact ownerHire_listed n _ _ i _ free
    · exact ownerHire_onHire n _ _ i _ on
  · have answered {u : State} {e : Status}
        (done : ownerOffHire (numberOf i) n (requester rq st s) (heard rq n s) = ⟨u, e, .empty⟩) :
        exec (.offHireSource rq (numberOf i)) s = replied rq kindOffHireSource n e .empty u :=
      request_done _ _ _ _ n st s taken (fun _ => rfl) _ _ _ done
    refine ⟨fun e => answered (ownerOffHire_unlisted n _ _ i e), fun e => answered (ownerOffHire_offHire n _ _ i e),
      fun on => ?_⟩
    have decided := ownerOffHire_onHire n (requester rq st s) (heard rq n s) i on
    rw [offHireBlocked_heard] at decided
    refine ⟨fun blocked => answered ?_, fun opened unclaimed unreserved inactive => answered ?_⟩
    · rw [decided, if_pos ((offHireBlocked_iff s i).mpr blocked)]
      rfl
    · have free : ¬ offHireBlocked s i = true := by
        rw [offHireBlocked_iff]
        rintro (⟨m, x, onto, closed⟩ | claimed | reserved | ⟨d, r, here, same⟩)
        · simp [opened m x onto] at closed
        · exact claimed unclaimed
        · exact reserved unreserved
        · exact inactive d r here same
      rw [decided, if_neg free]
      rfl

end Sys2Proof.Machine
end

section
/-! Numbers and fields outside their ranges (R166): an owner that finds one refuses the request with RANGE, before any
other check of its own. One lemma for each owner and for each reading of carried fields. -/

namespace Sys2Proof.Machine

/-! ## Numbers -/

theorem index?_eq_none_iff {n k : Nat} : index? n k = none ↔ n ≤ k := by simp [index?]

theorem number?_eq_none_iff {n k : Nat} : number? n k = none ↔ k = 0 ∨ n < k := by
  unfold number?
  split
  · simp [*]
  · rw [index?_eq_none_iff]; omega

theorem inputOf?_eq_some_iff {k : Nat} {x : Input} : inputOf? k = some x ↔ inputCode x = k := by
  match k with
  | 0 | 1 | 2 => cases x <;> simp [inputOf?, inputCode]
  | k + 3 => cases x <;> simp [inputOf?, inputCode]

theorem targetOf?_eq_none {k : Nat} (h : 3 < k) : targetOf? k = none := by unfold targetOf?; split <;> simp_all

theorem modeReqOf?_eq_none {k : Nat} (h : 2 < k) : modeReqOf? k = none := by unfold modeReqOf?; split <;> simp_all

theorem roleOf?_eq_none {k : Nat} (h : 3 < k) : roleOf? k = none := by unfold roleOf?; split <;> simp_all

theorem rateOf?_eq_none {k : Nat} (h : 5 < k) : rateOf? k = none := by unfold rateOf?; split <;> simp_all

theorem flagOf?_eq_none {k : Nat} (h : 1 < k) : flagOf? k = none := by unfold flagOf?; split <;> simp_all

theorem referenceOf_eq_none {present : Nat} (h : 1 < present) (reference : Nat) : referenceOf present reference = none := by
  unfold referenceOf
  split <;> simp_all

/-! ## Fields -/

/-- R4 check 1. -/
theorem hireFields_eq_none {rating rate hot limit stale : Nat} {c : Curve}
    (h : rating < 20 ∨ 2500 < rating ∨ c.r1 < c.r0 ∨ c.r2 < c.r1 ∨ c.r3 < c.r2 ∨ c.r4 < c.r3 ∨ 1 < hot ∨
      (limit ≠ 0 ∧ (limit < 500 ∨ 1000 < limit)) ∨ (stale ≠ 0 ∧ (stale < 2 ∨ 60 < stale))) :
    hireFields rating c rate hot limit stale = none := by
  unfold hireFields
  split
  · rename_i ok
    obtain ⟨low, high, rises, limits, stales⟩ := ok
    simp only [nonDecreasing, Bool.and_eq_true, decide_eq_true_eq] at rises
    rw [flagOf?_eq_none (by omega), Option.map_none]
  · rfl

theorem armFields_eq_none {source : Nat} (h : number? 16 source = none) (reference expected register : Nat)
    (expiry finish tolerance : Option Nat) :
    armFields source reference expected register expiry finish tolerance = none := by
  simp [armFields, h]

theorem setting_eq_none {low high default v : Nat} (h : v < low ∨ high < v) : setting low high default (some v) = none := by
  simp [setting]; omega

/-- R21 check 1: one timing setting out of its range. -/
theorem timingFields_eq_none {q : TimingReq}
    (h : (∃ v, q.deadTime = some v ∧ 10000 < v) ∨ (∃ v, q.confirm = some v ∧ (v < 100 ∨ 2000 < v)) ∨
      (∃ v, q.tripConfirm = some v ∧ (v < 100 ∨ 2000 < v)) ∨ (∃ v, q.overlap = some v ∧ (v < 40 ∨ 500 < v)) ∨
      (∃ v, q.settleTime = some v ∧ (v < 2 ∨ 30 < v)) ∨ (∃ v, q.settleWindow = some v ∧ (v < 200 ∨ 5000 < v))) :
    timingFields q = none := by
  unfold timingFields
  rcases h with ⟨v, e, r⟩ | ⟨v, e, r⟩ | ⟨v, e, r⟩ | ⟨v, e, r⟩ | ⟨v, e, r⟩ | ⟨v, e, r⟩ <;> rw [e]
  · simp [setting_eq_none (low := 0) (default := Config.deadTime) (.inr r)]
  all_goals simp [setting_eq_none r]

theorem sourceField_eq_none {v : Nat} (h : v = 0 ∨ 16 < v) : sourceField (some v) = none := by
  simp [sourceField, number?_eq_none_iff.mpr h]

theorem sourceFields_eq_none {q : Abc (Option Nat)} {x : Input} {v : Nat} (e : q.get x = some v)
    (h : v = 0 ∨ 16 < v) : sourceFields q = none := by
  have bad := sourceField_eq_none h
  cases x <;> simp only [Abc.get] at e <;> simp [sourceFields, e, bad]

/-- An input that carries no source is read as one. -/
theorem sourceFields_get_none {q : Abc (Option Nat)} {r : Abc (Option SourceNo)} (e : sourceFields q = some r)
    {x : Input} (h : q.get x = none) : r.get x = none := by
  unfold sourceFields at e
  split at e
  · rename_i a b c ha hb hc
    obtain rfl := Option.some.inj e
    cases x <;> simp only [Abc.get] at h ⊢ <;> simp_all [sourceField]
  · cases e

/-- R21 check 1: a home that names no input, or one without a source. -/
theorem homeField_eq_none {q : Abc (Option SourceNo)} {v : Nat} (h : ∀ x, inputCode x = v → q.get x = none) :
    homeField q (some v) = none := by
  cases e : inputOf? v with
  | none => simp [homeField, e]
  | some x => simp [homeField, e, h x (inputOf?_eq_some_iff.mp e)]

/-- R21 check 1. -/
theorem supplyFields_eq_none {q : Abc (Option Nat)} {home : Option Nat} {tq : TimingReq} (auto back : Bool)
    (h : sourceFields q = none ∨ timingFields tq = none ∨
      ∃ v, home = some v ∧ ∀ x, inputCode x = v → q.get x = none) : supplyFields q home auto back tq = none := by
  unfold supplyFields
  split
  · rename_i r t sources timing
    obtain ⟨v, rfl, unsourced⟩ : ∃ v, home = some v ∧ ∀ x, inputCode x = v → q.get x = none := by
      simpa [sources, timing] using h
    rw [homeField_eq_none fun x e => sourceFields_get_none sources (unsourced x e), Option.map_none]
  · rfl

/-- R42 step 2. -/
theorem stationAsk_eq_none {supply target mode priority : Nat} {n : StationNo}
    (h : number? 12 supply = none ∨ 3 < target ∨ 2 < mode ∨ 7 < priority) :
    stationAsk supply target mode priority n = none := by
  unfold stationAsk
  split
  · rename_i m x r number input kind
    have known : ¬ 3 < target := fun g => by simp [targetOf?_eq_none g] at input
    have given : ¬ 2 < mode := fun g => by simp [modeReqOf?_eq_none g] at kind
    rw [if_neg]
    simp only [number, reduceCtorEq, false_or] at h
    omega
  · rfl

/-- R109 check 1. -/
theorem channelFields_eq_none {m : Option Nat} {account wh : Nat} {width : Option Nat}
    (h : (∃ v, m = some v ∧ (v = 0 ∨ 12 < v)) ∨ 48 ≤ account ∨ wh = 0 ∨ 1000 < wh ∨
      ∃ v, width = some v ∧ (v < 5 ∨ 100 < v)) : channelFields m account wh width = none := by
  unfold channelFields
  split
  · rename_i supply a named owned
    have inRange : ¬ ∃ v, m = some v ∧ (v = 0 ∨ 12 < v) := by
      rintro ⟨v, rfl, r⟩
      simp [optionalNumber, number?_eq_none_iff.mpr r] at named
    have listed : ¬ 48 ≤ account := fun r => by simp [index?_eq_none_iff.mpr r] at owned
    rw [if_neg]
    rcases h with h | h | h | h | ⟨v, rfl, h⟩
    · exact absurd h inRange
    · exact absurd h listed
    · omega
    · omega
    · simp only [Option.getD_some]; omega
  · rfl

/-- R154. -/
theorem portFields_eq_none {rate address e : Nat} (h : 5 < rate ∨ address < 32 ∨ 47 < address ∨ 1 < e) :
    portFields rate address e = none := by
  unfold portFields
  split
  · rename_i r b known flag
    have rated : ¬ 5 < rate := fun g => by simp [rateOf?_eq_none g] at known
    have flagged : ¬ 1 < e := fun g => by simp [flagOf?_eq_none g] at flag
    rw [if_neg]
    omega
  · rfl

/-- R158. -/
theorem enrolFields_eq_none {port address role : Nat} {m : Option Nat}
    (h : 4 ≤ port ∨ address = 0 ∨ 31 < address ∨ 3 < role ∨
      (role = 3 ∧ (m = none ∨ ∃ v, m = some v ∧ (v = 0 ∨ 12 < v)))) : enrolFields port address role m = none := by
  unfold enrolFields
  split
  · rfl
  · rename_i addressed
    rcases h with h | h | h | h | ⟨rfl, rfl | ⟨v, rfl, r⟩⟩
    · simp [index?_eq_none_iff.mpr h]
    · exact absurd (.inl h) addressed
    · exact absurd (.inr h) addressed
    · simp [roleOf?_eq_none h]
    · cases index? 4 port <;> rfl
    · have bad : number? 12 v = none := number?_eq_none_iff.mpr r
      cases index? 4 port <;> simp [roleOf?, bad]

/-! ## Owners -/

section
variable (m : StationNo) (st : Station) (s : State)

theorem ownerHire_range {k : Nat} {f : Option Hire} (h : number? 16 k = none ∨ f = none) :
    ownerHire k f m st s = refuse .range s := by
  unfold ownerHire
  split <;> simp_all

theorem ownerOffHire_range {k : Nat} (h : number? 16 k = none) : ownerOffHire k m st s = refuse .range s := by
  simp [ownerOffHire, h]

theorem ownerReport_range {k run : Nat} (h : number? 16 k = none ∨ 1 < run) (load volts freq gauge : Nat)
    (alarms : BitVec 8) : ownerReport k run load volts freq gauge alarms m st s = refuse .range s := by
  have bad : number? 16 k = none ∨ flagOf? run = none := h.imp_right flagOf?_eq_none
  unfold ownerReport
  split <;> simp_all

theorem ownerReadSource_range {k : Nat} (h : number? 16 k = none) : ownerReadSource k m st s = refuse .range s := by
  simp [ownerReadSource, h]

theorem ownerSetTank_range {k capacity floor level : Nat}
    (h : number? 16 k = none ∨ capacity < 10 ∨ 200000 < capacity ∨ capacity < floor) :
    ownerSetTank k capacity floor level m st s = refuse .range s := by
  unfold ownerSetTank
  split
  · rfl
  · rename_i i named
    rw [if_pos (by simpa [named] using h)]

theorem ownerReadTank_range {k : Nat} (h : number? 16 k = none) : ownerReadTank k m st s = refuse .range s := by
  simp [ownerReadTank, h]

theorem ownerSetPrice_range {k : Nat} (h : 65535 < k) : ownerSetPrice k m st s = refuse .range s := by
  simp [ownerSetPrice, h]

theorem ownerReadDelivery_range {k : Nat} (h : number? 16 k = none) : ownerReadDelivery k m st s = refuse .range s := by
  simp [ownerReadDelivery, h]

theorem ownerDefineSupply_range {k : Nat} {f : Option SupplyFields} (h : number? 12 k = none ∨ f = none) :
    ownerDefineSupply k f m st s = refuse .range s := by
  unfold ownerDefineSupply
  split
  · simp_all
  · rfl

theorem ownerTransfer_range {k target mode priority : Nat}
    (h : number? 12 k = none ∨ 3 < target ∨ 2 < mode ∨ 7 < stationPriority st priority) :
    ownerTransfer k target mode priority m st s = refuse .range s := by
  simp [ownerTransfer, stationAsk_eq_none h]

theorem ownerAbort_range {k ticket : Nat} (h : number? 12 k = none ∨ ticket = 0) :
    ownerAbort k ticket m st s = refuse .range s := by
  unfold ownerAbort
  split
  · rfl
  · rename_i n named
    rw [if_pos (by simpa [named] using h)]

theorem ownerClearFault_range {k : Nat} (h : number? 12 k = none) : ownerClearFault k m st s = refuse .range s := by
  simp [ownerClearFault, h]

theorem ownerReadSupply_range {k : Nat} (h : number? 12 k = none) : ownerReadSupply k m st s = refuse .range s := by
  simp [ownerReadSupply, h]

theorem ownerReadTransfer_range {k : Nat} (h : number? 12 k = none) : ownerReadTransfer k m st s = refuse .range s := by
  simp [ownerReadTransfer, h]

theorem ownerShowHold_range {k : Nat} (h : 12 < k) (value : Bool) : ownerShowHold value k m st s = refuse .range s := by
  have named : k ≠ 0 := by omega
  simp [ownerShowHold, named, number?_eq_none_iff.mpr (.inr h)]

theorem ownerDefineChannel_range {k : Nat} {supply account : Option Nat} {wh : Nat} {width : Option Nat}
    (h : index? 24 k = none ∨ ∃ a, account = some a ∧ channelFields supply a wh width = none) :
    ownerDefineChannel k supply account wh width m st s = refuse .range s := by
  unfold ownerDefineChannel
  split
  · rfl
  · simp_all
  · rename_i c a named
    obtain ⟨b, rfl, bad⟩ : ∃ b, a = b ∧ channelFields supply b wh width = none := by simpa [named] using h
    rw [bad]

theorem ownerReadChannel_range {k : Nat} (h : index? 24 k = none) : ownerReadChannel k m st s = refuse .range s := by
  simp [ownerReadChannel, h]

theorem ownerDefineAccount_range {k present : Nat} (h : index? 48 k = none ∨ 1 < present) (reference : Nat) :
    ownerDefineAccount k present reference m st s = refuse .range s := by
  have bad : index? 48 k = none ∨ referenceOf present reference = none :=
    h.imp_right fun g => referenceOf_eq_none g reference
  unfold ownerDefineAccount
  split <;> simp_all

theorem ownerRemoveAccount_range {k : Nat} (h : index? 48 k = none) : ownerRemoveAccount k m st s = refuse .range s := by
  simp [ownerRemoveAccount, h]

theorem ownerReadAccount_range {k bank : Nat} (h : index? 48 k = none ∨ 1 < bank) :
    ownerReadAccount k bank m st s = refuse .range s := by
  unfold ownerReadAccount
  split
  · rfl
  · rename_i a named
    rw [if_pos (by simpa [named] using h)]

theorem ownerDefineWatch_range {k : Nat} (h : index? 32 k = none) (f : WatchReq) :
    ownerDefineWatch k f m st s = refuse .range s := by
  simp [ownerDefineWatch, h]

theorem ownerRemove_range {k : Nat} (h : index? 32 k = none) : ownerRemove k m st s = refuse .range s := by
  simp [ownerRemove, h]

theorem ownerSetPort_range {k : Nat} {f : Option PortSettings} (h : f = none) : ownerSetPort k f m st s = refuse .range s := by
  unfold ownerSetPort
  split <;> simp_all

theorem ownerEnrol_range {port address role : Nat} {supply : Option Nat} (h : enrolFields port address role supply = none) :
    ownerEnrol port address role supply m st s = refuse .range s := by
  simp [ownerEnrol, h]

end

/-! ## What a STAGE station may name (R157 check 4) -/

theorem ownSupply_of_bound {k : Nat} {st : Station} (s : State) (h : ∀ m, number? 12 k = some m → st.bound = some m) :
    ownSupply k st s = true := by
  unfold ownSupply
  cases e : number? 12 k with
  | none => rfl
  | some m => simp [h m e]

theorem ownSupply_of_range {k : Nat} (h : number? 12 k = none) (st : Station) (s : State) : ownSupply k st s = true := by
  simp [ownSupply, h]

theorem ownSupplyNotAll_of_range {k : Nat} (h : 12 < k) (st : Station) (s : State) :
    ownSupplyNotAll k st s = true := by
  have named : k ≠ 0 := by omega
  simp [ownSupplyNotAll, named, ownSupply_of_range (number?_eq_none_iff.mpr (.inr h))]

theorem ownChannel_of_range {k : Nat} (h : index? 24 k = none) (st : Station) (s : State) : ownChannel k st s = true := by
  simp [ownChannel, h]

theorem ownAccount_of_range {k : Nat} (h : index? 48 k = none) (st : Station) (s : State) : ownAccount k st s = true := by
  simp [ownAccount, h]

/-- R133: an account that a defined channel on the station's supply names. -/
theorem ownAccount_of_channel {s : State} {st : Station} {a : AccountNo} {c : ChannelNo} {m : SupplyNo}
    (defined : (s.chan c).defined = true) (account : (s.chan c).account = some a) (supply : (s.chan c).supply = some m)
    (bound : st.bound = some m) : ownAccount a.1 st s = true := by
  simp only [ownAccount, index?_val, List.any_eq_true]
  exact ⟨c, mem_indices c, by simp [defined, account, supply, bound]⟩

/-! ## The requests -/

/-- A request that passes STN's checks, and that its owner refuses with RANGE. -/
theorem request_range (rq : Request) (k : Kind) (scope : Station → State → Bool)
    (owner : StationNo → Station → State → Done) (n : StationNo) (st : Station) (s : State) (h : Taken rq k n st s)
    (sc : st.role = .stage → scope (requester rq st s) (heard rq n s) = true)
    (e : owner n (requester rq st s) (heard rq n s) = refuse .range (heard rq n s)) :
    (.next (request rq k scope owner s) : Host.Outcome State Fault Refusal) =
      replied rq k n .range .empty (heard rq n s) :=
  request_done rq k scope owner n st s h sc _ _ _ e

/-- Settles O13: every owner judges its numbers and fields first, so each request comes down to its owner's range lemma;
a number out of range lies in every STAGE station's scope. -/
theorem numbersOutOfRangeAreRefused : Obligations.NumbersOutOfRangeAreRefused := by
  intro rq n st s k no own
  have free {p : Kind} {owner : StationNo → Station → State → Done} (taken : Taken rq p n st s)
      (e : owner n (requester rq st s) (heard rq n s) = refuse .range (heard rq n s)) :
      .next (request rq p anyObject owner s) = no p :=
    request_range rq p anyObject owner n st s taken (fun _ => rfl) e
  have inScope {p : Kind} {scope : Station → State → Bool} {owner : StationNo → Station → State → Done}
      (taken : Taken rq p n st s) (sc : st.role = .stage → scope (requester rq st s) (heard rq n s) = true)
      (e : owner n (requester rq st s) (heard rq n s) = refuse .range (heard rq n s)) :
      .next (request rq p scope owner s) = no p :=
    request_range rq p scope owner n st s taken sc e
  have ownSupplies (h : own) : st.role = .stage → ownSupply k (requester rq st s) (heard rq n s) = true :=
    fun stage => ownSupply_of_bound (st := requester rq st s) _ (h stage)
  refine ⟨fun h => ?sources, fun h => ?supplies, fun h => ?holds, fun h => ?channels, fun h => ?accounts,
    fun h => ?entries, fun h taken _ _ _ => free taken (ownerEnrol_range _ _ _ (enrolFields_eq_none (.inl h))),
    ?hire, ?report, ?define, ?transfer, ?abort, ?tank, ?price, ?channel, ?account, ?readAccount, ?port, ?enrol⟩
  case sources =>
    have bad := number?_eq_none_iff.mpr h
    exact ⟨fun t _ _ _ _ _ _ => free t (ownerHire_range _ _ _ (.inl bad)),
      fun t => free t (ownerOffHire_range _ _ _ bad),
      fun t _ _ _ _ _ _ => free t (ownerReport_range _ _ _ (.inl bad) _ _ _ _ _),
      fun t => free t (ownerReadSource_range _ _ _ bad),
      fun t _ _ _ => free t (ownerSetTank_range _ _ _ (.inl bad)),
      fun t => free t (ownerReadTank_range _ _ _ bad),
      fun t _ _ _ _ _ _ => free t (by rw [armFields_eq_none bad]; rfl),
      fun t => free t (ownerReadDelivery_range _ _ _ bad)⟩
  case supplies =>
    have bad := number?_eq_none_iff.mpr h
    have passes : st.role = .stage → ownSupply k (requester rq st s) (heard rq n s) = true :=
      fun _ => ownSupply_of_range bad _ _
    exact ⟨fun t _ _ _ _ _ => free t (ownerDefineSupply_range _ _ _ (.inl bad)),
      fun t _ _ _ => inScope t passes (ownerTransfer_range _ _ _ (.inl bad)),
      fun t _ => inScope t passes (ownerAbort_range _ _ _ (.inl bad)),
      fun t => free t (ownerClearFault_range _ _ _ bad),
      fun t => inScope t passes (ownerReadSupply_range _ _ _ bad),
      fun t => free t (ownerReadTransfer_range _ _ _ bad)⟩
  case holds =>
    have passes : st.role = .stage → ownSupplyNotAll k (requester rq st s) (heard rq n s) = true :=
      fun _ => ownSupplyNotAll_of_range h _ _
    exact ⟨fun t => inScope t passes (ownerShowHold_range _ _ _ h true),
      fun t => inScope t passes (ownerShowHold_range _ _ _ h false)⟩
  case channels =>
    have bad := index?_eq_none_iff.mpr h
    exact ⟨fun t _ _ _ _ => free t (ownerDefineChannel_range _ _ _ (.inl bad)),
      fun t => inScope t (fun _ => ownChannel_of_range bad _ _) (ownerReadChannel_range _ _ _ bad)⟩
  case accounts =>
    have bad := index?_eq_none_iff.mpr h
    exact ⟨fun t _ _ => free t (ownerDefineAccount_range _ _ _ (.inl bad) _),
      fun t => free t (ownerRemoveAccount_range _ _ _ bad),
      fun t _ => inScope t (fun _ => ownAccount_of_range bad _ _) (ownerReadAccount_range _ _ _ (.inl bad))⟩
  case entries =>
    have bad := index?_eq_none_iff.mpr h
    exact ⟨fun t f => free t (ownerDefineWatch_range _ _ _ bad f), fun t => free t (ownerRemove_range _ _ _ bad)⟩
  case hire => exact fun t _ _ _ _ _ _ h => free t (ownerHire_range _ _ _ (.inr (hireFields_eq_none h)))
  case report => exact fun t _ _ _ _ _ _ h => free t (ownerReport_range _ _ _ (.inr h) _ _ _ _ _)
  case define =>
    intro t q home auto back tq h
    refine free t (ownerDefineSupply_range _ _ _ (.inr (supplyFields_eq_none auto back ?_)))
    rcases h with ⟨x, v, e, r⟩ | h | h
    · exact .inl (sourceFields_eq_none e r)
    · exact .inr (.inr h)
    · exact .inr (.inl (timingFields_eq_none h))
  case transfer =>
    intro h t target mode priority r
    refine inScope t (ownSupplies h) (ownerTransfer_range _ _ _ (.inr (r.imp_right (Or.imp_right ?_))))
    rintro ⟨role, high⟩
    have kept : stationPriority (requester rq st s) priority = priority := by simp [stationPriority, requester, role]
    rwa [kept]
  case abort => exact fun h t => inScope t (ownSupplies h) (ownerAbort_range _ _ _ (.inr rfl))
  case tank => exact fun t _ _ _ h => free t (ownerSetTank_range _ _ _ (.inr h))
  case price => exact fun t h => free t (ownerSetPrice_range _ _ _ h)
  case channel =>
    exact fun t _ _ _ _ h => free t (ownerDefineChannel_range _ _ _ (.inr ⟨_, rfl, channelFields_eq_none h⟩))
  case account => exact fun t _ _ h => free t (ownerDefineAccount_range _ _ _ (.inr h) _)
  case readAccount =>
    intro t names bank h
    refine inScope t (fun stage => ?_) (ownerReadAccount_range _ _ _ (.inr h))
    obtain ⟨a, c, m, rfl, defined, account, supply, bound⟩ := names.resolve_left (· stage)
    exact ownAccount_of_channel (s := heard rq n s) (st := requester rq st s) defined account supply bound
  case port => exact fun t _ _ _ h => free t (ownerSetPort_range _ _ _ (portFields_eq_none h))
  case enrol => exact fun t _ _ _ h => free t (ownerEnrol_range _ _ _ (enrolFields_eq_none (.inr h)))

end Sys2Proof.Machine
end

section
/-! One second (R16, R31, R79 to R81, R113, R119): what the tick makes of each record, on a part that samples no watch
entry and reaches no boundary. -/

namespace Sys2Proof.Machine

/-! ## One record -/

theorem tickSourceRec_idle {r : Source} (h : onHire r = false) : tickSourceRec r = r := by simp [tickSourceRec, h]

/-- R16. -/
theorem tickSourceRec_onHire {r : Source} {h : Hire} (on : onHire r = true) (hired : r.hire = some h) :
    tickSourceRec r = { r with
      runSeconds := if runningBit r then min (r.runSeconds + 1) 4294967295 else r.runSeconds,
      hireAcc := r.hireAcc + h.rate } := by
  simp [tickSourceRec, on, hireOf, hired, hold32, max32]

/-- What the tick leaves of a source: all that decides whether and how its tank burns. -/
theorem tickSourceRec_keeps (r : Source) :
    (tickSourceRec r).state = r.state ∧ (tickSourceRec r).telemetry = r.telemetry ∧
      (tickSourceRec r).stale = r.stale ∧ (tickSourceRec r).hire = r.hire := by
  unfold tickSourceRec
  split <;> exact ⟨rfl, rfl, rfl, rfl⟩

theorem sampled_tickSourceRec (r : Source) : sampled (tickSourceRec r) = sampled r := by
  obtain ⟨state, telemetry, -, -⟩ := tickSourceRec_keeps r
  simp only [sampled, runningBit, state, telemetry]

/-- R79: a source is sampled when it runs, or is refuelled while it runs. -/
theorem sampled_iff (r : Source) :
    sampled r = true ↔ r.state = .running ∨ (r.state = .refuel ∧ ∃ tel, r.telemetry = some tel ∧ tel.running = true) := by
  cases h : r.telemetry <;> simp [sampled, runningBit, h]

/-- R31. -/
theorem tickSupplyRec_eq (r : Supply) : tickSupplyRec r =
    if r.defined = true ∧ r.record = none then { r with dark := min (r.dark + 1) 4294967295 } else r := by
  simp [tickSupplyRec, hold32, max32]

theorem record_tickSupplyRec (r : Supply) : (tickSupplyRec r).record = r.record := by
  rw [tickSupplyRec_eq]
  split <;> rfl

/-! ## The burn of one tank -/

section
variable {s : State} {i : SourceNo}

theorem tickTankRec_unsampled (h : sampled (s.source i) = false) :
    tickTankRec s i = { s.tank i with lastRate := 0, lastLoad := none, loadKind := none } := by
  simp [tickTankRec, h]

/-- R79, R80: a sampled source that is not stale burns on its reported load. -/
theorem tickTankRec_reported {h : Hire} {tel : Telemetry} (on : sampled (s.source i) = true)
    (fresh : (s.source i).stale = false) (hired : (s.source i).hire = some h) (reports : (s.source i).telemetry = some tel) :
    tickTankRec s i = { s.tank i with
      acc := (s.tank i).acc + burnRate h.curve h.rating tel.load,
      mark := (s.tank i).mark + burnRate h.curve h.rating tel.load, lastRate := burnRate h.curve h.rating tel.load,
      lastLoad := some tel.load, loadKind := some .reported } := by
  simp [tickTankRec, burnLoad, hireOf, on, fresh, hired, reports]

/-- R79, R81: a sampled source that is stale burns on the demand of its supplies. -/
theorem tickTankRec_estimated {h : Hire} (on : sampled (s.source i) = true) (stale : (s.source i).stale = true)
    (hired : (s.source i).hire = some h) :
    tickTankRec s i = { s.tank i with
      acc := (s.tank i).acc + burnRate h.curve h.rating (demandOn s i),
      mark := (s.tank i).mark + burnRate h.curve h.rating (demandOn s i),
      lastRate := burnRate h.curve h.rating (demandOn s i), lastLoad := some (demandOn s i),
      loadKind := some .estimated, estimated := true } := by
  simp [tickTankRec, burnLoad, hireOf, on, stale, hired]

end

/-! ## Demand (R114, R44) -/

theorem supplyDemand_eq_sum (s : State) (n : SupplyNo) : supplyDemand s n =
    ((indices 24).map fun c => if (s.chan c).defined = true ∧ (s.chan c).supply = some n
      then chanDemand (s.chan c) else 0).sum := by
  simp [supplyDemand, total_eq_sum]

theorem demandOn_eq_sum (s : State) (i : SourceNo) : demandOn s i =
    ((indices 12).map fun n => if (s.supply n).record = some i then supplyDemand s n else 0).sum := by
  simp [demandOn, total_eq_sum]

/-! ## The blocks that accrue -/

section
variable (order : TickOrder) (s : State)

/-- The tick at SRC, SUP, TNK and MTR writes their records alone. -/
theorem tickOwners_frame : tickOwners order s =
    { s with src := (tickOwners order s).src, sup := (tickOwners order s).sup,
             tnk := { s.tnk with tanks := (tickOwners order s).tnk.tanks },
             mtr := { s.mtr with channels := (tickOwners order s).mtr.channels } } := by
  cases h : order.meterFirst <;> simp [tickOwners, h, tickTanks, tickChannels, tickSupplies, tickSources]

theorem tickOwners_source (i : SourceNo) : (tickOwners order s).source i = tickSourceRec (s.source i) := by
  cases h : order.meterFirst <;>
    simp [tickOwners, h, tickTanks, tickChannels, tickSupplies, tickSources, State.source]

theorem tickOwners_supply (n : SupplyNo) : (tickOwners order s).supply n = tickSupplyRec (s.supply n) := by
  cases h : order.meterFirst <;>
    simp [tickOwners, h, tickTanks, tickChannels, tickSupplies, tickSources, State.supply]

theorem tickOwners_chan (k : ChannelNo) : (tickOwners order s).chan k = tickChanRec (s.chan k) := by
  cases h : order.meterFirst <;>
    simp [tickOwners, h, tickTanks, tickChannels, tickSupplies, tickSources, State.chan]

/-- The state in which TNK takes the tick: the source has taken it, the tank has not, and the demand bins have where MTR
goes first (log entry 10). -/
theorem tickOwners_tank (i : SourceNo) : ∃ v : State, (tickOwners order s).tank i = tickTankRec v i ∧
    v.source i = tickSourceRec (s.source i) ∧ v.tank i = s.tank i ∧
      (order.meterFirst = false → demandOn v i = demandOn s i) := by
  cases h : order.meterFirst
  · refine ⟨tickSupplies (tickSources s), ?_, ?_, ?_, fun _ => ?_⟩
    · simp [tickOwners, h, tickTanks, tickChannels, State.tank]
    · simp [tickSupplies, tickSources, State.source]
    · simp only [tickSupplies, tickSources, State.tank]
    · have record (n : SupplyNo) : ((tickSupplies (tickSources s)).supply n).record = (s.supply n).record := by
        have ticked : (tickSupplies (tickSources s)).supply n = tickSupplyRec (s.supply n) := by
          simp [tickSupplies, tickSources, State.supply]
        rw [ticked, record_tickSupplyRec]
      have chan (c : ChannelNo) : (tickSupplies (tickSources s)).chan c = s.chan c := by
        simp only [tickSupplies, tickSources, State.chan]
      have demand (n : SupplyNo) : supplyDemand (tickSupplies (tickSources s)) n = supplyDemand s n := by
        simp only [supplyDemand, chan]
      simp only [demandOn_eq_sum, record, demand]
  · refine ⟨tickChannels (tickSupplies (tickSources s)), ?_, ?_, ?_, nofun⟩
    · simp [tickOwners, h, tickTanks, tickChannels, State.tank]
    · simp [tickChannels, tickSupplies, tickSources, State.source]
    · simp only [tickChannels, tickSupplies, tickSources, State.tank]

end

/-! ## The tick -/

/-- R140: with no entry armed, nothing is sampled. -/
theorem sampleAll_of_disarmed {s : State} (h : ∀ w, (s.watch w).armed = false) : sampleAll s = s := by
  have idle (w : WatchNo) : sampleWatch s w = s := by simp [sampleWatch, h w]
  have each (l : List WatchNo) : l.foldl sampleWatch s = s := by
    induction l with
    | nil => rfl
    | cons w l ih => rw [List.foldl_cons, idle, ih]
  exact each _

/-- R119 steps 1 and 2, below the clock's last value. -/
theorem tickClockRec_eq {c : Clock} (h : c.time < 4294967295) :
    tickClockRec c = { c with time := c.time + 1, ticks := min (c.ticks + 1) 4294967295 } := by
  have time : min (c.time + 1) 4294967295 = c.time + 1 := by omega
  simp [tickClockRec, hold32, max32, time]

/-- R119, R140: a tick with no entry armed and no boundary is the tick of the clock and of the blocks that accrue. -/
theorem secondTick_quiet {order : TickOrder} {s : State} (disarmed : ∀ w, (s.watch w).armed = false)
    (within : s.stl.clock.time + 1 ≠ s.stl.clock.nextBoundary) (low : s.stl.clock.time < 4294967295) :
    secondTick order s = tickOwners order (tickClock s) := by
  have clock : (tickOwners order (tickClock s)).stl.clock = tickClockRec s.stl.clock := by rw [tickOwners_frame]; rfl
  have blocks : tickBlocks order s = tickOwners order (tickClock s) := by
    rw [tickBlocks, if_neg]
    rw [clock, tickClockRec_eq low]
    exact within
  have watches (w : WatchNo) : (tickOwners order (tickClock s)).watch w = s.watch w := by rw [tickOwners_frame]; rfl
  unfold secondTick
  split
  · rw [sampleAll_of_disarmed disarmed, blocks]
  · rw [blocks, sampleAll_of_disarmed fun w => by rw [watches, disarmed w]]

/-- Settles O25: the quiet tick is the clock's tick and the owners', and each record is read off its own tick lemma. -/
theorem secondTickAccrues : Obligations.SecondTickAccrues := by
  refine ⟨fun order t s disarmed within low => ?_, sampled_iff, fun _ => rfl, supplyDemand_eq_sum, demandOn_eq_sum⟩
  refine ⟨tickOwners order (tickClock (advanceTo t s)), ?next, ?frame, ?clock, fun i => ?source, fun n => ?supply,
    fun i => ?tank, fun k => ?chan⟩
  case next => exact congrArg Host.Outcome.next (secondTick_quiet (s := advanceTo t s) disarmed within low)
  case frame =>
    rw [tickOwners_frame]
    rfl
  case clock =>
    rw [tickOwners_frame]
    exact tickClockRec_eq low
  case source =>
    rw [tickOwners_source]
    exact ⟨tickSourceRec_idle, fun h on hired => tickSourceRec_onHire on hired⟩
  case supply =>
    rw [tickOwners_supply]
    exact tickSupplyRec_eq _
  case tank =>
    obtain ⟨v, burned, source, tank, demand⟩ := tickOwners_tank order (tickClock (advanceTo t s)) i
    have source' : v.source i = tickSourceRec (s.source i) := source
    have tank' : v.tank i = s.tank i := tank
    obtain ⟨-, telemetry, stale, hire⟩ := tickSourceRec_keeps (s.source i)
    rw [← source'] at telemetry stale hire
    have sampling : sampled (v.source i) = sampled (s.source i) := by rw [source', sampled_tickSourceRec]
    rw [burned]
    refine ⟨fun off => ?_, fun h tel on fresh hired reports r rate => ?_, fun h on old hired first r rate => ?_⟩
    · rw [tickTankRec_unsampled (sampling.trans off), tank']
    · rw [tickTankRec_reported (sampling.trans on) (stale.trans fresh) (hire.trans hired) (telemetry.trans reports),
        tank', rate]
    · have load : demandOn v i = demandOn s i := demand first
      rw [tickTankRec_estimated (sampling.trans on) (stale.trans old) (hire.trans hired), tank', load, rate]
  case chan =>
    rw [tickOwners_chan]
    rfl

end Sys2Proof.Machine
end

section
/-! The reads (R9, R37, R64, R87, R106, R117, R133, R134): what each owner answers of the records it is asked for, and the
figures and words that the answers carry (R23, R74, R84, R85, R169). -/

namespace Sys2Proof.Machine

/-! ## Tables -/

theorem pairwise_indices (n : Nat) : (indices n).Pairwise (· < ·) := List.pairwise_lt_finRange n

/-- A search through a table finds the lowest index that fits. -/
theorem find?_indices_of_lowest {n : Nat} {p : Fin n → Bool} {d : Fin n} (fits : p d = true)
    (lowest : ∀ e, p e = true → d ≤ e) : (indices n).find? p = some d := by
  cases found : (indices n).find? p with
  | none => exact absurd fits (List.find?_eq_none.mp found d (mem_indices d))
  | some e =>
    obtain ⟨here, before, after, split, skipped⟩ := List.find?_eq_some_iff_append.mp found
    have order := pairwise_indices n
    rw [split] at order
    have member : d ∈ before ++ e :: after := split ▸ mem_indices d
    rcases List.mem_append.mp member with h | h
    · exact absurd (skipped d h) (by simp [fits])
    · rcases List.mem_cons.mp h with rfl | h
      · rfl
      · have later : e < d := (List.pairwise_cons.mp (List.pairwise_append.mp order).2.1).1 d h
        exact absurd later (not_lt.mpr (lowest e here))

theorem activeOn_of_lowest {s : State} {i : SourceNo} {d : SlotNo} {r : Delivery} (here : s.delivery d = some r)
    (same : r.source = i) (lowest : ∀ e q, s.delivery e = some q → q.source = i → d ≤ e) : activeOn s i = some d := by
  refine find?_indices_of_lowest (by simp [here, same]) fun e fits => ?_
  cases h : s.delivery e with
  | none => simp [h] at fits
  | some q => exact lowest e q h (by simpa [h] using fits)

/-! ## What the owners answer -/

section
variable (m : StationNo) (st : Station) (s : State)

theorem ownerReadSource_unlisted {i : SourceNo} (h : (s.source i).state = .unlisted) :
    ownerReadSource (numberOf i) m st s = refuse .unknown s := by
  simp [ownerReadSource, h]

theorem ownerReadSource_listed {i : SourceNo} (h : (s.source i).state ≠ .unlisted) :
    ownerReadSource (numberOf i) m st s =
      ⟨s, .ok, .source (s.source i) (available (s.source i)) (hireAccrued (s.source i)) (sourceWord s i)⟩ := by
  simp [ownerReadSource, h]

theorem ownerReadTank_unlisted {i : SourceNo} (h : (s.source i).state = .unlisted) :
    ownerReadTank (numberOf i) m st s = refuse .unknown s := by
  simp [ownerReadTank, h]

theorem ownerReadTank_listed {i : SourceNo} (h : (s.source i).state ≠ .unlisted) :
    ownerReadTank (numberOf i) m st s = ⟨s, .ok, tankBody s i⟩ := by
  simp [ownerReadTank, h]

theorem ownerReadDelivery_active {i : SourceNo} {d : SlotNo} {r : Delivery} (a : activeOn s i = some d)
    (here : s.delivery d = some r) : ownerReadDelivery (numberOf i) m st s =
      ⟨s, .ok, .delivery (some r) (deliveryTimeLeft s r) (s.lastEnded i) (s.dlv.returns.filter fun e => e.source == i)
        (look s.dlv.fill i)⟩ := by
  simp [ownerReadDelivery, a, here]

theorem ownerReadDelivery_idle {i : SourceNo} (a : activeOn s i = none) : ownerReadDelivery (numberOf i) m st s =
    ⟨s, .ok, .delivery none none (s.lastEnded i) (s.dlv.returns.filter fun e => e.source == i) (look s.dlv.fill i)⟩ := by
  simp [ownerReadDelivery, a]

theorem ownerReadSupply_defined {n : SupplyNo} (h : (s.supply n).defined = true) :
    ownerReadSupply (numberOf n) m st s =
      ⟨s, .ok, .supply (s.supply n) (supplyDemand s n) ((s.supply n).inputs.map inputFreq) (supplyWord (s.supply n))⟩ := by
  simp [ownerReadSupply, h]

theorem ownerReadSupply_undefined {n : SupplyNo} (h : (s.supply n).defined = false) :
    ownerReadSupply (numberOf n) m st s = ⟨s, .ok, .undefinedSupply ((s.supply n).inputs.map lineReading)⟩ := by
  simp [ownerReadSupply, h]

theorem ownerReadTransfer_empty {n : SupplyNo} (h : s.slot n = none) :
    ownerReadTransfer (numberOf n) m st s = refuse .unknown s := by
  simp [ownerReadTransfer, h]

theorem ownerReadTransfer_written {n : SupplyNo} {t : Transfer} (h : s.slot n = some t) :
    ownerReadTransfer (numberOf n) m st s =
      ⟨s, .ok, .slot n t (timeLeft s t.phaseTimer) (timeLeft s t.syncTimer) (positionRead s t) (channelRead s t)⟩ := by
  simp [ownerReadTransfer, h]

theorem ownerReadChannel_defined {c : ChannelNo} {a : AccountNo} (h : (s.chan c).defined = true)
    (account : (s.chan c).account = some a) : ownerReadChannel c.1 m st s =
      ⟨s, .ok, .channel (withoutReadings (s.chan c)) (s.chan c).bins.sum (chanDemand (s.chan c))
        ((s.chan c).supply.bind fun n => (s.supply n).record) (look s.mtr.matrix a)⟩ := by
  simp [ownerReadChannel, channelBody, h, account]

theorem ownerReadChannel_undefined {c : ChannelNo} (h : (s.chan c).defined = false) : ownerReadChannel c.1 m st s =
    ⟨s, .ok, .undefinedChannel (s.chan c).line (s.chan c).energy (s.chan c).lastEnergy⟩ := by
  simp [ownerReadChannel, h]

theorem ownerReadAccount_undefined {a : AccountNo} {bank : Nat} (h : (s.account a).defined = false) (b : bank ≤ 1) :
    ownerReadAccount a.1 bank m st s = refuse .unknown s := by
  simp [ownerReadAccount, h, Nat.not_lt.mpr b]

theorem ownerReadAccount_active {a : AccountNo} (h : (s.account a).defined = true) :
    ownerReadAccount a.1 0 m st s = ⟨s, .ok, accountBody a (activeBank s) s⟩ := by
  simp [ownerReadAccount, h]

theorem ownerReadAccount_unfrozen {a : AccountNo} (h : (s.account a).defined = true) (f : frozenBank s = none) :
    ownerReadAccount a.1 1 m st s = refuse .state s := by
  simp [ownerReadAccount, h, f]

theorem ownerReadAccount_frozen {a : AccountNo} {k : Bank} (h : (s.account a).defined = true) (f : frozenBank s = some k) :
    ownerReadAccount a.1 1 m st s = ⟨s, .ok, accountBody a k s⟩ := by
  simp [ownerReadAccount, h, f]

end

/-! ## The figures of a transfer, an input and a tank -/

/-- R74: the queue position is read of a transfer in flight in SYNC_WAIT. -/
theorem positionRead_eq (s : State) (t : Transfer) :
    positionRead s t = if t.result = none ∧ t.phase = .syncWait then queuePosition s t.ticket else none := by
  simp [positionRead]

theorem channelRead_eq (s : State) (t : Transfer) :
    channelRead s t = if t.result = none ∧ t.phase = .sync then t.syncChannel.map s.sync else none := by
  simp [channelRead]

theorem queuePosition_absent {s : State} {ticket : Nat} (h : ∀ e ∈ s.syn.queue, e.ticket ≠ ticket) :
    queuePosition s ticket = none := by
  simpa [queuePosition, List.findIdx?_eq_none_iff] using h

/-- R74: the first entry with the ticket is counted from 1 at the head. -/
theorem queuePosition_first {s : State} {ahead behind : List QueueEntry} {e : QueueEntry}
    (split : s.syn.queue = ahead ++ e :: behind) (h : ∀ f ∈ ahead, f.ticket ≠ e.ticket) :
    queuePosition s e.ticket = some (ahead.length + 1) := by
  have skipped : ahead.findIdx? (fun f => f.ticket == e.ticket) = none := by
    simpa [List.findIdx?_eq_none_iff] using h
  simp [queuePosition, split, List.findIdx?_append, skipped, List.findIdx?_cons]

theorem inputFreq_absent {r : InputRec} (h : r.voltage = false) : inputFreq r = none := by simp [inputFreq, h]

theorem inputFreq_present {r : InputRec} {p : Nat} (h : r.voltage = true) (period : r.period = some p) :
    inputFreq r = some (1000000000 / p) := by
  simp [inputFreq, h, period]

section
variable {k : Tank} {r : Source}

/-- R84, R85: a tank that has not been set has no figures. -/
theorem tankFigures_unset (h : k.set = false) :
    levelNow k = none ∧ gaugeLevel k r = none ∧ tankVariance k r = none ∧ minutesToDry k = none := by
  have level : levelNow k = none := by simp [levelNow, h]
  exact ⟨level, by simp [gaugeLevel, h], by simp [tankVariance, level], by simp [minutesToDry, h]⟩

theorem levelNow_set {book : Nat} (h : k.set = true) (booked : k.book = some book) :
    levelNow k = some (book - k.acc / 3600) := by
  simp [levelNow, h, booked, openBurn]

theorem gaugeLevel_silent (h : r.telemetry = none) : gaugeLevel k r = none := by simp [gaugeLevel, h]

theorem gaugeLevel_reported {capacity : Nat} {tel : Telemetry} (h : k.set = true) (c : k.capacity = some capacity)
    (t : r.telemetry = some tel) : gaugeLevel k r = some (capacity * tel.gauge / 1000) := by
  simp [gaugeLevel, h, c, t]

theorem tankVariance_silent (h : r.telemetry = none) : tankVariance k r = none := by
  simp [tankVariance, gaugeLevel_silent h]

/-- R85: the usable level, and the minutes that the last rate gives it. -/
theorem minutesToDry_set {book floor : Nat} (h : k.set = true) (booked : k.book = some book)
    (floored : k.floor = some floor) : minutesToDry k =
      if book ≤ k.acc / 3600 + floor then some 0
      else if k.lastRate = 0 then some 65535
      else some (min 65535 ((book - k.acc / 3600 - floor) * 60 / k.lastRate)) := by
  have usable : ((book : Int) - ((k.acc / 3600 : Nat) : Int) - (floor : Int)).toNat = book - k.acc / 3600 - floor := by
    omega
  have empty : (book : Int) - ((k.acc / 3600 : Nat) : Int) - (floor : Int) ≤ 0 ↔ book ≤ k.acc / 3600 + floor := by omega
  simp only [minutesToDry, h, if_true, booked, floored, openBurn, empty, usable]

end

/-- R87: a tank as it is read. -/
theorem tankAsRead_offHire (k : Tank) (r : Source) :
    tankAsRead k r = if r.state = .offHire then { k with lastRate := 0 } else k := by
  simp [tankAsRead]

/-! ## The status words (R169) -/

theorem runningBit_iff (r : Source) : runningBit r = true ↔ ∃ tel, r.telemetry = some tel ∧ tel.running = true := by
  cases h : r.telemetry <;> simp [runningBit, h]

/-- A bit of a status word stands for the flag at its position. -/
theorem statusWord_bit {flags : List (Nat × Bool)} {bit : Nat} (small : ∀ f ∈ flags, f.1 < 32) :
    (statusWord flags).getLsbD bit = true ↔ ∃ f ∈ flags, bit = f.1 ∧ f.2 = true := by
  simp only [statusWord_getLsbD, Bool.and_eq_true, decide_eq_true_eq, List.any_eq_true, beq_iff_eq]
  constructor
  · rintro ⟨-, f, h, set, here⟩
    exact ⟨f, h, here.symm, set⟩
  · rintro ⟨f, h, here, set⟩
    exact ⟨here ▸ small f h, f, h, set, here.symm⟩

theorem sourceWord_bit (s : State) (i : SourceNo) (bit : Nat) : (sourceWord s i).getLsbD bit = true ↔
    (bit = 0 ∧ (s.source i).state = .stopped) ∨ (bit = 1 ∧ (s.source i).state = .running) ∨
    (bit = 2 ∧ (s.source i).state = .refuel) ∨ (bit = 3 ∧ (s.source i).state = .offHire) ∨
    (bit = 4 ∧ (s.source i).stale = true) ∨ (bit = 5 ∧ (s.source i).implausible = true) ∨
    (bit = 6 ∧ (s.source i).claim ≠ none) ∨ (bit = 7 ∧ (s.source i).reservation ≠ none) ∨
    (bit = 8 ∧ available (s.source i) = true) ∨
    (bit = 9 ∧ ∃ tel, (s.source i).telemetry = some tel ∧ tel.running = true) ∨
    (bit = 10 ∧ (s.tank i).dry = true) ∨ (bit = 11 ∧ (s.tank i).overfill = true) ∨
    (bit = 12 ∧ (s.tank i).estimated = true) ∨
    ∃ a tel, bit = 16 + a ∧ a < 8 ∧ (s.source i).telemetry = some tel ∧ tel.alarms.getLsbD a = true := by
  rw [← runningBit_iff]
  unfold sourceWord
  dsimp only
  generalize s.source i = r
  generalize s.tank i = k
  rw [statusWord_bit (by simp; omega)]
  have alarm (bits : BitVec 8) : (∃ f ∈ (List.range 8).map fun a => (16 + a, bits.getLsbD a), bit = f.1 ∧ f.2 = true) ↔
      ∃ a, bit = 16 + a ∧ a < 8 ∧ bits.getLsbD a = true := by
    simp only [List.mem_map, List.mem_range, exists_exists_and_eq_and]
    exact exists_congr fun a => and_left_comm
  simp only [List.mem_append, or_and_right, exists_or, List.exists_mem_cons_iff, List.not_mem_nil, false_and,
    exists_false, or_false, beq_iff_eq, bne_iff_ne, or_assoc, alarm]
  cases r.telemetry <;> simp

theorem away_iff (r : Supply) : away r = true ↔ r.state = .live ∧ r.home ≠ none ∧ r.closed ≠ r.home := by
  simp [away, and_assoc]

theorem supplyWord_bit (r : Supply) (bit : Nat) : (supplyWord r).getLsbD bit = true ↔
    (bit = 0 ∧ r.state = .live) ∨ (bit = 1 ∧ r.state = .tripped) ∨ (bit = 2 ∧ r.state = .dark) ∨
    (bit = 3 ∧ r.state = .transfer) ∨ (bit = 4 ∧ r.state = .fault) ∨ (bit = 5 ∧ r.showHold = true) ∨
    (bit = 6 ∧ r.state = .live ∧ r.home ≠ none ∧ r.closed ≠ r.home) ∨ (bit = 7 ∧ r.restoreWaiting = true) ∨
    (bit = 8 ∧ ∃ x, (r.inputs.get x).faulted = true) ∨ (bit = 9 ∧ r.inputs.a.voltage = true) ∨
    (bit = 10 ∧ r.inputs.b.voltage = true) ∨ (bit = 11 ∧ r.inputs.c.voltage = true) := by
  have faulted : (r.inputs.a.faulted || r.inputs.b.faulted || r.inputs.c.faulted) = true ↔
      ∃ x, (r.inputs.get x).faulted = true := by
    simp only [Bool.or_eq_true]
    constructor
    · rintro ((h | h) | h)
      · exact ⟨.a, h⟩
      · exact ⟨.b, h⟩
      · exact ⟨.c, h⟩
    · rintro ⟨x, h⟩
      cases x
      · exact .inl (.inl h)
      · exact .inl (.inr h)
      · exact .inr h
  unfold supplyWord
  rw [statusWord_bit (by simp)]
  simp only [List.exists_mem_cons_iff, List.not_mem_nil, false_and, exists_false, or_false, beq_iff_eq, away_iff, faulted]

/-! ## The banks (R133) -/

theorem activeBank_of_active {s : State} (h : s.stl.bankA.state = .active) : activeBank s = .a := by
  simp [activeBank, h]

theorem activeBank_of_not_active {s : State} (h : s.stl.bankA.state ≠ .active) : activeBank s = .b := by
  simp [activeBank, h]

theorem frozenBank_eq (s : State) : frozenBank s =
    if s.stl.bankA.state = .frozen then some .a else if s.stl.bankB.state = .frozen then some .b else none := by
  simp [frozenBank]

/-! ## The requests -/

section
variable {rq : Request} {n : StationNo} {st : Station} {s : State}

/-- A request that any station may make of any object, by what its owner answers in the state it was heard in. -/
theorem request_anyObject {k : Kind} {owner : StationNo → Station → State → Done} (taken : Taken rq k n st s)
    {status : Status} {body : Body}
    (e : owner n (requester rq st s) (heard rq n s) = ⟨heard rq n s, status, body⟩) :
    (.next (request rq k anyObject owner s) : Host.Outcome State Fault Refusal) =
      replied rq k n status body (heard rq n s) :=
  request_done rq k anyObject owner n st s taken (fun _ => rfl) _ _ _ e

/-- R117: a channel whose supply is the station's. -/
theorem ownChannel_of_supply {c : ChannelNo} {m : SupplyNo} (defined : (s.chan c).defined = true)
    (supply : (s.chan c).supply = some m) (bound : st.bound = some m) : ownChannel c.1 st s = true := by
  simp [ownChannel, defined, supply, bound]

/-- R9: READ SOURCE and READ TANK of an UNLISTED source. -/
theorem reads_of_unlisted {i : SourceNo} (h : (s.source i).state = .unlisted) :
    (Taken rq kindReadSource n st s →
      exec (.readSource rq (numberOf i)) s = replied rq kindReadSource n .unknown .empty (heard rq n s)) ∧
    (Taken rq kindReadTank n st s →
      exec (.readTank rq (numberOf i)) s = replied rq kindReadTank n .unknown .empty (heard rq n s)) :=
  ⟨fun taken => request_anyObject taken (ownerReadSource_unlisted n _ (heard rq n s) h),
    fun taken => request_anyObject taken (ownerReadTank_unlisted n _ (heard rq n s) h)⟩

end

/-- Settles O32: each read is handed to its owner, which answers by its lemma above; the figures and words that the
answers carry are those lemmas that speak of them. -/
theorem readsAnswerTheRecords : Obligations.ReadsAnswerTheRecords := by
  refine ⟨fun rq n st s => ⟨fun i => ⟨reads_of_unlisted, ?source, ?tank, ?delivery⟩, fun m => ⟨?supply, ?transfer⟩,
    ?channel, ?undefinedAccount, ?account, ?settlement⟩, ?tankFigures, ?inputFigures, sourceWord_bit, supplyWord_bit,
    fun s ticket => queuePosition_absent, fun s ahead behind e => queuePosition_first, ?banks⟩
  case source => exact fun taken listed => request_anyObject taken (ownerReadSource_listed n _ (heard rq n s) listed)
  case tank =>
    rintro taken listed k rfl
    rw [← tankAsRead_offHire]
    exact request_anyObject taken (ownerReadTank_listed n _ (heard rq n s) listed)
  case delivery =>
    refine fun taken => ⟨fun d r here same lowest => ?_, fun idle => ?_⟩
    · exact request_anyObject taken
        (ownerReadDelivery_active n _ (heard rq n s) (activeOn_of_lowest (s := heard rq n s) here same lowest) here)
    · exact request_anyObject taken
        (ownerReadDelivery_idle n _ (heard rq n s) ((activeOn_eq_none_iff (heard rq n s) i).mpr idle))
  case supply =>
    intro taken bound
    have own (stage : st.role = .stage) : ownSupply (numberOf m) (requester rq st s) (heard rq n s) = true :=
      ownSupply_of_bound (st := requester rq st s) _ fun p named => by
        rw [number?_numberOf] at named
        exact named ▸ bound stage
    exact ⟨fun h => request_done _ _ _ _ n st s taken own _ _ _ (ownerReadSupply_defined n _ (heard rq n s) h),
      fun h => request_done _ _ _ _ n st s taken own _ _ _ (ownerReadSupply_undefined n _ (heard rq n s) h)⟩
  case transfer =>
    refine fun taken => ⟨fun h => request_anyObject taken (ownerReadTransfer_empty n _ (heard rq n s) h), fun t h => ?_⟩
    have answered := ownerReadTransfer_written n (requester rq st s) (heard rq n s) h
    rw [positionRead_eq, channelRead_eq] at answered
    exact request_anyObject taken answered
  case channel =>
    intro c taken names
    have own (stage : st.role = .stage) : ownChannel c.1 (requester rq st s) (heard rq n s) = true := by
      obtain ⟨defined, m, supply, bound⟩ := names.resolve_left (· stage)
      exact ownChannel_of_supply (s := heard rq n s) (st := requester rq st s) defined supply bound
    exact ⟨fun a h account => request_done _ _ _ _ n st s taken own _ _ _
        (ownerReadChannel_defined n _ (heard rq n s) h account),
      fun h => request_done _ _ _ _ n st s taken own _ _ _ (ownerReadChannel_undefined n _ (heard rq n s) h)⟩
  case undefinedAccount =>
    intro a bank taken h b names
    have own (stage : st.role = .stage) : ownAccount a.1 (requester rq st s) (heard rq n s) = true := by
      obtain ⟨c, m, defined, account, supply, bound⟩ := names.resolve_left (· stage)
      exact ownAccount_of_channel (s := heard rq n s) (st := requester rq st s) defined account supply bound
    exact request_done _ _ _ _ n st s taken own _ _ _ (ownerReadAccount_undefined n _ (heard rq n s) h b)
  case account =>
    intro a taken h names
    have own (stage : st.role = .stage) : ownAccount a.1 (requester rq st s) (heard rq n s) = true := by
      obtain ⟨c, m, defined, account, supply, bound⟩ := names.resolve_left (· stage)
      exact ownAccount_of_channel (s := heard rq n s) (st := requester rq st s) defined account supply bound
    exact ⟨request_done _ _ _ _ n st s taken own _ _ _ (ownerReadAccount_active n _ (heard rq n s) h),
      fun f => request_done _ _ _ _ n st s taken own _ _ _ (ownerReadAccount_unfrozen n _ (heard rq n s) h f),
      fun k f => request_done _ _ _ _ n st s taken own _ _ _ (ownerReadAccount_frozen n _ (heard rq n s) h f)⟩
  case settlement => exact fun taken => request_anyObject taken rfl
  case tankFigures =>
    refine fun k r => ⟨tankFigures_unset, fun capacity floor book used h c f b u => ?_⟩
    subst u
    refine ⟨levelNow_set h b, fun t => ⟨gaugeLevel_silent t, tankVariance_silent t⟩, fun tel t => ?_, ?_⟩
    · have gauge := gaugeLevel_reported h c t
      exact ⟨gauge, by rw [tankVariance, levelNow_set h b, gauge]⟩
    · rw [minutesToDry_set h b f]
      exact ⟨fun dry => if_pos dry, fun wet idle => by rw [if_neg (not_le.mpr wet), if_pos idle],
        fun wet burning => by rw [if_neg (not_le.mpr wet), if_neg burning]⟩
  case inputFigures => exact fun r => ⟨inputFreq_absent, fun p => inputFreq_present, rfl⟩
  case banks =>
    rintro s a r rfl
    rw [frozenBank_eq]
    exact ⟨rfl, rfl, activeBank_of_active, activeBank_of_not_active, fun frozen => if_pos frozen,
      fun thawed frozen => by rw [if_neg thawed, if_pos frozen], fun a b => by rw [if_neg a, if_neg b]⟩

end Sys2Proof.Machine
end

section
/-! SOURCE REPORT, the restores that an available source brings, and the stale timer (R6, R7, R8, R13, R35, R36). -/

namespace Sys2Proof.Machine

/-! ## A report of a source on hire (R6, R7) -/

theorem available_iff (r : Source) : available r = true ↔
    r.state = .running ∧ r.stale = false ∧ r.implausible = false ∧ r.claim = none ∧ r.reservation = none := by
  simp [available, availableFor, and_assoc]

/-- R13: a source that a change of its record makes available is reported to SUP. -/
theorem changeSource_eq (s : State) (i : SourceNo) (f : Source → Source) : changeSource i f s =
    if available (s.source i) = false ∧ available (f (s.source i)) = true
    then reportAvailable i (setSource i (f (s.source i)) s) else setSource i (f (s.source i)) s := by
  simp [changeSource, modSource]

theorem implausibleFreq_eq (freq : Nat) : implausibleFreq freq = decide (freq < 40000 ∨ 70000 < freq) := by
  simp [implausibleFreq]

/-- R6 step 4, for a source on hire. -/
theorem reportedState_onHire {r : Source} (on : onHire r = true) (run : Bool) :
    reportedState r.state run = if r.state = .refuel then .refuel else if run then .running else .stopped := by
  rcases (onHire_iff r).mp on with h | h | h <;> simp [reportedState, h]

theorem hireOf_hired {r : Source} {h : Hire} (hired : r.hire = some h) : hireOf r = h := by simp [hireOf, hired]

theorem logFresh_source (i j : SourceNo) (stale : Bool) (t : Telemetry) (s : State) :
    (logFresh i stale t s).source j = s.source j := by
  unfold logFresh
  split <;> simp

theorem alertImplausible_source (i j : SourceNo) (newly : Bool) (s : State) :
    (alertImplausible i newly s).source j = s.source j := by
  unfold alertImplausible
  split <;> simp

/-- R6: what a report makes of the record, once FRESH and the alert are told. -/
theorem takeReport_eq {s : State} {i : SourceNo} {h : Hire} (hired : (s.source i).hire = some h) (run : Bool)
    (load volts freq gauge : Nat) (alarms : BitVec 8) :
    takeReport i run load volts freq gauge alarms s =
      changeSource i (reported s.ms (clampReport h.rating run load volts freq gauge alarms) (implausibleFreq freq))
        (alertImplausible i (implausibleFreq freq && !(s.source i).implausible)
          (logFresh i (s.source i).stale (clampReport h.rating run load volts freq gauge alarms) s)) := by
  simp only [takeReport, hireOf_hired hired]

section
variable (m : StationNo) (st : Station) (s : State) {i : SourceNo} (run : Bool) (load volts freq gauge : Nat)
  (alarms : BitVec 8)

theorem ownerReport_idle (off : onHire (s.source i) = false) :
    ownerReport (numberOf i) (if run then 1 else 0) load volts freq gauge alarms m st s = refuse .unknown s := by
  simp [ownerReport, off]

theorem ownerReport_onHire {h : Hire} (on : onHire (s.source i) = true) (hired : (s.source i).hire = some h) :
    ownerReport (numberOf i) (if run then 1 else 0) load volts freq gauge alarms m st s =
      ⟨takeReport i run load volts freq gauge alarms s, .ok,
       .clamps (decide (2 * h.rating < load)) (decide (500 < volts)) (decide (freq < 40000 ∨ 70000 < freq))
         (decide (1000 < gauge))⟩ := by
  simp [ownerReport, on, hireOf_hired hired, implausibleFreq_eq]

end

/-! ## The stale timer (R8) -/

theorem staleExpiry_stale {s : State} {i : SourceNo} {due : Nat} (timer : (s.source i).staleTimer = some due)
    (stale : (s.source i).stale = true) :
    staleExpiry i s = setSource i { s.source i with staleTimer := none } (advanceTo (due * 1000) s) := by
  simp [staleExpiry, timer, advanceToMs, stale, modSource]

theorem staleExpiry_fresh {s : State} {i : SourceNo} {due : Nat} {tel : Telemetry}
    (timer : (s.source i).staleTimer = some due) (fresh : (s.source i).stale = false)
    (reports : (s.source i).telemetry = some tel) :
    staleExpiry i s = raise (.sourceAlert i .stale) toFleetAndConsole
      (logAppend .sourceStale (num i) (some tel.load) (some tel.freq)
        (setSource i { s.source i with staleTimer := none, stale := true } (advanceTo (due * 1000) s))) := by
  simp [staleExpiry, timer, advanceToMs, fresh, reports, modSource]

/-! ## The supplies that an available source concerns (R36) -/

theorem restoresOnto_iff (s : State) (i : SourceNo) (n : SupplyNo) : restoresOnto s i n = true ↔
    (s.supply n).restoreWaiting = true ∧ ((s.supply n).state = .tripped ∨ (s.supply n).state = .dark) ∧
      ∃ x, (s.input n x).source = some i ∧ (s.input n x).faulted = false ∧ (s.supply n).closed ≠ some x ∧
        (s.input n x).voltage = true := by
  simp [restoresOnto, retryInput, and_assoc]

/-- The supplies concerned, listed in rising number, are those that request at once. -/
theorem reportAvailable_eq {s : State} {i : SourceNo} {ns : List SupplyNo} (rising : ns.Pairwise (· < ·))
    (concerned : ∀ n, n ∈ ns ↔ restoresOnto s i n = true) : reportAvailable i s = restoreRequests ns s := by
  have same : (indices 12).filter (restoresOnto s i) = ns :=
    List.Pairwise.eq_of_mem_iff ((pairwise_indices 12).filter _) rising fun n => by simp [concerned]
  rw [reportAvailable, same]

/-! ## One restore request (R35) -/

theorem restoreRequest_eq (n : SupplyNo) (s : State) :
    restoreRequest n s = takeRestore (judge (restoreAsk n) s).state (n, (judge (restoreAsk n) s).val) := rfl

theorem restoreRefused_eq (n : SupplyNo) (e : Status) (s : State) : restoreRefused n e s =
    setSupply n { s.supply n with restoreWaiting := true, lastRestore := some e } s := rfl

theorem restoreRequest_accepted {n : SupplyNo} {s u : State} {k : Nat} {x : Input} {m : ModeEff}
    (h : admission (restoreAsk n) s = ⟨u, .accepted k x m⟩) : restoreRequest n s = u := by
  rw [restoreRequest_eq]
  unfold admission at h
  split at h
  · cases h
  · rename_i v c judged
    rw [judged]
    simp only [takeRestore, h]

theorem restoreRequest_refused {n : SupplyNo} {s u : State} {e : Status}
    (h : admission (restoreAsk n) s = ⟨u, .refused e⟩) : restoreRequest n s = restoreRefused n e u := by
  rw [restoreRequest_eq]
  unfold admission at h
  split at h
  · rename_i v w judged
    cases h
    rw [judged]
    rfl
  · rename_i v c judged
    rw [judged]
    simp only [takeRestore, h]

/-! ## The judgement of restore requests made at once (R35) -/

/-- R43: an input that BEST finds for a restore request. -/
def RestoreFits (s : State) (n : SupplyNo) (x : Input) (i : SourceNo) : Prop :=
  (s.supply n).closed ≠ some x ∧ (s.input n x).source = some i ∧ (s.input n x).faulted = false ∧
    (s.input n x).voltage = true ∧ available (s.source i) = true

/-- R35: a supply that may ask to be restored. -/
structure MayRestore (s : State) (n : SupplyNo) : Prop where
  defined : (s.supply n).defined = true
  state : (s.supply n).state = .tripped ∨ (s.supply n).state = .dark
  idle : ∀ t, ¬ flying s n t

/-- A pick: what BEST finds first for a supply, or none where no input fits. -/
def Picked (s : State) (n : SupplyNo) : Option Chosen → Prop
  | none => ∀ y i, ¬ RestoreFits s n y i
  | some k => RestoreFits s n k.target k.source ∧ ∀ y i, inputCode y < inputCode k.target → ¬ RestoreFits s n y i

/-- The answer that a pick is judged with. -/
def pickAnswer : Option Chosen → Except Status Chosen
  | none => .error .noAlternative
  | some k => .ok k

section
variable {s : State} {n : SupplyNo}

theorem bestCandidate_restore (x : Input) :
    bestCandidate none (restoreAsk n) s x = true ↔ ∃ i, RestoreFits s n x i := by
  unfold bestCandidate RestoreFits available restoreAsk
  cases h : (s.input n x).source <;> simp [h, and_assoc]

/-- BEST takes the inputs in the order A, B, C (R43). -/
theorem find?_allInputs_of_first {p : Input → Bool} {x : Input} (fits : p x = true)
    (first : ∀ y, inputCode y < inputCode x → p y = false) : allInputs.find? p = some x := by
  cases x
  · simp [allInputs, fits]
  · simp [allInputs, fits, first .a (by decide)]
  · simp [allInputs, fits, first .a (by decide), first .b (by decide)]

theorem earlyRefusal_restore (h : MayRestore s n) : earlyRefusal (restoreAsk n) s = none := by
  have sound : (s.supply n).state ≠ .fault := by rcases h.state with e | e <;> simp [e]
  have idle : inFlight s n = none := Option.eq_none_iff_forall_ne_some.mpr fun t e => h.idle t ((flying_iff s n t).mpr e)
  simp [earlyRefusal, restoreAsk, h.defined, sound, idle]

theorem claimAnswer_eq (r : Source) (e : r.state ≠ .refuel) (f : r.reservation = none)
    (rest : r.claim = none → available r = true) :
    claimAnswer none r = if r.claim = none then none else some .lost := by
  by_cases h : r.claim = none
  · have avail : availableFor none r = true := rest h
    simp [claimAnswer, h, e, f, avail]
  · simp [claimAnswer, h]

theorem claimAnswer_available {r : Source} (h : available r = true) : claimAnswer none r = none := by
  obtain ⟨running, -, -, claim, reservation⟩ := (available_iff r).mp h
  rw [claimAnswer_eq r (by simp [running]) reservation fun _ => h, if_pos claim]

/-- R35, R43: a restore request draws its ticket as it finds an input, and none where no input fits. -/
theorem judge_restore {p : Option Chosen} (may : MayRestore s n) (picked : Picked s n p)
    (ticket : ∀ k, p = some k → k.ticket = s.xfr.counter) :
    judge (restoreAsk n) s = ⟨if p.isSome then drawTicket s else s, pickAnswer p⟩ := by
  unfold judge
  rw [earlyRefusal_restore may]
  cases p with
  | none =>
    have nothing : allInputs.find? (bestCandidate none (restoreAsk n) s) = none := by
      rw [List.find?_eq_none]
      intro x _ fits
      obtain ⟨i, h⟩ := (bestCandidate_restore x).mp fits
      exact picked x i h
    have target : resolveTarget none (restoreAsk n) s = .error .noAlternative := by
      simp only [resolveTarget, restoreAsk] at nothing ⊢
      rw [nothing]
    simp [chooseTarget, target, pickAnswer]
  | some k =>
    obtain ⟨⟨opened, source, sound, voltage, avail⟩, first⟩ := picked
    have found : allInputs.find? (bestCandidate none (restoreAsk n) s) = some k.target := by
      refine find?_allInputs_of_first ((bestCandidate_restore _).mpr ⟨k.source, opened, source, sound, voltage, avail⟩) ?_
      intro y before
      rw [← Bool.not_eq_true, bestCandidate_restore]
      rintro ⟨i, h⟩
      exact first y i before h
    have target : resolveTarget none (restoreAsk n) s = .ok k.target := by
      simp only [resolveTarget, restoreAsk] at found ⊢
      rw [found]
    have late : lateRefusal none (restoreAsk n) s k.target k.source = none := by
      simp [lateRefusal, restoreAsk, voltage]
    have chosen : k = { ticket := s.xfr.counter, target := k.target, source := k.source } := by
      rw [← ticket k rfl]
    have source' : (s.input (restoreAsk n).supply k.target).source = some k.source := source
    simp only [chooseTarget, target, source', claimAnswer_available avail, late, Option.isSome_some, if_true, pickAnswer]
    rw [← chosen]

end

/-! ### Several at once -/

/-- One more request judged. -/
def judgeNext (acc : With (List (SupplyNo × Except Status Chosen))) (n : SupplyNo) :
    With (List (SupplyNo × Except Status Chosen)) :=
  ⟨(judge (restoreAsk n) acc.state).state, acc.val ++ [(n, (judge (restoreAsk n) acc.state).val)]⟩

theorem judgeRestores_eq (ns : List SupplyNo) (s : State) : judgeRestores ns s = ns.foldl judgeNext ⟨s, []⟩ := rfl

/-- Draws move the counter alone. -/
theorem draws_eq (s : State) (j : Nat) : ∃ c, Nat.repeat drawTicket j s = setCounter c s := by
  induction j with
  | zero => exact ⟨s.xfr.counter, rfl⟩
  | succ j ih =>
    obtain ⟨c, h⟩ := ih
    exact ⟨nextTicket (setCounter c s) 13 (ticketAfter c), by rw [Nat.repeat, h]; rfl⟩

/-- What BEST finds for a supply does not depend on the draws before it. -/
theorem may_and_picked_draws {s : State} {n : SupplyNo} {p : Option Chosen} (j : Nat)
    (h : MayRestore s n ∧ Picked s n p) :
    MayRestore (Nat.repeat drawTicket j s) n ∧ Picked (Nat.repeat drawTicket j s) n p := by
  obtain ⟨c, e⟩ := draws_eq s j
  rw [e]
  refine ⟨⟨h.1.defined, h.1.state, h.1.idle⟩, ?_⟩
  cases p <;> exact h.2

/-- R35: requests judged after `j` draws: each that finds an input draws the ticket of its place. -/
theorem judge_picks (s : State) (picks : List (SupplyNo × Option Chosen)) (j : Nat)
    (judged : List (SupplyNo × Except Status Chosen)) (sound : ∀ p ∈ picks, MayRestore s p.1 ∧ Picked s p.1 p.2)
    (tickets : (picks.filterMap fun p => p.2).map (fun k => k.ticket) =
      (List.range (picks.filterMap fun p => p.2).length).map fun a => (Nat.repeat drawTicket (j + a) s).xfr.counter) :
    (picks.map fun p => p.1).foldl judgeNext ⟨Nat.repeat drawTicket j s, judged⟩ =
      ⟨Nat.repeat drawTicket (j + (picks.filterMap fun p => p.2).length) s,
        judged ++ picks.map fun p => (p.1, pickAnswer p.2)⟩ := by
  induction picks generalizing j judged with
  | nil => simp
  | cons p picks ih =>
    obtain ⟨n, c⟩ := p
    obtain ⟨may, picked⟩ := may_and_picked_draws j (sound (n, c) (by simp))
    have rest := fun q h => sound q (List.mem_cons_of_mem _ h)
    cases c with
    | none =>
      have drawn : ((n, none) :: picks).filterMap (fun p => p.2) = picks.filterMap fun p => p.2 := rfl
      rw [drawn] at tickets ⊢
      have one : judgeNext ⟨Nat.repeat drawTicket j s, judged⟩ n =
          ⟨Nat.repeat drawTicket j s, judged ++ [(n, pickAnswer none)]⟩ := by
        rw [judgeNext, judge_restore may picked nofun]
        rfl
      simp only [List.map_cons, List.foldl_cons, one]
      rw [ih j _ rest tickets, List.append_assoc]
      rfl
    | some k =>
      have drawn : ((n, some k) :: picks).filterMap (fun p => p.2) = k :: picks.filterMap fun p => p.2 := rfl
      rw [drawn] at tickets ⊢
      simp only [List.length_cons, List.map_cons, List.range_succ_eq_map, List.map_map,
        List.cons.injEq] at tickets
      obtain ⟨here, later⟩ := tickets
      have one : judgeNext ⟨Nat.repeat drawTicket j s, judged⟩ n =
          ⟨Nat.repeat drawTicket (j + 1) s, judged ++ [(n, pickAnswer (some k))]⟩ := by
        rw [judgeNext, judge_restore may picked fun _ e => Option.some.inj e ▸ here]
        rfl
      simp only [List.map_cons, List.foldl_cons, one, List.length_cons]
      rw [ih (j + 1) _ rest (by simpa [Function.comp_def, Nat.add_assoc, Nat.add_comm 1] using later), List.append_assoc,
        Nat.add_assoc, Nat.add_comm 1]
      rfl

/-! ## The claims, in rising number (R35) -/

/-- A change that leaves every source but for its claim, and every supply but one. -/
structure ClaimsOnly (n : SupplyNo) (s t : State) : Prop where
  source : ∀ i, ∃ c, t.source i = { s.source i with claim := c }
  supply : ∀ m, m ≠ n → t.supply m = s.supply m

theorem ClaimsOnly.of_src {n : SupplyNo} {s t : State} (src : t.src = s.src) (supply : ∀ m, m ≠ n → t.supply m = s.supply m) :
    ClaimsOnly n s t :=
  ⟨fun i => ⟨(s.source i).claim, by simp only [State.source, src]⟩, supply⟩

theorem ClaimsOnly.trans {n : SupplyNo} {s t u : State} (h : ClaimsOnly n s t) (k : ClaimsOnly n t u) : ClaimsOnly n s u where
  source i := by
    obtain ⟨c, e⟩ := h.source i
    obtain ⟨d, f⟩ := k.source i
    exact ⟨d, by rw [f, e]⟩
  supply m other := (k.supply m other).trans (h.supply m other)

section
variable (n : SupplyNo) (s : State)

theorem claimsOnly_refl : ClaimsOnly n s s := .of_src rfl fun _ _ => rfl

/-- A change that leaves the sources and the supplies alone. -/
theorem claimsOnly_of_tables {t : State} (src : t.src = s.src) (sup : t.sup = s.sup) : ClaimsOnly n s t :=
  .of_src src fun _ _ => by simp only [State.supply, sup]

theorem claimsOnly_setSupply (r : Supply) : ClaimsOnly n s (setSupply n r s) :=
  .of_src rfl fun m other => by simp [other.symm]

theorem claimsOnly_startPulse (x : Input) (dir : Dir) (restart : Bool) : ClaimsOnly n s (startPulse n x dir restart s) := by
  unfold startPulse
  cases dir <;> exact claimsOnly_setSupply n s _

theorem claimsOnly_commandClose (x : Input) (inStep : Bool) : ClaimsOnly n s (commandClose n x inStep s) := by
  unfold commandClose
  split
  · exact claimsOnly_startPulse n s x _ _
  · exact claimsOnly_refl n s

theorem claimsOnly_enterClosing : ClaimsOnly n s (enterClosing n s) := by
  unfold enterClosing
  split
  · exact (claimsOnly_of_tables n s (by rfl) (by rfl)).trans (claimsOnly_commandClose n _ _ _)
  · exact claimsOnly_refl n s

theorem claimsOnly_enterOpening : ClaimsOnly n s (enterOpening n s) := by
  unfold enterOpening openOrigin
  split
  · split
    · exact (claimsOnly_of_tables n s (by rfl) (by rfl)).trans (claimsOnly_startPulse n _ _ _ _)
    · exact claimsOnly_of_tables n s rfl rfl
  · exact claimsOnly_refl n s

theorem claimsOnly_enterSyncWait : ClaimsOnly n s (enterSyncWait n s) := by
  unfold enterSyncWait requestChannel grantChannel
  (repeat' split) <;> exact claimsOnly_of_tables n s rfl rfl

theorem claimsOnly_enterFirst (m : ModeEff) : ClaimsOnly n s (enterFirst n m s) := by
  cases m
  · exact claimsOnly_enterOpening n s
  · exact claimsOnly_enterSyncWait n s
  · exact claimsOnly_enterClosing n s

theorem claimsOnly_setClaim (k : Chosen) : ClaimsOnly n s (setClaim k s) where
  source i := by
    by_cases h : k.source = i
    · exact ⟨some k.ticket, by simp [setClaim, modSource, h]⟩
    · exact ⟨(s.source i).claim, by simp [setClaim, modSource, h]⟩
  supply _ _ := rfl

theorem claimsOnly_beginTransfer (q : Ask) (k : Chosen) (trip : Option Input) :
    ClaimsOnly q.supply s (beginTransfer q k trip s) := by
  unfold beginTransfer
  exact ((claimsOnly_of_tables q.supply s (by rfl) (by rfl)).trans (claimsOnly_setSupply q.supply _ _)).trans
    (claimsOnly_enterFirst q.supply _ _)

theorem claimsOnly_claimAndBegin (k : Chosen) : ClaimsOnly n s (claimAndBegin (restoreAsk n) k s).state := by
  unfold claimAndBegin
  split
  · exact claimsOnly_refl n s
  · exact (claimsOnly_setClaim n s k).trans (claimsOnly_beginTransfer _ (restoreAsk n) k none)

/-- R35: one claim changes no source but its claim, and no supply but its own. -/
theorem claimsOnly_takeRestore (v : Except Status Chosen) : ClaimsOnly n s (takeRestore s (n, v)) := by
  unfold takeRestore
  split
  · exact claimsOnly_setSupply n s _
  · rename_i k answer
    have claimed := claimsOnly_claimAndBegin n s k
    split <;> rename_i e
    · rw [e] at claimed
      exact claimed.trans (claimsOnly_setSupply n _ _)
    · rwa [e] at claimed

end

/-- R35, R45: what a judged supply's turn comes to: its pick claimed and its transfer begun, or the refusal kept. -/
def claimPick (u : State) (p : SupplyNo × Option Chosen) : State :=
  match p.2 with
  | none => setSupply p.1 { u.supply p.1 with restoreWaiting := true, lastRestore := some .noAlternative } u
  | some k =>
    if (u.source k.source).claim = none then
      enterFirst p.1 (if (u.supply p.1).state = .dark then .closeOnly else .break)
        (setSupply p.1 { u.supply p.1 with state := .transfer, ticket := some k.ticket, restoreWaiting := false,
                                           lastRestore := none }
          (setSlot p.1 (some
            { ticket := k.ticket, origin := (u.supply p.1).closed,
              originSource := (u.supply p.1).closed.bind fun y => (u.input p.1 y).source,
              originTripped := decide ((u.supply p.1).state = .tripped), target := k.target,
              targetSource := k.source, modeReq := .auto,
              mode := if (u.supply p.1).state = .dark then .closeOnly else .break, priority := 7,
              originator := .supply, phase := .syncWait, phaseTimer := none, syncTimer := none,
              syncChannel := none, overlapExpired := false, abortRequested := false, pendingResult := none,
              excursion := false, startTime := u.stl.clock.time, endTime := none, result := none,
              tripReport := none })
            (setSource k.source { u.source k.source with claim := some k.ticket } u)))
    else setSupply p.1 { u.supply p.1 with restoreWaiting := true, lastRestore := some .lost } u

/-- R45: the mode in effect of a restore. -/
theorem modeInEffect_restore {r : SupplyState} (h : r = .tripped ∨ r = .dark) :
    modeInEffect r .auto = if r = .dark then .closeOnly else .break := by
  rcases h with rfl | rfl <;> rfl

theorem admittedSlot_restore {u : State} {n : SupplyNo} (k : Chosen)
    (state : (u.supply n).state = .tripped ∨ (u.supply n).state = .dark) :
    admittedSlot (restoreAsk n) k none (setClaim k u) =
      { ticket := k.ticket, origin := (u.supply n).closed,
        originSource := (u.supply n).closed.bind fun y => (u.input n y).source,
        originTripped := decide ((u.supply n).state = .tripped), target := k.target, targetSource := k.source,
        modeReq := .auto, mode := if (u.supply n).state = .dark then .closeOnly else .break, priority := 7,
        originator := .supply, phase := .syncWait, phaseTimer := none, syncTimer := none, syncChannel := none,
        overlapExpired := false, abortRequested := false, pendingResult := none, excursion := false,
        startTime := u.stl.clock.time, endTime := none, result := none, tripReport := none } := by
  rw [← modeInEffect_restore state]
  rfl

/-- R14, R35: the claim of a pick whose source was available when it was judged: granted unless another has claimed it. -/
theorem takeRestore_pick {u : State} {n : SupplyNo} {p : Option Chosen}
    (state : (u.supply n).state = .tripped ∨ (u.supply n).state = .dark)
    (ready : ∀ k, p = some k → available { u.source k.source with claim := none } = true) :
    takeRestore u (n, pickAnswer p) = claimPick u (n, p) := by
  cases p with
  | none => rfl
  | some k =>
    have avail := ready k rfl
    obtain ⟨running, -, -, -, reservation⟩ := (available_iff _).mp avail
    have answer := claimAnswer_eq (u.source k.source) (by simp only at running; simp [running]) reservation
      fun unclaimed => by simpa [← unclaimed] using avail
    by_cases unclaimed : (u.source k.source).claim = none
    · rw [if_pos unclaimed] at answer
      simp only [takeRestore, pickAnswer, claimAndBegin, answer, claimPick, unclaimed, if_true, beginTransfer,
        admittedSlot_restore k state]
      rfl
    · rw [if_neg unclaimed] at answer
      simp only [takeRestore, pickAnswer, claimAndBegin, answer, claimPick, unclaimed, if_false]
      rfl

/-- R35: the claims in rising number, each supply still as it was judged and each source but for its claim. -/
theorem claim_picks {s u : State} {picks : List (SupplyNo × Option Chosen)}
    (apart : (picks.map fun p => p.1).Pairwise (· < ·))
    (sound : ∀ p ∈ picks, MayRestore s p.1 ∧ Picked s p.1 p.2)
    (sources : ∀ i, ∃ c, u.source i = { s.source i with claim := c })
    (supplies : ∀ p ∈ picks, u.supply p.1 = s.supply p.1) :
    (picks.map fun p => (p.1, pickAnswer p.2)).foldl takeRestore u = picks.foldl claimPick u := by
  induction picks generalizing u with
  | nil => rfl
  | cons p picks ih =>
    obtain ⟨n, c⟩ := p
    obtain ⟨may, picked⟩ := sound (n, c) (by simp)
    have same : u.supply n = s.supply n := supplies (n, c) (by simp)
    have ready (k : Chosen) (e : c = some k) : available { u.source k.source with claim := none } = true := by
      subst e
      obtain ⟨⟨-, -, -, -, avail⟩, -⟩ := picked
      obtain ⟨d, e⟩ := sources k.source
      have unclaimed := ((available_iff _).mp avail).2.2.2.1
      rw [e]
      simpa [← unclaimed] using avail
    have kept := claimsOnly_takeRestore n u (pickAnswer c)
    have step := takeRestore_pick (p := c) (same ▸ may.state) ready
    obtain ⟨below, rest⟩ := List.pairwise_cons.mp apart
    rw [List.map_cons, List.foldl_cons, List.foldl_cons, ← step]
    refine ih rest (fun q h => sound q (List.mem_cons_of_mem _ h)) (fun i => ?_) fun q h => ?_
    · obtain ⟨d, e⟩ := sources i
      obtain ⟨f, g⟩ := kept.source i
      exact ⟨f, by rw [g, e]⟩
    · have later : q.1 ≠ n := (below q.1 (List.mem_map_of_mem h)).ne'
      rw [kept.supply q.1 later, supplies q (List.mem_cons_of_mem _ h)]

/-- R35, R36: supplies that request at once are all judged first, and then claim in rising number. -/
theorem restoreRequests_picks {s : State} {ns : List SupplyNo} {picks : List (SupplyNo × Option Chosen)}
    (rising : ns.Pairwise (· < ·)) (named : picks.map (fun p => p.1) = ns)
    (sound : ∀ p ∈ picks, MayRestore s p.1 ∧ Picked s p.1 p.2)
    (tickets : (picks.filterMap fun p => p.2).map (fun k => k.ticket) =
      (List.range (picks.filterMap fun p => p.2).length).map fun a => (Nat.repeat drawTicket a s).xfr.counter) :
    restoreRequests ns s =
      picks.foldl claimPick (Nat.repeat drawTicket (picks.filterMap fun p => p.2).length s) := by
  subst named
  have judged := judge_picks s picks 0 [] sound (by simpa using tickets)
  rw [Nat.zero_add, List.nil_append] at judged
  have drawn : judgeRestores (picks.map fun p => p.1) s = _ := judged
  obtain ⟨c, counted⟩ := draws_eq s (picks.filterMap fun p => p.2).length
  rw [restoreRequests, drawn]
  refine claim_picks (s := s) rising sound (fun i => ⟨(s.source i).claim, ?_⟩) fun p _ => ?_
  · rw [counted]
    rfl
  · rw [counted]
    rfl

/-! ## The statement -/

/-- R6, R7, R13: a report of a source on hire, in the state it is heard in. -/
theorem takeReport_reported {s : State} {i : SourceNo} {h : Hire} {run : Bool} {load volts freq gauge : Nat}
    {alarms : BitVec 8} {tel : Telemetry} {r : Source} {u : State} (on : onHire (s.source i) = true)
    (hired : (s.source i).hire = some h) (clamped : tel = clampReport h.rating run load volts freq gauge alarms)
    (record : r = { s.source i with
      telemetry := some tel, staleTimer := some (s.ms + h.staleTime * 1000), stale := false,
      implausible := decide (freq < 40000 ∨ 70000 < freq),
      state := if (s.source i).state = .refuel then .refuel else if run then .running else .stopped })
    (told : u = setSource i r
      (let u := if (s.source i).stale then logAppend .sourceFresh (num i) (some tel.load) (some tel.freq) s else s
       if (freq < 40000 ∨ 70000 < freq) ∧ (s.source i).implausible = false
        then raise (.sourceAlert i .implausible) toFleetAndConsole u else u)) :
    takeReport i run load volts freq gauge alarms s =
      if available (s.source i) = false ∧ available r = true then reportAvailable i u else u := by
  have moved : reported s.ms tel (implausibleFreq freq) (s.source i) = r := by
    subst clamped
    rw [record, ← reportedState_onHire on, ← implausibleFreq_eq, reported, hireOf_hired hired]
    rfl
  have raised : alertImplausible i (implausibleFreq freq && !(s.source i).implausible)
      (logFresh i (s.source i).stale tel s) =
      (let u := if (s.source i).stale then logAppend .sourceFresh (num i) (some tel.load) (some tel.freq) s else s
       if (freq < 40000 ∨ 70000 < freq) ∧ (s.source i).implausible = false
        then raise (.sourceAlert i .implausible) toFleetAndConsole u else u) := by
    simp [alertImplausible, logFresh, implausibleFreq]
  rw [takeReport_eq hired, ← clamped, changeSource_eq, alertImplausible_source, logFresh_source, moved, raised, ← told]

/-- Settles O24, clause by clause; the judgement and the claims of supplies that request at once are
`restoreRequests_picks`. -/
theorem sourceReportsAndStaleTimer : Obligations.SourceReportsAndStaleTimer := by
  refine ⟨?report, available_iff, changeSource_eq, ?concerned, ?request, ?atOnce, ?stale⟩
  case report =>
    intro rq n st s i h run load volts freq gauge alarms taken
    refine ⟨fun off => ?_, fun on hired tel r u clamped record told => ?_⟩
    · exact request_anyObject taken (ownerReport_idle n _ (heard rq n s) run load volts freq gauge alarms off)
    · have effect := takeReport_reported (s := heard rq n s) on hired clamped record told
      rw [heard_source_at] at effect
      rw [← effect]
      exact request_done _ _ _ _ n st s taken (fun _ => rfl) _ _ _
        (ownerReport_onHire n _ (heard rq n s) run load volts freq gauge alarms on hired)
  case concerned =>
    intro s i waits h
    have concerned (n : SupplyNo) : waits n ↔ restoresOnto s i n = true := (h n).trans (restoresOnto_iff s i n).symm
    refine ⟨fun nobody => ?_, fun n here only => ?_, fun ns rising members => ?_⟩
    · exact reportAvailable_eq (ns := []) .nil fun n => by simpa [← concerned] using nobody n
    · refine reportAvailable_eq (ns := [n]) (List.pairwise_singleton _ _) fun m => ?_
      rw [List.mem_singleton, ← concerned]
      exact ⟨fun e => e ▸ here, only m⟩
    · exact reportAvailable_eq rising fun n => (members n).trans (concerned n)
  case request =>
    rintro s u n a rfl
    exact ⟨fun k x m h => restoreRequest_accepted h, fun e h => restoreRequest_refused h⟩
  case atOnce =>
    rintro s ns picks fits rising named may fitting best none_fits drawn rfl tickets
    have sound (p : SupplyNo × Option Chosen) (h : p ∈ picks) : MayRestore s p.1 ∧ Picked s p.1 p.2 := by
      obtain ⟨defined, state, idle⟩ := may p.1 (named ▸ List.mem_map_of_mem h)
      refine ⟨⟨defined, state, idle⟩, ?_⟩
      obtain ⟨n, c⟩ := p
      cases c with
      | none => exact fun y i f => none_fits n h y i ((fitting n y i).mpr f)
      | some k =>
        obtain ⟨f, first⟩ := best n k h
        exact ⟨(fitting _ _ _).mp f, fun y i before g => first y i before ((fitting _ _ _).mpr g)⟩
    exact restoreRequests_picks rising named sound tickets
  case stale =>
    intro s i due timer
    exact ⟨fun old => congrArg Host.Outcome.next (staleExpiry_stale timer old),
      fun tel fresh reports => congrArg Host.Outcome.next (staleExpiry_fresh timer fresh reports)⟩

end Sys2Proof.Machine
end

section
/-! The reading of the part's timers (log entry 2): what the panels, the transfers, the deliveries and the closing of
figures do inside a step leaves it where the step has moved it. One lemma per shared operation. -/

namespace Sys2Proof.Machine

section
variable (s : State)

@[simp] theorem now_modSource (i : SourceNo) (f : Source → Source) : (modSource i f s).now = s.now := rfl
@[simp] theorem now_modSupply (n : SupplyNo) (f : Supply → Supply) : (modSupply n f s).now = s.now := rfl
@[simp] theorem now_modSlot (n : SupplyNo) (f : Transfer → Transfer) : (modSlot n f s).now = s.now := rfl
@[simp] theorem now_modDelivery (d : SlotNo) (f : Delivery → Delivery) : (modDelivery d f s).now = s.now := rfl
@[simp] theorem now_drawTicket : (drawTicket s).now = s.now := rfl
@[simp] theorem now_setClaim (k : Chosen) : (setClaim k s).now = s.now := rfl
@[simp] theorem now_restoreRefused (n : SupplyNo) (e : Status) : (restoreRefused n e s).now = s.now := rfl
@[simp] theorem now_clearWaiting (n : SupplyNo) : (clearWaiting n s).now = s.now := rfl
@[simp] theorem now_derived (n : SupplyNo) (st : SupplyState) (closed : Option Input) (record : Option SourceNo) :
    (derived n st closed record s).now = s.now := rfl
@[simp] theorem now_closeWindows (n : SupplyNo) : (closeWindows n s).now = s.now := rfl
@[simp] theorem now_dropReturn (n : SupplyNo) : (dropReturn n s).now = s.now := rfl
@[simp] theorem now_putReturn (e : ReturnEntry) : (putReturn e s).now = s.now := rfl
@[simp] theorem now_tellWatch (w : WatchNo) (t : Transfer) (result : Result) : (tellWatch w t result s).now = s.now := rfl
@[simp] theorem now_startSurveyTimer (d : SlotNo) : (startSurveyTimer d s).now = s.now := rfl
@[simp] theorem now_clearBlocked (d : SlotNo) : (clearBlocked d s).now = s.now := rfl

end

/-- The state in a result whose parts are named. -/
theorem now_of_eq {α : Type} {r : With α} {t s : State} {v : α} (e : r = ⟨t, v⟩) (h : r.state.now = s.now) :
    t.now = s.now := by
  rwa [e] at h

theorem now_foldl {α : Type} (f : State → α → State) (h : ∀ s a, (f s a).now = s.now) (l : List α) (s : State) :
    (l.foldl f s).now = s.now := by
  induction l generalizing s with
  | nil => rfl
  | cons a l ih => rw [List.foldl_cons, ih, h]

section
variable (s : State)

/-! ## Channels, pulses and phases -/

@[simp] theorem now_grantChannel (c : SyncNo) (n : SupplyNo) : (grantChannel c n s).now = s.now := by
  unfold grantChannel
  split <;> rfl

@[simp] theorem now_requestChannel (n : SupplyNo) : (requestChannel n s).now = s.now := by
  unfold requestChannel
  split <;> simp

@[simp] theorem now_releaseChannel (ticket : Nat) : (releaseChannel ticket s).now = s.now := by
  unfold releaseChannel
  (repeat' split) <;> simp

@[simp] theorem now_startPulse (n : SupplyNo) (x : Input) (dir : Dir) (restart : Bool) :
    (startPulse n x dir restart s).now = s.now := by
  cases dir <;> rfl

@[simp] theorem now_commandClose (n : SupplyNo) (x : Input) (inStep : Bool) :
    (commandClose n x inStep s).now = s.now := by
  unfold commandClose
  split <;> simp

@[simp] theorem now_openOrigin (n : SupplyNo) (t : Transfer) : (openOrigin n t s).now = s.now := by
  unfold openOrigin
  split <;> simp

@[simp] theorem now_enterOpening (n : SupplyNo) : (enterOpening n s).now = s.now := by
  unfold enterOpening
  split <;> simp

@[simp] theorem now_enterClosing (n : SupplyNo) : (enterClosing n s).now = s.now := by
  unfold enterClosing
  split <;> simp

@[simp] theorem now_enterFirst (n : SupplyNo) (m : ModeEff) : (enterFirst n m s).now = s.now := by
  cases m <;> simp [enterFirst, enterSyncWait]

/-! ## Admission and restores -/

@[simp] theorem now_chooseTarget (pre : Option Nat) (q : Ask) : (chooseTarget pre q s).state.now = s.now := by
  unfold chooseTarget
  (repeat' split) <;> rfl

@[simp] theorem now_beginTransfer (q : Ask) (k : Chosen) (trip : Option Input) :
    (beginTransfer q k trip s).now = s.now := by
  simp [beginTransfer]

@[simp] theorem now_claimAndBegin (q : Ask) (k : Chosen) : (claimAndBegin q k s).state.now = s.now := by
  unfold claimAndBegin
  split
  · rfl
  · exact now_beginTransfer _ q k none

@[simp] theorem now_judge (q : Ask) : (judge q s).state.now = s.now := by
  unfold judge
  split <;> simp

@[simp] theorem now_admission (q : Ask) : (admission q s).state.now = s.now := by
  unfold admission
  split <;> rename_i judged
  · exact now_of_eq judged (now_judge s q)
  · rw [now_claimAndBegin]
    exact now_of_eq judged (now_judge s q)

theorem now_judgeRestores (ns : List SupplyNo) : (judgeRestores ns s).state.now = s.now := by
  have each (acc : With (List (SupplyNo × Except Status Chosen))) :
      (ns.foldl judgeNext acc).state.now = acc.state.now := by
    induction ns generalizing acc with
    | nil => rfl
    | cons n ns ih => rw [List.foldl_cons, ih, judgeNext, now_judge]
  exact each ⟨s, []⟩

theorem now_takeRestore (v : SupplyNo × Except Status Chosen) : (takeRestore s v).now = s.now := by
  unfold takeRestore
  split
  · rfl
  · split <;> rename_i begun
    · rw [now_restoreRefused]
      exact now_of_eq begun (now_claimAndBegin s _ _)
    · exact now_of_eq begun (now_claimAndBegin s _ _)

@[simp] theorem now_restoreRequests (ns : List SupplyNo) : (restoreRequests ns s).now = s.now := by
  rw [restoreRequests, now_foldl takeRestore now_takeRestore, now_judgeRestores]

@[simp] theorem now_changeSource (i : SourceNo) (f : Source → Source) : (changeSource i f s).now = s.now := by
  rw [changeSource_eq]
  split <;> simp [reportAvailable]

/-! ## The end of a transfer -/

@[simp] theorem now_reportBlock (d : SlotNo) (n : SupplyNo) (why : StatusOrResult) :
    (reportBlock d n why s).now = s.now := by
  unfold reportBlock
  (repeat' split) <;> simp

theorem now_tellUnloadFailed (n : SupplyNo) (t : Transfer) (result : Result) :
    (tellUnloadFailed n t result s).now = s.now := by
  unfold tellUnloadFailed
  (repeat' split) <;> simp [unloadFailed]

theorem now_tellReturnFailed (t : Transfer) (result : Result) : (tellReturnFailed t result s).now = s.now := by
  unfold tellReturnFailed
  split
  · dsimp only
    split <;> simp [abandonReturn]
  · rfl

@[simp] theorem now_tellFailed (n : SupplyNo) (t : Transfer) (result : Result) :
    (tellFailed n t result s).now = s.now := by
  unfold tellFailed
  split <;> simp [now_tellUnloadFailed, now_tellReturnFailed]

@[simp] theorem now_reportEnd (n : SupplyNo) (t : Transfer) (result : Result) : (reportEnd n t result s).now = s.now := by
  simp [reportEnd]

theorem now_endPreempted (n : SupplyNo) : (endPreempted n s).now = s.now := by
  unfold endPreempted
  split <;> simp [releaseSteps]

theorem now_preempt (q : Ask) (t : Transfer) : (preempt q t s).state.now = s.now := by
  unfold preempt
  split <;> rename_i chosen
  · exact now_of_eq chosen (now_chooseTarget s _ q)
  · have drawn := now_of_eq chosen (now_chooseTarget s _ q)
    split
    · exact drawn
    · simpa [now_endPreempted] using drawn

@[simp] theorem now_admitOrPreempt (q : Ask) : (admitOrPreempt q s).state.now = s.now := by
  unfold admitOrPreempt
  (repeat' split) <;> simp [now_preempt]

/-! ## Surveys -/

theorem now_surveyStepOne (d : SlotNo) : (surveyStepOne d s).state.now = s.now := by
  unfold surveyStepOne
  (repeat' split) <;> rfl

theorem now_requestUnload (d : SlotNo) (n : SupplyNo) : (requestUnload d s n).now = s.now := by
  unfold requestUnload
  split
  · split
    · split <;> rename_i asked
      · rw [now_modDelivery]
        exact now_of_eq asked (now_admitOrPreempt s _)
      · rw [now_reportBlock, now_modDelivery]
        exact now_of_eq asked (now_admitOrPreempt s _)
    · rfl
  · rfl

@[simp] theorem now_survey (d : SlotNo) : (survey d s).now = s.now := by
  unfold survey
  split <;> rename_i first
  · exact now_of_eq first (now_surveyStepOne s d)
  · rw [now_foldl (requestUnload d) (fun s n => now_requestUnload s d n), now_clearBlocked]
    exact now_of_eq first (now_surveyStepOne s d)

theorem now_raiseLoaded (d : SlotNo) : (raiseLoaded d s).now = s.now := by
  unfold raiseLoaded
  split <;> simp

theorem now_loadedByHand (i : SourceNo) : (loadedByHand i s).now = s.now := by
  unfold loadedByHand
  (repeat' split) <;> simp [now_raiseLoaded]

/-! ## The derivation of a supply -/

@[simp] theorem now_restoreIfSet (n : SupplyNo) : (restoreIfSet n s).now = s.now := by
  unfold restoreIfSet
  split <;> simp [restoreRequest]

theorem now_panelFault (n : SupplyNo) (x : Input) (closed : Bool) : (panelFault n x closed s).now = s.now := by
  unfold panelFault
  dsimp only
  (repeat' split) <;> simp [now_loadedByHand]

theorem now_deriveOne (n : SupplyNo) (x : Input) : (deriveOne n x s).now = s.now := by
  unfold deriveOne
  (repeat' split) <;> simp [deriveFault, now_panelFault, logUncommanded, reportTrip]

@[simp] theorem now_derive (n : SupplyNo) : (derive n s).now = s.now := by
  unfold derive
  split <;> simp [now_deriveOne, deriveFault]

/-! ## The closing of figures -/

@[simp] theorem now_announceHire (serial : Nat) : (announceHire serial s).now = s.now := by
  simp only [announceHire, fileInto, closeHire, setRecords_now]

@[simp] theorem now_announceBurn (serial : Nat) : (announceBurn serial s).now = s.now := by
  have raised (before v : State) (i : SourceNo) : (raiseDry before v i).now = v.now := by
    unfold raiseDry
    split <;> simp
  simp only [announceBurn, fileInto, closeBurn, setRecords_now]
  rw [now_foldl _ (raised s)]

@[simp] theorem now_announceMatrix (serial : Nat) : (announceMatrix serial s).now = s.now := by
  simp only [announceMatrix, fileInto, closeMatrix, setRecords_now]

@[simp] theorem now_announceDark (serial : Nat) : (announceDark serial s).now = s.now := by
  simp only [announceDark, fileInto, closeDark, setRecords_now]

end

end Sys2Proof.Machine
end

section
/-! The warm restart, stage by stage (R18, R38, R65, R75, R88, R107, R118, R136, R149, R150, R156, R160, R165), in the
order of log entry 19. -/

namespace Sys2Proof.Machine

theorem look_replicate {α : Type} (n : Nat) (x : α) (i : Fin n) : look (Vector.replicate n x) i = x := by
  simp [look]

/-! ## STN: the flags, RESTARTED and the gap marks (R156, R160, R165) -/

/-- The flags of a station on resume. -/
theorem warmStation_eq (oldest ms : Nat) (st : Station) : ∃ g, warmGap oldest (warmStation ms st) =
      { st with flags := g, lastRequest := ms, gapMark := decide (st.cursor < oldest) } ∧
    ∀ i, look g i =
      if i = causeIndex .restarted then some .restartedWarm
      else if i = causeIndex .logGap ∧ st.cursor < oldest then some (.logGap oldest (oldest - st.cursor))
      else none := by
  have told (i : Fin 11) : look (upd (Vector.replicate 11 none) (causeIndex .restarted) (some Detail.restartedWarm)) i =
      if i = causeIndex .restarted then some .restartedWarm else none := by
    simp [look_replicate, eq_comm]
  by_cases behind : st.cursor < oldest
  · have behind' : (warmStation ms st).cursor < oldest := behind
    refine ⟨upd (warmStation ms st).flags (causeIndex .logGap) (some (.logGap oldest (oldest - st.cursor))), ?_, ?_⟩
    · rw [warmGap, if_pos behind']
      simp only [behind, decide_true]
      rfl
    · intro i
      rw [look_upd]
      by_cases gap : causeIndex .logGap = i
      · subst gap
        simp [behind, show causeIndex .logGap ≠ causeIndex .restarted by decide]
      · rw [if_neg gap, if_neg (fun h : i = causeIndex .logGap ∧ _ => gap h.1.symm)]
        exact told i
  · have behind' : ¬ (warmStation ms st).cursor < oldest := behind
    refine ⟨(warmStation ms st).flags, ?_, fun i => ?_⟩
    · rw [warmGap, if_neg behind']
      simp only [behind, decide_false]
      rfl
    · rw [if_neg (fun h : i = causeIndex .logGap ∧ _ => behind h.2)]
      exact told i

theorem warmStations_station (s : State) (n : StationNo) : (warmStations s).station n =
    (s.station n).map fun st => warmGap (oldestOf s.log) (warmStation s.ms st) := by
  simp [warmStations, eachStation, State.station, setHold]

/-- The outage added and the stations told: nothing but the clock and STN moves. -/
theorem told_eq (s : State) (elapsed : Nat) : warmStations (outage elapsed s) =
    { s with stl := { s.stl with clock := { s.stl.clock with time := min (s.stl.clock.time + elapsed) 4294967295 } },
             stn := (warmStations (outage elapsed s)).stn } := by
  simp only [warmStations, eachStation, setHold, outage, setClock, hold32, max32]

/-! ## The records of every block -/

section
variable (found : Found) (s : State)

/-- What every block clears and keeps, in one write. -/
theorem warmRecords_eq : warmRecords found s =
    { s with
      lnk := tab fun p => warmPort (s.port p)
      src := tab fun i => warmSource s.ms (s.source i)
      syn := { s.syn with channels := Vector.replicate 4 SyncChan.cold, queue := [] }
      tnk := { s.tnk with tanks := tab fun i => { s.tank i with lastRate := 0, lastLoad := none, loadKind := none } }
      mtr := { s.mtr with channels := tab fun k => warmChan s.ms (look found.meter k) (s.chan k) }
      wch := tab fun w => warmWatch (s.watch w)
      dlv := { slots := tab fun d => (s.delivery d).map (warmDelivery s.ms s.clock)
               lastEnded := tab fun i => (s.lastEnded i).map fun r => { r with unloads := [] }
               returns := s.dlv.returns.map (warmReturn s.ms s.clock), fill := found.fill
               fillUnread := Vector.replicate 16 true } } := by
  simp only [warmRecords, warmDeliveries, warmWatches, warmChannels, warmTanks, warmSyn, warmSources, warmPorts, State.ms,
    State.clock, State.source, State.tank, State.chan, State.watch, State.delivery, State.lastEnded]

theorem warmRecords_frame : warmRecords found s =
    { s with lnk := (warmRecords found s).lnk, src := (warmRecords found s).src, syn := (warmRecords found s).syn,
             tnk := (warmRecords found s).tnk, dlv := (warmRecords found s).dlv, mtr := (warmRecords found s).mtr,
             wch := (warmRecords found s).wch } := by
  simp only [warmRecords_eq]

theorem warmRecords_port (p : PortNo) : (warmRecords found s).port p = warmPort (s.port p) := by
  rw [warmRecords_eq]
  exact look_tab _ p

theorem warmRecords_source (i : SourceNo) : (warmRecords found s).source i = warmSource s.ms (s.source i) := by
  rw [warmRecords_eq]
  exact look_tab _ i

theorem warmRecords_sync (k : SyncNo) : (warmRecords found s).sync k = SyncChan.cold := by
  rw [warmRecords_eq]
  exact look_replicate _ _ k

theorem warmRecords_tank (i : SourceNo) : (warmRecords found s).tank i =
    { s.tank i with lastRate := 0, lastLoad := none, loadKind := none } := by
  rw [warmRecords_eq]
  exact look_tab _ i

theorem warmRecords_chan (k : ChannelNo) :
    (warmRecords found s).chan k = warmChan s.ms (look found.meter k) (s.chan k) := by
  rw [warmRecords_eq]
  exact look_tab _ k

theorem warmRecords_watch (w : WatchNo) : (warmRecords found s).watch w = warmWatch (s.watch w) := by
  rw [warmRecords_eq]
  exact look_tab _ w

theorem warmRecords_delivery (d : SlotNo) :
    (warmRecords found s).delivery d = (s.delivery d).map (warmDelivery s.ms s.clock) := by
  rw [warmRecords_eq]
  exact look_tab _ d

theorem warmRecords_lastEnded (i : SourceNo) :
    (warmRecords found s).lastEnded i = (s.lastEnded i).map fun r => { r with unloads := [] } := by
  rw [warmRecords_eq]
  exact look_tab _ i

/-- The figures that no block clears, and DLV's lists and lines. -/
theorem warmRecords_rest :
    (warmRecords found s).syn.queue = [] ∧ (warmRecords found s).syn.limits = s.syn.limits ∧
      (warmRecords found s).tnk.price = s.tnk.price ∧ (warmRecords found s).mtr.matrix = s.mtr.matrix ∧
      (warmRecords found s).dlv.returns = s.dlv.returns.map (warmReturn s.ms s.clock) ∧
      (warmRecords found s).dlv.fill = found.fill ∧ ∀ i, look (warmRecords found s).dlv.fillUnread i = true := by
  rw [warmRecords_eq]
  exact ⟨rfl, rfl, rfl, rfl, rfl, rfl, look_replicate _ _⟩

end

/-! ### One record -/

theorem warmSource_idle {ms : Nat} {r : Source} (off : onHire r = false) : warmSource ms r = { r with claim := none } := by
  simp [warmSource, off]

/-- R18. -/
theorem warmSource_onHire {ms : Nat} {r : Source} {h : Hire} (on : onHire r = true) (hired : r.hire = some h) :
    warmSource ms r = { r with stale := true, staleTimer := some (ms + h.staleTime * 1000), claim := none } := by
  simp [warmSource, on, hireOf_hired hired]

/-- R107: an armed delivery, waiting or not. -/
theorem warmDelivery_armed {ms time : Nat} {r : Delivery} (h : r.state = .armed ∨ r.state = .waitingUnload) :
    warmDelivery ms time r = { r with
      unloads := [], armTimer := some (ms + r.armMinutes * 60000), finishTimer := none, surveyTimer := none,
      deadline := some (time + r.armMinutes * 60) } := by
  rcases h with h | h <;> simp [warmDelivery, h]

theorem warmDelivery_filled {ms time : Nat} {r : Delivery} (h : r.state = .filled) : warmDelivery ms time r = { r with
    unloads := [], armTimer := none, finishTimer := some (ms + r.finishMinutes * 60000), surveyTimer := none,
    deadline := some (time + r.finishMinutes * 60) } := by
  simp [warmDelivery, h]

theorem warmDelivery_opened {ms time : Nat} {r : Delivery} (h : r.state = .opened) : warmDelivery ms time r = { r with
    unloads := [], armTimer := none, finishTimer := none, surveyTimer := none } := by
  simp [warmDelivery, h]

/-! ## The lines (R38) -/

theorem warmLines_supply (found : Found) (s : State) (n : SupplyNo) : (warmLines found s).supply n =
    { s.supply n with inputs := warmInputs s.ms (look found.aux n) (s.supply n).inputs, restoreWaiting := false,
                      lastRestore := none } := by
  simp [warmLines, State.supply]

theorem warmInputs_get (ms : Nat) (aux : Abc Bool) (r : Abc InputRec) (x : Input) :
    (warmInputs ms aux r).get x = warmInput ms (aux.get x) (r.get x) := by
  cases x <;> rfl

theorem warmLines_input (found : Found) (s : State) (n : SupplyNo) (x : Input) : (warmLines found s).input n x =
    warmInput s.ms ((look found.aux n).get x) (s.input n x) := by
  rw [State.input, warmLines_supply]
  exact warmInputs_get _ _ _ x

theorem warmLines_frame (found : Found) (s : State) :
    warmLines found s = { s with sup := (warmLines found s).sup } := by
  simp only [warmLines]

/-! ## One transfer, one supply, one delivery -/

theorem inFlight_eq_none {s : State} {n : SupplyNo} (h : ∀ t, ¬ flying s n t) : inFlight s n = none :=
  Option.eq_none_iff_forall_ne_some.mpr fun t e => h t ((flying_iff s n t).mpr e)

theorem interrupt_idle {s : State} {n : SupplyNo} (h : ∀ t, ¬ flying s n t) : interrupt s n = s := by
  simp [interrupt, inFlight_eq_none h]

/-- R65: the transfer in flight ends, the originator told. -/
theorem interrupt_flying {s : State} {n : SupplyNo} {t : Transfer} (h : flying s n t) :
    interrupt s n = tellOriginator n t .interrupted
      (raise (.transferEnded t.ticket n .interrupted) (endedAudience s t.originator .interrupted)
        (logAppend .transferEnd (some t.ticket) (num n) (some (resultCode .interrupted))
          (setSlot n (some { t with phaseTimer := none, syncTimer := none, syncChannel := none, tripReport := none,
                                    result := some .interrupted, endTime := some s.stl.clock.time }) s))) := by
  have slot : s.slot n = some t := h.1
  rw [interrupt, (flying_iff s n t).mp h]
  simp only [reportEnd, modSlot, slot, Option.map_some]
  rfl

theorem mem_closedInputs (s : State) (n : SupplyNo) (x : Input) : x ∈ closedInputs s n ↔ (s.input n x).aux = true := by
  simp [closedInputs]

/-- R38: two inputs or more are closed. -/
theorem two_closed_iff (s : State) (n : SupplyNo) :
    2 ≤ (closedInputs s n).length ↔ ∃ x y, x ≠ y ∧ (s.input n x).aux = true ∧ (s.input n y).aux = true := by
  have nodup : (closedInputs s n).Nodup := List.Nodup.filter _ (by decide)
  rw [← List.toFinset_card_of_nodup nodup, Nat.succ_le_iff, Finset.one_lt_card_iff]
  simp only [List.mem_toFinset, mem_closedInputs]
  exact exists_congr fun x => exists_congr fun y => by tauto

theorem warmSupply_undefined {s : State} {n : SupplyNo} (h : (s.supply n).defined = false) : warmSupply s n = s := by
  simp [warmSupply, h]

/-- R38: the restart open, for a supply found in TRANSFER with two inputs closed or more. -/
theorem warmSupply_restartOpen {s : State} {n : SupplyNo} {t : Transfer} (h : (s.supply n).defined = true)
    (slot : s.slot n = some t) (state : (s.supply n).state = .transfer) (two : 2 ≤ (closedInputs s n).length) :
    warmSupply s n = restartOpen n t s := by
  simp [warmSupply, h, slot, state, two]

theorem restartOpen_eq (n : SupplyNo) (t : Transfer) (s : State) : restartOpen n t s =
    setInput n t.target
      { s.input n t.target with
        openPulse := some (s.now / 1000 + 100),
        window := some { dir := .toOpen, ends := s.now / 1000 + (s.supply n).timing.confirm, restart := true } }
      (setSupply n { s.supply n with state := .fault, closed := none, record := none } s) := by
  have same (x : Input) : (derived n .fault none none s).input n x = s.input n x := by
    simp [derived, modSupply, State.input]
  have timing : ((derived n .fault none none s).supply n).timing = (s.supply n).timing := by simp [derived, modSupply]
  simp only [restartOpen, startPulse, modInput, same, timing]
  rfl

theorem warmSupply_derives {s : State} {n : SupplyNo} (h : (s.supply n).defined = true)
    (resting : (s.supply n).state ≠ .transfer ∨ s.slot n = none ∨ ¬ 2 ≤ (closedInputs s n).length) :
    warmSupply s n = derive n s := by
  unfold warmSupply
  rw [if_pos h]
  split
  · rename_i t slot
    rw [if_neg]
    simpa [slot, imp_iff_not_or] using resting
  · rfl

theorem unloading_iff (s : State) (r : Delivery) : unloading s r = true ↔
    r.state = .waitingUnload ∨
      (r.state = .opened ∧ r.fillWhileLoaded = true ∧ (s.source r.source).state ≠ .refuel) := by
  simp [unloading, and_assoc]

theorem startSurveyTimer_eq {s : State} {d : SlotNo} {r : Delivery} (h : s.delivery d = some r) :
    startSurveyTimer d s = setDelivery d (some { r with surveyTimer := some (s.now / 1000 + 10000) }) s := by
  simp [startSurveyTimer, modDelivery, h, State.ms, Config.surveyMs]

theorem warmSurvey_empty {s : State} {d : SlotNo} (h : s.delivery d = none) : warmSurvey s d = s := by
  simp [warmSurvey, h]

theorem warmSurvey_eq {s : State} {d : SlotNo} {r : Delivery} (h : s.delivery d = some r) :
    warmSurvey s d = if unloading s r then survey d (startSurveyTimer d s) else s := by
  simp [warmSurvey, h]

/-! ## STL (R136) -/

theorem reannounce_complete {s : State} {r : SettleRec} (hire : r.hire.isSome = true) (burn : r.burn.isSome = true)
    (matrix : r.matrix.isSome = true) (dark : r.dark.isSome = true) : reannounce s r = s := by
  obtain ⟨a, ha⟩ := Option.isSome_iff_exists.mp hire
  obtain ⟨b, hb⟩ := Option.isSome_iff_exists.mp burn
  obtain ⟨c, hc⟩ := Option.isSome_iff_exists.mp matrix
  obtain ⟨d, hd⟩ := Option.isSome_iff_exists.mp dark
  simp [reannounce, ha, hb, hc, hd]

theorem reannounce_empty {s : State} {r : SettleRec} (hire : r.hire = none) (burn : r.burn = none)
    (matrix : r.matrix = none) (dark : r.dark = none) : reannounce s r =
      announceDark r.serial (announceMatrix r.serial (announceBurn r.serial (announceHire r.serial s))) := by
  simp [reannounce, hire, burn, matrix, dark]

/-! ## What the later stages leave standing -/

/-- What stands from `s` to `t` whatever the stages after the records raise. -/
structure Stands (s t : State) : Prop where
  lnk : t.lnk = s.lnk
  hold : t.stn.hold = s.stn.hold
  idents : t.idents = s.idents
  now : t.now = s.now
  time : t.stl.clock.time = s.stl.clock.time
  limits : t.syn.limits = s.syn.limits
  price : t.tnk.price = s.tnk.price
  chan : ∀ k, ∃ energy last, t.chan k = { s.chan k with energy := energy, lastEnergy := last }

@[refl] theorem Stands.refl (s : State) : Stands s s := ⟨rfl, rfl, rfl, rfl, rfl, rfl, rfl, fun _ => ⟨_, _, rfl⟩⟩

theorem Stands.trans {s t u : State} (h : Stands s t) (k : Stands t u) : Stands s u where
  lnk := k.lnk.trans h.lnk
  hold := k.hold.trans h.hold
  idents := k.idents.trans h.idents
  now := k.now.trans h.now
  time := k.time.trans h.time
  limits := k.limits.trans h.limits
  price := k.price.trans h.price
  chan c := by
    obtain ⟨e, l, he⟩ := h.chan c
    obtain ⟨e', l', hk⟩ := k.chan c
    exact ⟨e', l', by rw [hk, he]⟩

/-- What leaves the parts named in `Still` and the timer reading alone leaves them standing. -/
theorem stands_of_still {s t : State} (still : t.still = s.still) (now : t.now = s.now) : Stands s t := by
  simp only [State.still, Still.mk.injEq] at still
  obtain ⟨-, lnk, hold, idents, stl, mtr, limits, price, -, -⟩ := still
  have chan (k : ChannelNo) : t.chan k = s.chan k := by rw [State.chan, mtr, State.chan]
  exact ⟨lnk, hold, idents, now, by rw [stl], limits, price, fun k => ⟨_, _, chan k⟩⟩

theorem stands_foldl {α : Type} (f : State → α → State) (h : ∀ s a, Stands s (f s a)) (l : List α) (s : State) :
    Stands s (l.foldl f s) :=
  kept_foldl (P := Stands s) f (fun t a k => k.trans (h t a)) l s (.refl s)

theorem stands_interrupt (s : State) (n : SupplyNo) : Stands s (interrupt s n) := by
  unfold interrupt
  split
  · exact stands_of_still (by simp) (by simp [tellOriginator, show completed .interrupted = false from rfl])
  · rfl

theorem stands_warmLines (found : Found) (s : State) : Stands s (warmLines found s) := by
  rw [warmLines_frame]
  exact stands_of_still rfl rfl

theorem stands_derive (n : SupplyNo) (s : State) : Stands s (derive n s) := stands_of_still (by simp) (by simp)

theorem stands_restartOpen (n : SupplyNo) (t : Transfer) (s : State) : Stands s (restartOpen n t s) :=
  stands_of_still (by simp [restartOpen]) (by simp [restartOpen])

theorem stands_warmSupply (s : State) (n : SupplyNo) : Stands s (warmSupply s n) := by
  unfold warmSupply
  split
  · split
    · split
      · exact stands_restartOpen n _ s
      · exact stands_derive n s
    · exact stands_derive n s
  · rfl

theorem stands_warmSurvey (s : State) (d : SlotNo) : Stands s (warmSurvey s d) := by
  unfold warmSurvey
  split
  · split
    · exact stands_of_still (by simp) (by simp)
    · rfl
  · rfl

theorem stands_warmPanels (found : Found) (s : State) : Stands s (warmPanels found s) :=
  (stands_foldl interrupt stands_interrupt _ s).trans <| (stands_warmLines found _).trans <|
    (stands_foldl warmSupply stands_warmSupply _ _).trans (stands_foldl warmSurvey stands_warmSurvey _ _)

theorem stands_setRecords (l : List SettleRec) (s : State) : Stands s (setRecords l s) :=
  ⟨rfl, rfl, rfl, rfl, rfl, rfl, rfl, fun _ => ⟨_, _, rfl⟩⟩

theorem stands_announceHire (serial : Nat) (s : State) : Stands s (announceHire serial s) :=
  Stands.trans (t := (closeHire s).state)
    ⟨rfl, rfl, rfl, rfl, rfl, rfl, rfl, fun _ => ⟨_, _, rfl⟩⟩ (stands_setRecords _ _)

theorem stands_raiseDry (before s : State) (i : SourceNo) : Stands s (raiseDry before s i) := by
  unfold raiseDry
  split
  · exact stands_of_still (by simp) (by simp)
  · rfl

theorem stands_announceBurn (serial : Nat) (s : State) : Stands s (announceBurn serial s) :=
  have closed : Stands s { s with tnk := { s.tnk with tanks := tab fun i => closeBurnRec (s.tank i) } } :=
    ⟨rfl, rfl, rfl, rfl, rfl, rfl, rfl, fun _ => ⟨_, _, rfl⟩⟩
  closed.trans <| (stands_foldl (raiseDry s) (stands_raiseDry s) _ _).trans (stands_setRecords _ _)

theorem stands_setMtr (s : State) (m : Mtr)
    (chan : ∀ k, look m.channels k = { s.chan k with energy := 0, lastEnergy := (s.chan k).energy }) :
    Stands s { s with mtr := m } :=
  ⟨rfl, rfl, rfl, rfl, rfl, rfl, rfl, fun k => ⟨_, _, chan k⟩⟩

theorem stands_announceMatrix (serial : Nat) (s : State) : Stands s (announceMatrix serial s) := by
  rw [announceMatrix, closeMatrix, fileInto]
  refine (stands_setMtr s _ fun k => ?_).trans (stands_setRecords _ _)
  rw [look_tab]

theorem stands_announceDark (serial : Nat) (s : State) : Stands s (announceDark serial s) :=
  Stands.trans (t := (closeDark s).state)
    ⟨rfl, rfl, rfl, rfl, rfl, rfl, rfl, fun _ => ⟨_, _, rfl⟩⟩ (stands_setRecords _ _)

theorem stands_if {s t u : State} {p : Prop} [Decidable p] (h : Stands s t) (k : Stands s u) :
    Stands s (if p then t else u) := by
  split
  · exact h
  · exact k

theorem stands_reannounce (s : State) (r : SettleRec) : Stands s (reannounce s r) := by
  have hire := stands_if (p := r.hire.isNone = true) (stands_announceHire r.serial s) (.refl s)
  have burn := hire.trans (stands_if (p := r.burn.isNone = true) (stands_announceBurn r.serial _) (.refl _))
  have matrix := burn.trans (stands_if (p := r.matrix.isNone = true) (stands_announceMatrix r.serial _) (.refl _))
  exact matrix.trans (stands_if (p := r.dark.isNone = true) (stands_announceDark r.serial _) (.refl _))

theorem stands_takeBoundary (endTime : Nat) (s : State) : Stands s (takeBoundary endTime s) := by
  have next : Stands s (setClock (nextInterval s.stl.clock) s) :=
    ⟨rfl, rfl, rfl, rfl, rfl, rfl, rfl, fun _ => ⟨_, _, rfl⟩⟩
  exact next.trans <| (stands_setRecords (s.stl.records ++ [endingRecord s.stl.clock endTime]) _).trans <|
    (stands_announceHire s.stl.clock.serial _).trans <| (stands_announceBurn s.stl.clock.serial _).trans <|
    (stands_announceMatrix s.stl.clock.serial _).trans (stands_announceDark s.stl.clock.serial _)

theorem stands_warmSettlement (s : State) : Stands s (warmSettlement s) :=
  (stands_foldl reannounce stands_reannounce s.stl.records s).trans
    (stands_if (stands_takeBoundary _ _) (.refl _))

theorem stands_logAppend (kind : LogKind) (subject v1 v2 : Option Nat) (s : State) :
    Stands s (logAppend kind subject v1 v2 s) :=
  stands_of_still (by simp) (by simp)

/-! ## The state whose records the blocks clear -/

/-- The site after STN has resumed and WARM_RESTART is appended. -/
def resumed (elapsed : Nat) (s : State) : State :=
  logAppend .warmRestart none none none (warmStations (outage elapsed s))

section
variable (elapsed : Nat) (s : State)

@[simp] theorem resumed_ms : (resumed elapsed s).ms = s.ms := by
  rw [resumed, logAppend_ms, told_eq]
  simp only [State.ms]
@[simp] theorem resumed_clock : (resumed elapsed s).clock = min (s.stl.clock.time + elapsed) 4294967295 := by
  rw [resumed, logAppend_clock, told_eq]
  simp only [State.clock]
@[simp] theorem resumed_port (p : PortNo) : (resumed elapsed s).port p = s.port p := by
  rw [resumed, logAppend_port_at, told_eq]
  simp only [State.port]
@[simp] theorem resumed_source (i : SourceNo) : (resumed elapsed s).source i = s.source i := by
  rw [resumed, logAppend_source_at, told_eq]
  simp only [State.source]
@[simp] theorem resumed_tank (i : SourceNo) : (resumed elapsed s).tank i = s.tank i := by
  rw [resumed, logAppend_tank_at, told_eq]
  simp only [State.tank]
@[simp] theorem resumed_chan (k : ChannelNo) : (resumed elapsed s).chan k = s.chan k := by
  rw [resumed, logAppend_chan_at, told_eq]
  simp only [State.chan]
@[simp] theorem resumed_watch (w : WatchNo) : (resumed elapsed s).watch w = s.watch w := by
  rw [resumed, logAppend_watch_at, told_eq]
  simp only [State.watch]
@[simp] theorem resumed_delivery (d : SlotNo) : (resumed elapsed s).delivery d = s.delivery d := by
  rw [resumed, logAppend_delivery_at, told_eq]
  simp only [State.delivery]
@[simp] theorem resumed_lastEnded (i : SourceNo) : (resumed elapsed s).lastEnded i = s.lastEnded i := by
  rw [resumed, logAppend_lastEnded_at, told_eq]
  simp only [State.lastEnded]
@[simp] theorem resumed_returns : (resumed elapsed s).dlv.returns = s.dlv.returns := by
  rw [resumed, logAppend_dlv, told_eq]
@[simp] theorem resumed_limits : (resumed elapsed s).syn.limits = s.syn.limits := by
  rw [resumed, logAppend_syn, told_eq]
@[simp] theorem resumed_price : (resumed elapsed s).tnk.price = s.tnk.price := by
  rw [resumed, logAppend_tnk, told_eq]
@[simp] theorem resumed_matrix : (resumed elapsed s).mtr.matrix = s.mtr.matrix := by
  rw [resumed, logAppend_mtr, told_eq]

end

theorem ident_of_idents {s t : State} (same : t.idents = s.idents) (n : StationNo) :
    (t.station n).map Station.ident = (s.station n).map Station.ident := by
  have h := congrArg (look · n) same
  simpa only [State.idents, look_tab] using h

theorem stn_warmRecords (found : Found) (s : State) : (warmRecords found s).stn = s.stn := by rw [warmRecords_eq]

theorem now_warmRecords (found : Found) (s : State) : (warmRecords found s).now = s.now := by rw [warmRecords_eq]

theorem stl_warmRecords (found : Found) (s : State) : (warmRecords found s).stl = s.stl := by rw [warmRecords_eq]

section
variable (elapsed : Nat) (found : Found) (s : State)

theorem resumed_stands : Stands (warmRecords found (resumed elapsed s)) (warmRestart elapsed found s) :=
  (stands_warmPanels found _).trans (stands_warmSettlement _)

theorem told_hold : (warmStations (outage elapsed s)).stn.hold = none := rfl

theorem warmRestart_now : (warmRestart elapsed found s).now = s.now := by
  rw [(resumed_stands elapsed found s).now, now_warmRecords, resumed, logAppend_now, told_eq]

theorem warmRestart_time :
    (warmRestart elapsed found s).stl.clock.time = min (s.stl.clock.time + elapsed) 4294967295 := by
  rw [(resumed_stands elapsed found s).time, stl_warmRecords]
  exact resumed_clock elapsed s

theorem warmRestart_hold : (warmRestart elapsed found s).stn.hold = none := by
  rw [(resumed_stands elapsed found s).hold, stn_warmRecords, resumed, logAppend_hold, told_hold]

theorem warmRestart_limits : (warmRestart elapsed found s).syn.limits = s.syn.limits := by
  obtain ⟨-, limits, -⟩ := warmRecords_rest found (resumed elapsed s)
  rw [(resumed_stands elapsed found s).limits, limits, resumed_limits]

theorem warmRestart_price : (warmRestart elapsed found s).tnk.price = s.tnk.price := by
  obtain ⟨-, -, price, -⟩ := warmRecords_rest found (resumed elapsed s)
  rw [(resumed_stands elapsed found s).price, price, resumed_price]

/-- R118: only the figures of the interval move in a channel after its line is taken as found. -/
theorem warmRestart_chan (k : ChannelNo) : ∃ energy last, (warmRestart elapsed found s).chan k =
    { warmChan s.ms (look found.meter k) (s.chan k) with energy := energy, lastEnergy := last } := by
  obtain ⟨energy, last, same⟩ := (resumed_stands elapsed found s).chan k
  rw [warmRecords_chan, resumed_ms, resumed_chan] at same
  exact ⟨energy, last, same⟩

/-- R160: what no raise of a later stage moves in a station. -/
theorem warmRestart_ident (n : StationNo) : ((warmRestart elapsed found s).station n).map Station.ident =
    (s.station n).map fun st => { st.ident with lastRequest := s.ms } := by
  have records : (warmRecords found (resumed elapsed s)).idents = (resumed elapsed s).idents := by
    simp only [State.idents, State.station, stn_warmRecords]
  have log : (resumed elapsed s).idents = (warmStations (outage elapsed s)).idents :=
    (stands_logAppend .warmRestart none none none _).idents
  have later := (resumed_stands elapsed found s).idents
  rw [ident_of_idents (later.trans (records.trans log)) n, warmStations_station, Option.map_map]
  refine congrArg (fun f => (s.station n).map f) (funext fun st => ?_)
  obtain ⟨g, resumedStation, -⟩ := warmStation_eq (oldestOf s.log) s.ms st
  exact congrArg Station.ident resumedStation

end

section
variable (elapsed : Nat) (found : Found) (s : State)

/-- R156, R160, R165: the stations as they resume. -/
theorem resume_stations :
    (∀ n, s.station n = none → (warmStations (outage elapsed s)).station n = none) ∧
    ∀ n st, s.station n = some st → ∃ g, (warmStations (outage elapsed s)).station n = some
        { st with flags := g, lastRequest := s.ms, gapMark := decide (st.cursor < oldestOf s.log) } ∧
      ∀ i, look g i =
        if i = causeIndex .restarted then some .restartedWarm
        else if i = causeIndex .logGap ∧ st.cursor < oldestOf s.log then
          some (.logGap (oldestOf s.log) (oldestOf s.log - st.cursor))
        else none := by
  refine ⟨fun n free => ?_, fun n st listed => ?_⟩
  · have free' : (outage elapsed s).station n = none := free
    rw [warmStations_station, free', Option.map_none]
  · have listed' : (outage elapsed s).station n = some st := listed
    obtain ⟨g, eq, flags⟩ := warmStation_eq (oldestOf s.log) s.ms st
    refine ⟨g, ?_, flags⟩
    rw [warmStations_station, listed', Option.map_some]
    exact congrArg some eq

/-- R107: the delivery slots. -/
theorem resume_delivery (d : SlotNo) (r : Delivery) (slot : s.delivery d = some r) :
    (warmRecords found (resumed elapsed s)).delivery d =
      some (warmDelivery s.ms (min (s.stl.clock.time + elapsed) 4294967295) r) := by
  rw [warmRecords_delivery, resumed_delivery, resumed_ms, resumed_clock, slot, Option.map_some]

/-- R160: what stands of a station at the end of the restart. -/
theorem warmRestart_station :
    (∀ n, s.station n = none → (warmRestart elapsed found s).station n = none) ∧
    ∀ n st, s.station n = some st → ∃ st', (warmRestart elapsed found s).station n = some st' ∧
      st'.port = st.port ∧ st'.addr = st.addr ∧ st'.role = st.role ∧ st'.bound = st.bound ∧
      st'.enables = st.enables ∧ st'.cursor = st.cursor ∧ st'.lastRequest = s.ms := by
  refine ⟨fun n free => ?_, fun n st listed => ?_⟩
  · have ident := warmRestart_ident elapsed found s n
    rwa [free, Option.map_none, Option.map_eq_none_iff] at ident
  · have ident := warmRestart_ident elapsed found s n
    rw [listed, Option.map_some, Option.map_eq_some_iff] at ident
    obtain ⟨st', here, same⟩ := ident
    simp only [Station.ident, Ident.mk.injEq] at same
    exact ⟨st', here, same⟩

end

/-! ## One supply and one delivery in full, and the obligation -/

theorem warmSupply_cases (s : State) (n : SupplyNo) (h : (s.supply n).defined = true) :
    (∀ t, s.slot n = some t → (s.supply n).state = .transfer →
      (∃ x y, x ≠ y ∧ (s.input n x).aux = true ∧ (s.input n y).aux = true) →
      ∀ v, v = setSupply n { s.supply n with state := .fault, closed := none, record := none } s →
      warmSupply s n = setInput n t.target
        { s.input n t.target with
          openPulse := some (s.now / 1000 + 100),
          window := some { dir := .toOpen, ends := s.now / 1000 + (s.supply n).timing.confirm, restart := true } } v) ∧
    ((s.supply n).state ≠ .transfer ∨ s.slot n = none ∨
        (∀ x y, (s.input n x).aux = true → (s.input n y).aux = true → x = y) →
      warmSupply s n = derive n s) := by
  refine ⟨fun t slot state two v hv => ?_, fun resting => warmSupply_derives h ?_⟩
  · rw [warmSupply_restartOpen h slot state ((two_closed_iff s n).mpr two), restartOpen_eq, hv]
  · refine resting.imp_right (Or.imp_right fun one two => ?_)
    obtain ⟨x, y, ne, hx, hy⟩ := (two_closed_iff s n).mp two
    exact ne (one x y hx hy)

theorem warmSurvey_cases (s : State) (d : SlotNo) (r : Delivery) (h : s.delivery d = some r) :
    (r.state = .waitingUnload ∨
        (r.state = .opened ∧ r.fillWhileLoaded = true ∧ (s.source r.source).state ≠ .refuel) →
      warmSurvey s d = survey d (setDelivery d (some { r with surveyTimer := some (s.now / 1000 + 10000) }) s)) ∧
    (r.state ≠ .waitingUnload →
      r.state ≠ .opened ∨ r.fillWhileLoaded = false ∨ (s.source r.source).state = .refuel →
      warmSurvey s d = s) := by
  refine ⟨fun due => ?_, fun waits rest => ?_⟩
  · rw [warmSurvey_eq h, if_pos ((unloading_iff s r).mpr due), startSurveyTimer_eq h]
  · have idle : ¬ unloading s r = true := by
      rw [unloading_iff]
      rintro (w | ⟨opened, loaded, refuel⟩)
      · exact waits w
      · simp [opened, loaded, refuel] at rest
    rw [warmSurvey_eq h, if_neg idle]

/-- Settles O4, stage by stage: each block's records by one lemma per block, and what the stages after them cannot move
by `Stands`. -/
theorem warmRestartKeepsAndClears : Obligations.WarmRestartKeepsAndClears := by
  unfold Obligations.WarmRestartKeepsAndClears
  refine ⟨?_, fun s n => ⟨interrupt_idle, fun t => interrupt_flying, warmSupply_undefined, warmSupply_cases s n⟩,
    fun s d => ⟨warmSurvey_empty, warmSurvey_cases s d⟩, ?_, fun s r => ⟨reannounce_complete, reannounce_empty⟩⟩
  · rintro c t elapsed f before ms time warm rfl rfl
    let s := advanceTo t before
    let kept := warmRecords f (resumed elapsed s)
    let ended := (indices 12).foldl interrupt kept
    obtain ⟨unlisted, listed⟩ := resume_stations elapsed s
    obtain ⟨queue, limits, price, matrix, returns, fill, unread⟩ := warmRecords_rest f (resumed elapsed s)
    obtain ⟨freeAfter, listedAfter⟩ := warmRestart_station elapsed f s
    have endedMs : ended.ms = s.ms := by
      have now := (stands_foldl interrupt stands_interrupt (indices 12) kept).now
      rw [State.ms, now, now_warmRecords]
      exact resumed_ms elapsed s
    refine ⟨warmStations (outage elapsed s), kept, ended, warmLines f ended, warmRestart elapsed f s,
      ⟨told_eq s elapsed, told_hold elapsed s, unlisted, listed⟩, ⟨resumed elapsed s, rfl, warmRecords_frame f _⟩,
      fun p => ?port, fun i => ⟨fun off => ?idle, fun h on hired => ?hired⟩,
      ⟨warmRecords_sync f _, queue, limits.trans (resumed_limits elapsed s)⟩,
      ⟨fun i => ?tank, price.trans (resumed_price elapsed s)⟩, ⟨fun k => ?chan, matrix.trans (resumed_matrix elapsed s)⟩,
      fun w => ?watch,
      ⟨fun d free => ?free, fun d r slot => ⟨fun armed => ?armed, fun filled => ?filled, fun opened => ?opened⟩,
        fun i => ?lastEnded, ?returns, fill, unread⟩,
      rfl, ⟨warmLines_frame f ended, fun n => ⟨?lines, fun x => ?input⟩⟩, rfl, ?exec,
      (resumed_stands elapsed f s).lnk, warmRestart_hold elapsed f s, warmRestart_now elapsed f s,
      warmRestart_time elapsed f s, freeAfter, listedAfter, ?log, warmRestart_limits elapsed f s,
      warmRestart_price elapsed f s, fun k => ?figures⟩
    case port => exact (warmRecords_port f _ p).trans (congrArg warmPort (resumed_port elapsed s p))
    case idle =>
      rw [warmRecords_source, resumed_ms, resumed_source]
      exact warmSource_idle off
    case hired =>
      rw [warmRecords_source, resumed_ms, resumed_source]
      exact warmSource_onHire on hired
    case tank =>
      rw [warmRecords_tank, resumed_tank]
      rfl
    case chan =>
      rw [warmRecords_chan, resumed_chan, resumed_ms]
      rfl
    case watch =>
      rw [warmRecords_watch, resumed_watch]
      rfl
    case free =>
      have free' : s.delivery d = none := free
      rw [warmRecords_delivery, resumed_delivery, free', Option.map_none]
    case armed =>
      rw [resume_delivery elapsed f s d r slot, warmDelivery_armed armed]
      rfl
    case filled =>
      rw [resume_delivery elapsed f s d r slot, warmDelivery_filled filled]
      rfl
    case opened =>
      rw [resume_delivery elapsed f s d r slot, warmDelivery_opened opened]
    case lastEnded =>
      rw [warmRecords_lastEnded, resumed_lastEnded]
      rfl
    case returns =>
      rw [returns, resumed_returns, resumed_ms, resumed_clock]
      rfl
    case lines => rw [warmLines_supply]
    case input =>
      rw [warmLines_input, endedMs]
      rfl
    case exec =>
      show Host.Outcome.next _ = _
      rw [if_pos warm]
    case log => exact (grows_warmRestart elapsed f s (grows_refl s.log)).next
    case figures =>
      obtain ⟨energy, last, figures⟩ := warmRestart_chan elapsed f s k
      rw [figures]
      exact ⟨rfl, rfl, rfl, rfl, rfl, rfl, rfl, rfl, rfl⟩
  · rintro s u rfl
    rfl

end Sys2Proof.Machine
end

section
/-! The cold start (R1, R3, R20, R40, R66, R73, R76, R89, R108, R119, R124, R137, R150, R156, R162): the records of the
state that it leaves. -/

namespace Sys2Proof.Machine

/-- R1: a cold start leaves the cold-start state, whatever stood before it but the queue. -/
theorem exec_coldStart {c : StartCause} (cold : startOf c = some .cold) (t : Nat) (f : Found) (s : State) :
    exec (.coldStart c t f) s = .next (State.cold (max s.now t) f s.pending) :=
  congrArg Host.Outcome.next (if_pos cold)

section
variable (now : Nat) (f : Found) (queue : List Instr)

theorem cold_port (p : PortNo) : (State.cold now f queue).port p = Port.cold := look_replicate 4 _ p

/-- R156: station 0 alone is listed. -/
theorem cold_station (n : StationNo) : (State.cold now f queue).station n =
    if n = 0 then some (Station.cold (now / 1000)) else none := by
  simp only [State.station, State.cold, look_upd, look_replicate, eq_comm (a := n)]

theorem cold_source (i : SourceNo) : (State.cold now f queue).source i = Source.cold := look_replicate 16 _ i

theorem cold_supply (n : SupplyNo) : (State.cold now f queue).supply n = Supply.cold (now / 1000) (look f.aux n) :=
  look_tab _ n

theorem cold_slot (n : SupplyNo) : (State.cold now f queue).slot n = none := look_replicate 12 _ n

theorem cold_sync (k : SyncNo) : (State.cold now f queue).sync k = SyncChan.cold := look_replicate 4 _ k

theorem cold_tank (i : SourceNo) : (State.cold now f queue).tank i = Tank.cold := look_replicate 16 _ i

theorem cold_delivery (d : SlotNo) : (State.cold now f queue).delivery d = none := look_replicate 8 _ d

theorem cold_lastEnded (i : SourceNo) : (State.cold now f queue).lastEnded i = none := look_replicate 16 _ i

theorem cold_fillUnread (i : SourceNo) : look (State.cold now f queue).dlv.fillUnread i = false :=
  look_replicate 16 _ i

theorem cold_chan (k : ChannelNo) : (State.cold now f queue).chan k = Chan.cold (now / 1000) (look f.meter k) :=
  look_tab _ k

theorem cold_cell (a : AccountNo) (col : Fin 17) : cell (State.cold now f queue).mtr.matrix a col = 0 := by
  simp only [cell, State.cold, look_replicate]

/-- R124: account 0 alone is defined. -/
theorem cold_account (a : AccountNo) : (State.cold now f queue).account a =
    { Account.cold a with defined := decide (a = 0) } := by
  have overhead : (a.1 == 0) = decide (a = 0) := by
    rw [Bool.eq_iff_iff, beq_iff_eq, decide_eq_true_eq, Fin.ext_iff, Fin.val_zero]
  rw [← overhead]
  exact look_tab Account.cold a

theorem cold_watch (w : WatchNo) : (State.cold now f queue).watch w = Watch.cold := look_replicate 32 _ w

end

/-- Settles O3: record by record, each block's table is filled with its cold-start value. -/
theorem coldStartSetsEveryBlock : Obligations.ColdStartSetsEveryBlock := by
  rintro c t f s ms cold rfl
  exact ⟨_, exec_coldStart cold t f s, rfl, rfl, cold_port _ f _, cold_station _ f _, rfl, cold_source _ f _,
    cold_supply _ f _, cold_slot _ f _, rfl, cold_sync _ f _, rfl, rfl, cold_tank _ f _, rfl, cold_delivery _ f _,
    cold_lastEnded _ f _, rfl, rfl, cold_fillUnread _ f _, cold_chan _ f _, cold_cell _ f _, rfl, rfl, rfl, rfl,
    cold_account _ f _, rfl, rfl, cold_watch _ f _, rfl⟩

end Sys2Proof.Machine
end

section
/-! The derivation of a supply from its lines (R26, R27, R35), and what each step of it writes. -/

namespace Sys2Proof.Machine

/-! ## Changes of a supply's record -/

section
variable (n : SupplyNo) (s : State)

theorem modSupply_eq (f : Supply → Supply) : modSupply n f s = setSupply n (f (s.supply n)) s := rfl

theorem modSlot_eq {t : Transfer} (f : Transfer → Transfer) (slot : s.slot n = some t) :
    modSlot n f s = setSlot n (some (f t)) s := by
  rw [modSlot, slot, Option.map_some]

theorem derived_eq (st : SupplyState) (closed : Option Input) (record : Option SourceNo) :
    derived n st closed record s =
      setSupply n { s.supply n with state := st, closed := closed, record := record } s := rfl

theorem derived_input (st : SupplyState) (closed : Option Input) (record : Option SourceNo) (m : SupplyNo) (x : Input) :
    (derived n st closed record s).input m x = s.input m x := by
  rw [derived_eq, setSupply_input]
  split
  · rename_i same
    rw [State.input, same]
  · rfl

/-- R35: the derivation of a supply that no longer waits for a restore. -/
theorem clearWaiting_derived (st : SupplyState) (closed : Option Input) (record : Option SourceNo) :
    clearWaiting n (derived n st closed record s) =
      setSupply n { s.supply n with state := st, closed := closed, record := record, restoreWaiting := false,
                                    lastRestore := none } s := by
  simp [clearWaiting, derived_eq, modSupply_eq]

theorem derived_clearWaiting (st : SupplyState) (closed : Option Input) (record : Option SourceNo) :
    derived n st closed record (clearWaiting n s) =
      setSupply n { s.supply n with state := st, closed := closed, record := record, restoreWaiting := false,
                                    lastRestore := none } s := by
  simp [clearWaiting, derived_eq, modSupply_eq]

theorem clearWaiting_input (m : SupplyNo) (x : Input) : (clearWaiting n s).input m x = s.input m x := by
  rw [clearWaiting, modSupply_eq, setSupply_input]
  split
  · rename_i same
    rw [State.input, same]
  · rfl

theorem deriveFault_eq : deriveFault n s = raise (.transferFault n none) (toConsoleAndStage n)
    (setSupply n { s.supply n with state := .fault, closed := none, record := none, restoreWaiting := false,
                                   lastRestore := none } s) := by
  rw [deriveFault, clearWaiting_derived]

/-- R27: what a trip logs and raises, of an input with a source. -/
theorem reportTrip_eq {x : Input} {i : SourceNo} (source : (s.input n x).source = some i) :
    reportTrip n x s = raise (.supplyTrip n) (toConsoleAndStage n)
      (logAppend .supplyTrip (num n) (some (inputCode x)) (some (numberOf i)) s) := by
  rw [reportTrip, source, Option.map_some]

end

/-! ## Restores (R35) -/

theorem flying_of_slot {s u : State} {n : SupplyNo} (slot : u.slot n = s.slot n) (t : Transfer) :
    flying u n t ↔ flying s n t := by
  rw [flying, flying, slot]

theorem restoreIfSet_asks {s : State} {n : SupplyNo} (auto : (s.supply n).autoRestore = true)
    (idle : ∀ t, ¬ flying s n t) : restoreIfSet n s = restoreRequest n s := by
  simp [restoreIfSet, auto, inFlight_eq_none idle]

theorem restoreIfSet_stays {s : State} {n : SupplyNo}
    (h : (s.supply n).autoRestore = false ∨ ∃ t, flying s n t) : restoreIfSet n s = s := by
  rcases h with auto | ⟨t, h⟩
  · simp [restoreIfSet, auto]
  · simp [restoreIfSet, (flying_iff s n t).mp h]

/-- R35: what a supply asks at the end of its derivation is settled by the state in which the derivation began, where
nothing that it decides on has changed since. -/
theorem restoreIfSet_eq {s u : State} {n : SupplyNo} {asks : State → State}
    (request : (s.supply n).autoRestore = true → (∀ t, ¬ flying s n t) → ∀ v, asks v = restoreRequest n v)
    (stays : (s.supply n).autoRestore = false ∨ (∃ t, flying s n t) → ∀ v, asks v = v)
    (auto : (u.supply n).autoRestore = (s.supply n).autoRestore) (slot : u.slot n = s.slot n) :
    restoreIfSet n u = asks u := by
  by_cases still : (s.supply n).autoRestore = false ∨ ∃ t, flying s n t
  · rw [stays still, restoreIfSet_stays (by simpa only [auto, flying_of_slot slot] using still)]
  · obtain ⟨set, idle⟩ := not_or.mp still
    have set : (s.supply n).autoRestore = true := by simpa using set
    have idle := not_exists.mp idle
    rw [request set idle, restoreIfSet_asks (auto.trans set) (by simpa only [flying_of_slot slot] using idle)]

/-! ## The closed inputs of a supply (R26) -/

theorem closedInputs_eq_nil {s : State} {n : SupplyNo} (h : ∀ x, (s.input n x).aux = false) :
    closedInputs s n = [] :=
  List.filter_eq_nil_iff.mpr fun x _ => by simp [h x]

theorem closedInputs_eq_one {s : State} {n : SupplyNo} {x : Input} (closed : (s.input n x).aux = true)
    (others : ∀ y, y ≠ x → (s.input n y).aux = false) : closedInputs s n = [x] := by
  have only (y : Input) : (s.input n y).aux = decide (y = x) := by
    by_cases e : y = x
    · simp [e, closed]
    · simp [e, others y e]
  cases x <;> simp [closedInputs, allInputs, only]

/-- R26: with two inputs closed or more, no line says which of them feeds. -/
theorem derive_of_two {s : State} {n : SupplyNo} {x y : Input} (apart : x ≠ y) (first : (s.input n x).aux = true)
    (second : (s.input n y).aux = true) : derive n s = deriveFault n s := by
  have two := (two_closed_iff s n).mpr ⟨x, y, apart, first, second⟩
  unfold derive
  split <;> rename_i closed
  · simp [closed] at two
  · simp [closed] at two
  · rfl

theorem derive_of_none {s : State} {n : SupplyNo} (h : ∀ x, (s.input n x).aux = false) :
    derive n s = restoreIfSet n (derived n .dark none none s) := by
  rw [derive, closedInputs_eq_nil h]

theorem derive_of_one {s : State} {n : SupplyNo} {x : Input} (closed : (s.input n x).aux = true)
    (others : ∀ y, y ≠ x → (s.input n y).aux = false) : derive n s = deriveOne n x s := by
  rw [derive, closedInputs_eq_one closed others]

/-! ## The one closed input (R26, R27) -/

section
variable {s : State} {n : SupplyNo} {x : Input} {i : SourceNo}

theorem deriveOne_unassigned (source : (s.input n x).source = none) : deriveOne n x s = deriveFault n s := by
  rw [deriveOne, source]

theorem deriveOne_tripped (source : (s.input n x).source = some i) (sound : (s.source i).state ≠ .refuel)
    (due : tripDue s n x = true) :
    deriveOne n x s = restoreIfSet n (reportTrip n x (derived n .tripped (some x) none s)) := by
  simp [deriveOne, source, sound, due]

theorem deriveOne_live (source : (s.input n x).source = some i) (sound : (s.source i).state ≠ .refuel)
    (due : tripDue s n x = false) : deriveOne n x s = clearWaiting n (derived n .live (some x) (some i) s) := by
  simp [deriveOne, source, sound, due]

theorem deriveOne_refuel (source : (s.input n x).source = some i) (refuel : (s.source i).state = .refuel) :
    deriveOne n x s = panelFault n x true (clearWaiting n (logUncommanded n x true s)) := by
  simp [deriveOne, source, refuel]

/-- R32: a supply faulted by a change that closes nothing onto a set in refuel. -/
theorem panelFault_raises {closed : Bool} (h : closed = false ∨ ∀ i, (s.input n x).source = some i →
    (s.source i).state ≠ .refuel) : panelFault n x closed s =
      raise (.transferFault n (some x)) (toConsoleAndStage n) (derived n .fault none none s) := by
  unfold panelFault
  dsimp only
  split
  · rename_i i source
    have sound : (s.source i).state ≠ .refuel := h.resolve_left (by simp) i source
    rw [if_neg (by simpa [derived_eq] using sound)]
  · rfl

/-- R32, R12, R98: a close onto a set in refuel is told to SRC and to DLV. -/
theorem panelFault_refuel (source : (s.input n x).source = some i) (refuel : (s.source i).state = .refuel) :
    panelFault n x true s = loadedByHand i (changeSource i (fun r => { r with state := afterRefuel r })
      (raise (.transferFault n (some x)) (toConsoleAndStage n) (derived n .fault none none s))) := by
  unfold panelFault
  dsimp only
  split
  · rename_i j _ source'
    obtain rfl : i = j := Option.some.inj (source.symm.trans source')
    rw [if_pos (by simpa [derived_eq] using refuel)]
  · rename_i other
    exact absurd source (other i rfl)

theorem tripDue_iff : tripDue s n x = true ↔ (s.input n x).voltage = false ∧
    ∃ since, (s.input n x).absentSince = some since ∧ since + (s.supply n).timing.tripConfirm ≤ s.now / 1000 := by
  have reading : s.now / 1000 = s.ms := rfl
  cases h : (s.input n x).absentSince <;> simp [tripDue, h, reading]

end

/-- Settles O35: the supply's closed inputs are none, one, or two and more; of one closed input, its source and the trip
test decide. -/
theorem derivationFollowsTheLines : Obligations.DerivationFollowsTheLines := by
  refine ⟨fun s n asks request stays => ⟨fun opened => ?dark, fun x closed others =>
    ⟨fun source => ?unassigned, fun i source sound => ⟨fun due => ?tripped, fun due => ?live⟩,
      fun i source refuel => ?refuel⟩, fun x y apart first second => ?two⟩, fun _ _ _ => tripDue_iff⟩
  case dark =>
    rw [derive_of_none opened, ← derived_eq]
    exact restoreIfSet_eq request stays (by simp [derived_eq]) rfl
  case unassigned => rw [derive_of_one closed others, deriveOne_unassigned source, deriveFault_eq]
  case tripped =>
    have source' : ((derived n .tripped (some x) none s).input n x).source = some i := by
      rw [derived_input, source]
    rw [derive_of_one closed others, deriveOne_tripped source sound due, reportTrip_eq n _ source', ← derived_eq]
    exact restoreIfSet_eq request stays (by simp [derived_eq]) (by simp [derived_eq])
  case live => rw [derive_of_one closed others, deriveOne_live source sound due, clearWaiting_derived]
  case refuel =>
    have source' : ((clearWaiting n (logUncommanded n x true s)).input n x).source = some i := by
      rw [clearWaiting_input, logUncommanded, logAppend_input_at, source]
    rw [derive_of_one closed others, deriveOne_refuel source refuel,
      panelFault_refuel source' (by simpa [clearWaiting, modSupply_eq, logUncommanded] using refuel),
      derived_clearWaiting, logUncommanded, logAppend_supply_at]
    rfl
  case two => rw [derive_of_two apart first second, deriveFault_eq]

end Sys2Proof.Machine
end

section
/-! CLEAR FAULT and the show hold (R33, R34, R153). -/

namespace Sys2Proof.Machine

/-! ## CLEAR FAULT (R33) -/

/-- R33: two inputs closed or more, or one closed without a source. -/
theorem unresolved_iff (s : State) (n : SupplyNo) : unresolved s n = true ↔
    (∃ x y, x ≠ y ∧ (s.input n x).aux = true ∧ (s.input n y).aux = true) ∨
      ∃ x, (s.input n x).aux = true ∧ (s.input n x).source = none := by
  rw [← two_closed_iff]
  simp only [← mem_closedInputs]
  unfold unresolved
  split
  · rename_i closed
    simp [closed]
  · rename_i closed
    simp [closed]
  · rename_i notNone notOne
    have two : 2 ≤ (closedInputs s n).length := by
      cases e : closedInputs s n with
      | nil => exact (notNone e).elim
      | cons x rest =>
        cases rest with
        | nil => exact (notOne x e).elim
        | cons y rest => simp
    simp [two]

section
variable (m : StationNo) (st : Station) {s : State} {n : SupplyNo}

theorem ownerClearFault_undefined (h : (s.supply n).defined = false) :
    ownerClearFault (numberOf n) m st s = refuse .unknown s := by
  simp [ownerClearFault, h]

theorem ownerClearFault_refused (h : (s.supply n).defined = true)
    (kept : (s.supply n).state = .transfer ∨ unresolved s n = true) :
    ownerClearFault (numberOf n) m st s = refuse .state s := by
  rcases kept with transfer | unclear
  · simp [ownerClearFault, h, transfer]
  · simp [ownerClearFault, h, unclear]

theorem ownerClearFault_clears (h : (s.supply n).defined = true) (resting : (s.supply n).state ≠ .transfer)
    (clear : ¬ unresolved s n = true) :
    ownerClearFault (numberOf n) m st s = ⟨derive n (clearFaulted n s), .ok, .empty⟩ := by
  simp [ownerClearFault, h, resting, clear]

/-! ## The show hold (R34) -/

theorem ownerShowHold_undefined (value : Bool) (h : (s.supply n).defined = false) :
    ownerShowHold value (numberOf n) m st s = refuse .unknown s := by
  have named : numberOf n ≠ 0 := Nat.succ_ne_zero _
  simp [ownerShowHold, named, h]

theorem ownerShowHold_defined (value : Bool) (h : (s.supply n).defined = true) :
    ownerShowHold value (numberOf n) m st s =
      ⟨setSupply n { s.supply n with showHold := value } s, .ok, .empty⟩ := by
  have named : numberOf n ≠ 0 := Nat.succ_ne_zero _
  simp [ownerShowHold, named, h, modSupply_eq]

end

/-- R34: every defined supply has its show hold written, and no other supply changes. -/
theorem showHoldAll_eq {s : State} {value : Bool} {all : Vector Supply 12}
    (h : ∀ n, look all n = if (s.supply n).defined then { s.supply n with showHold := value } else s.supply n) :
    showHoldAll value s = { s with sup := all } := by
  have same : (tab fun n => if (s.supply n).defined then { s.supply n with showHold := value } else s.supply n) = all :=
    table_ext fun n => by rw [look_tab, h n]
  rw [showHoldAll, same]

/-- R34, R157: a STAGE station may name its own supply. -/
theorem ownSupplyNotAll_of_bound {st : Station} {n : SupplyNo} (bound : st.bound = some n) (s : State) :
    ownSupplyNotAll (numberOf n) st s = true := by
  have named : numberOf n ≠ 0 := Nat.succ_ne_zero _
  have own : ownSupply (numberOf n) st s = true :=
    ownSupply_of_bound s fun m h => by
      rw [number?_numberOf] at h
      exact bound.trans h
  simp [ownSupplyNotAll, named, own]

/-- R34: a request for the show hold of one supply, by what SUP answers. -/
theorem request_showHold {rq : Request} {k : Kind} {n : StationNo} {st : Station} {s : State} {m : SupplyNo}
    {value : Bool} (taken : Taken rq k n st s) (scope : st.role = .stage → st.bound = some m) {u : State}
    {status : Status} {body : Body}
    (e : ownerShowHold value (numberOf m) n (requester rq st s) (heard rq n s) = ⟨u, status, body⟩) :
    (.next (request rq k (ownSupplyNotAll (numberOf m)) (ownerShowHold value (numberOf m)) s) :
      Host.Outcome State Fault Refusal) = replied rq k n status body u :=
  request_done rq k _ _ n st s taken (fun stage => ownSupplyNotAll_of_bound (scope stage) (heard rq n s)) _ _ _ e

/-- R153: a broadcast that a listed CONSOLE station sends in full is taken, as a request heard and not answered. -/
theorem broadcast_heard {rq : Request} {k : Kind} {n : StationNo} {st : Station} {s : State} (effect : State → State)
    (h : Heard rq n st s) (console : st.role = .console) (length : rq.len = k.len) :
    broadcast rq k true effect s = effect (heard rq n s) := by
  have sender := stationAt_listed s n st h.distinct h.listed
  rw [h.onPort, h.atAddr] at sender
  simp [broadcast, h.open_, h.idle, sender, h.listed, console, length, heard]

/-- Settles O39: each request is taken, and its owner decides by the supply it names; supply 0 names all. -/
theorem clearFaultAndShowHold : Obligations.ClearFaultAndShowHold := by
  refine ⟨fun rq n st s m => ⟨fun taken => ?clear, fun scope undefined => ⟨fun taken => ?setUnknown,
    fun taken => ?clearUnknown⟩, fun scope defined => ⟨fun taken => ?set, fun taken => ?clearHold⟩⟩,
    fun rq n st s b all console written => ⟨?setAll, ?clearAll, ?broadcast⟩⟩
  case clear =>
    intro c cannot
    have cannot_iff : unresolved (heard rq n s) m = true ↔ cannot := unresolved_iff (heard rq n s) m
    refine ⟨fun undefined => ?_, fun defined kept => ?_, fun defined resting clear => ?_⟩
    all_goals apply request_done rq kindClearFault anyObject _ n st s taken (fun _ => rfl)
    · exact ownerClearFault_undefined n _ undefined
    · exact ownerClearFault_refused n _ defined (kept.imp_right cannot_iff.mpr)
    · exact ownerClearFault_clears n _ defined resting (mt cannot_iff.mp clear)
  case setUnknown => exact request_showHold taken scope (ownerShowHold_undefined n _ true undefined)
  case clearUnknown => exact request_showHold taken scope (ownerShowHold_undefined n _ false undefined)
  case set => exact request_showHold taken scope (ownerShowHold_defined n _ true defined)
  case clearHold => exact request_showHold taken scope (ownerShowHold_defined n _ false defined)
  case setAll =>
    rintro rfl taken
    rw [← showHoldAll_eq (s := heard rq n s) written]
    exact request_done rq kindSetShowHold _ _ n st s taken (fun stage => by simp [console] at stage) _ _ _ rfl
  case clearAll =>
    rintro rfl taken
    rw [← showHoldAll_eq (s := heard rq n s) written]
    exact request_done rq kindClearShowHold _ _ n st s taken (fun stage => by simp [console] at stage) _ _ _ rfl
  case broadcast =>
    rintro rfl h length _
    rw [← showHoldAll_eq (s := heard rq n s) written]
    exact congrArg Host.Outcome.next (broadcast_heard (showHoldAll true) h console length)

end Sys2Proof.Machine
end

section
/-! DEFINE SUPPLY (R21, R22): the fields that a request carries, the checks in their order, and what follows the
writing. -/

namespace Sys2Proof.Machine

/-! ## The carried fields (R21 check 1) -/

theorem setting_of_range {low high default v : Nat} {carried : Option Nat} (selects : v = carried.getD default)
    (above : low ≤ v) (below : v ≤ high) : setting low high default carried = some v := by
  subst selects
  exact if_pos ⟨above, below⟩

theorem timingFields_of_selects {q : TimingReq} {t : Timing} (h : timingSelects q t) : timingFields q = some t := by
  obtain ⟨dead, dead1, confirm, confirm0, confirm1, trip, trip0, trip1, overlap, overlap0, overlap1, settle, settle0,
    settle1, window, window0, window1⟩ := h
  simp only [timingFields, setting_of_range (default := Config.deadTime) dead (Nat.zero_le _) dead1,
    setting_of_range (default := Config.confirmTime) confirm confirm0 confirm1,
    setting_of_range (default := Config.tripConfirm) trip trip0 trip1,
    setting_of_range (default := Config.overlapLimit) overlap overlap0 overlap1,
    setting_of_range (default := Config.settleTime) settle settle0 settle1,
    setting_of_range (default := Config.settleWindow) window window0 window1]

theorem sourceField_carried (i : Option SourceNo) : sourceField (i.map numberOf) = some i := by
  cases i <;> simp [sourceField]

theorem sourceFields_carried (q : Abc (Option SourceNo)) : sourceFields (carriedSources q) = some q := by
  simp [sourceFields, carriedSources, Abc.map, sourceField_carried]

theorem homeField_carried {q : Abc (Option SourceNo)} {home : Option Input}
    (sourced : ∀ x, home = some x → (q.get x).isSome = true) : homeField q (home.map inputCode) = some home := by
  cases home with
  | none => rfl
  | some x => simp [homeField, inputOf?_eq_some_iff.mpr (rfl : inputCode x = inputCode x), sourced x rfl]

theorem supplyFields_carried {q : Abc (Option SourceNo)} {home : Option Input} {tq : TimingReq} {tm : Timing}
    (auto back : Bool) (timing : timingSelects tq tm) (sourced : ∀ x, home = some x → (q.get x).isSome = true) :
    supplyFields (carriedSources q) (home.map inputCode) auto back tq =
      some { sources := q, home := home, autoRestore := auto, returnHome := back, timing := tm } := by
  simp [supplyFields, sourceFields_carried, timingFields_of_selects timing, homeField_carried sourced]

/-! ## Checks 2 to 4 -/

/-- R21 check 3. -/
theorem doubled_iff (q : Abc (Option SourceNo)) :
    doubled q = true ↔ ∃ x y i, x ≠ y ∧ q.get x = some i ∧ q.get y = some i := by
  have pairs : doubled q = true ↔
      (∃ i, q.a = some i ∧ (q.b = some i ∨ q.c = some i)) ∨ ∃ i, q.b = some i ∧ q.c = some i := by
    simp only [doubled, Bool.or_eq_true, Bool.and_eq_true, beq_iff_eq, Option.isSome_iff_exists]
    grind
  rw [pairs]
  constructor
  · rintro (⟨i, a, b | c⟩ | ⟨i, b, c⟩)
    · exact ⟨.a, .b, i, by decide, a, b⟩
    · exact ⟨.a, .c, i, by decide, a, c⟩
    · exact ⟨.b, .c, i, by decide, b, c⟩
  · rintro ⟨x, y, i, apart, first, second⟩
    cases x <;> cases y <;> simp only [Abc.get] at first second <;> grind

/-- R21 check 4 for one input. -/
theorem closedChanges_iff (r : InputRec) (q : Option SourceNo) : closedChanges r q = true ↔
    r.aux = true ∧ ((r.source ≠ none ∧ q ≠ r.source) ∨ (r.source = none ∧ q = none)) := by
  cases e : r.source <;> simp [closedChanges, e]

section
variable {s : State} {n : SupplyNo} {f : SupplyFields}

theorem defineRefusal_busy (h : (s.supply n).state = .transfer) : defineRefusal n f s = some .busy := by
  simp [defineRefusal, h]

theorem defineRefusal_state (resting : (s.supply n).state ≠ .transfer)
    (h : doubled f.sources = true ∨ ∃ x, closedChanges (s.input n x) (f.sources.get x) = true) :
    defineRefusal n f s = some .state := by
  have changes : doubled f.sources = false →
      (allInputs.any fun x => closedChanges (s.input n x) (f.sources.get x)) = true := fun single => by
    simpa [single] using h
  cases e : doubled f.sources <;> simp [defineRefusal, resting, e, changes]

theorem defineRefusal_none (resting : (s.supply n).state ≠ .transfer) (single : ¬ doubled f.sources = true)
    (stays : ∀ x, ¬ closedChanges (s.input n x) (f.sources.get x) = true) : defineRefusal n f s = none := by
  simp [defineRefusal, resting, single, stays]

/-! ## What follows the writing (R22) -/

variable {before : Supply}

theorem afterDefine_first (h : before.defined = false) : afterDefine n before s = derive n s := by
  simp [afterDefine, h]

theorem afterDefine_cleared (h : before.defined = true) (auto : (s.supply n).autoRestore = false) :
    afterDefine n before s = clearWaiting n s := by
  simp [afterDefine, h, auto]

theorem afterDefine_stays (h : before.defined = true) (auto : (s.supply n).autoRestore = true)
    (settled : before.autoRestore = true ∨ ((s.supply n).state ≠ .dark ∧ (s.supply n).state ≠ .tripped)) :
    afterDefine n before s = s := by
  rcases settled with old | ⟨dark, tripped⟩
  · simp [afterDefine, h, auto, old]
  · simp [afterDefine, h, auto, dark, tripped]

theorem afterDefine_asks (h : before.defined = true) (auto : (s.supply n).autoRestore = true)
    (new : before.autoRestore = false) (lost : (s.supply n).state = .dark ∨ (s.supply n).state = .tripped)
    (idle : ∀ t, ¬ flying s n t) : afterDefine n before s = restoreRequest n s := by
  have unfed : (((s.supply n).state == .dark) || ((s.supply n).state == .tripped)) = true := by simpa using lost
  simp only [afterDefine, h, auto, new, unfed]
  exact restoreIfSet_asks auto idle

/-! ## The owner -/

variable (m : StationNo) (st : Station)

theorem ownerDefineSupply_refused {e : Status} (h : defineRefusal n f s = some e) :
    ownerDefineSupply (numberOf n) (some f) m st s = refuse e s := by
  simp [ownerDefineSupply, h]

theorem ownerDefineSupply_written (h : defineRefusal n f s = none) :
    ownerDefineSupply (numberOf n) (some f) m st s =
      ⟨afterDefine n (s.supply n) (setSupply n (writeFields f (s.supply n)) s), .ok, .empty⟩ := by
  simp [ownerDefineSupply, h, modSupply_eq]

end

/-- Settles O34: the fields are read as they were carried; the three checks decide whether they are written, and the
supply's record before and after decides what follows. -/
theorem defineSupplyWritesTheFields : Obligations.DefineSupplyWritesTheFields := by
  intro rq n st s m q home auto back tq tm taken timing sourced c r twice moved
  have fields := supplyFields_carried auto back timing sourced
  have twice_iff : doubled q = true ↔ twice := doubled_iff q
  have moved_iff : (∃ x, closedChanges (s.input m x) (q.get x) = true) ↔ moved :=
    exists_congr fun x => closedChanges_iff _ _
  have answered {u : State} {status : Status} (e : ownerDefineSupply (numberOf m)
      (some { sources := q, home := home, autoRestore := auto, returnHome := back, timing := tm }) n
      (requester rq st s) (heard rq n s) = ⟨u, status, .empty⟩) :
      exec c s = replied rq kindDefineSupply n status .empty u :=
    request_done rq kindDefineSupply anyObject _ n st s taken (fun _ => rfl) _ _ _ (by rw [fields, e])
  refine ⟨fun transfer => answered (ownerDefineSupply_refused n _ (defineRefusal_busy transfer)),
    fun resting kept => answered (ownerDefineSupply_refused n _
      (defineRefusal_state resting (kept.imp twice_iff.mpr moved_iff.mpr))),
    fun resting single stays => ?_⟩
  have written (u : State) (follows : afterDefine m (s.supply m) (setSupply m r (heard rq n s)) = u) :
      exec c s = replied rq kindDefineSupply n .ok .empty u := by
    rw [← follows]
    exact answered (ownerDefineSupply_written n _
      (defineRefusal_none resting (mt twice_iff.mp single) (not_exists.mp (mt moved_iff.mp stays))))
  have record : (setSupply m r (heard rq n s)).supply m = r := by simp
  refine ⟨fun first => written _ (afterDefine_first first), fun again cleared => written _ ?_,
    fun again set settled =>
      written _ (afterDefine_stays again (by rw [record]; exact set) (by rw [record]; exact settled)),
    fun again set new lost idle => written _ (afterDefine_asks again (by rw [record]; exact set) new
      (by rw [record]; exact lost) fun t h => idle t h.1 h.2)⟩
  rw [afterDefine_cleared again (by rw [record]; exact cleared), clearWaiting, modSupply_eq, record, setSupply_twice]

end Sys2Proof.Machine
end

section
/-! The end of a confirm window (R25, R38, R52 to R57), and the end of a transfer at which neither contactor's position
can be trusted. -/

namespace Sys2Proof.Machine

/-! ## Inputs written twice -/

section
variable (n : SupplyNo) (x : Input) (s : State)

theorem put_put {α : Type} (v : Abc α) (a b : α) : (v.put x a).put x b = v.put x b := by
  cases x <;> rfl

theorem setInput_twice (a b : InputRec) : setInput n x b (setInput n x a s) = setInput n x b s := by
  simp [setInput, put_put]

theorem setInput_same (a : InputRec) : (setInput n x a s).input n x = a := by
  simp

theorem modInput_setInput (f : InputRec → InputRec) (a : InputRec) :
    modInput n x f (setInput n x a s) = setInput n x (f a) s := by
  rw [modInput, setInput_twice, setInput_same]

/-- R25: an input is marked FAULTED, and logged with the direction of the pulse that was not confirmed. -/
theorem markFaulted_eq (dir : Dir) : markFaulted n x dir s =
    logAppend .inputFault (num n) (some (inputCode x)) (some (if dir = .toClose then 0 else 1))
      (setInput n x { s.input n x with faulted := true } s) := by
  cases dir <;> rfl

/-- R25: the time of a window's end, with the window closed. -/
theorem closeWindow_advanceToMs (due : Nat) : closeWindow n x (advanceToMs due s) =
    setInput n x { s.input n x with window := none } (advanceTo (due * 1000) s) := rfl

end

/-! ## The report of a timeout, phase by phase (R52 to R57) -/

section
variable {n : SupplyNo} {x : Input} {s : State} {t : Transfer}

theorem timedOut_parallelClose (h : inFlight s n = some t) (phase : t.phase = .parallelClose) (target : t.target = x) :
    timedOut n x .toClose s = endTransfer n .failClose (markFaulted n x .toClose s) := by
  simp [timedOut, h, phase, target]

theorem timedOut_closing (h : inFlight s n = some t) (phase : t.phase = .closing) (target : t.target = x) :
    timedOut n x .toClose s = closingTimedOut n t s := by
  simp [timedOut, h, phase, target]

theorem timedOut_opening (h : inFlight s n = some t) (phase : t.phase = .opening) (origin : t.origin = some x) :
    timedOut n x .toOpen s = endTransfer n .failOpen (markFaulted n x .toOpen s) := by
  simp [timedOut, h, phase, origin]

/-- R53: past the overlap limit, the target that does not open leaves both closed. -/
theorem timedOut_parallelOpen_target (h : inFlight s n = some t) (phase : t.phase = .parallelOpen)
    (target : t.target = x) (late : t.overlapExpired = true) : timedOut n x .toOpen s = endBoth n x s := by
  simp [timedOut, h, phase, target, late]

theorem timedOut_parallelOpen_stays (h : inFlight s n = some t) (phase : t.phase = .parallelOpen)
    (other : t.target ≠ x ∨ t.overlapExpired = false) : timedOut n x .toOpen s = s := by
  rcases other with other | early
  · simp [timedOut, h, phase, other]
  · simp [timedOut, h, phase, early]

theorem timedOut_reclose (h : inFlight s n = some t) (phase : t.phase = .reclose) (origin : t.origin = some x) :
    timedOut n x .toClose s = endBoth n x (markFaulted n x .toClose s) := by
  simp [timedOut, h, phase, origin]

/-- R56: the origin, where it is still sound, takes the supply back. -/
theorem closingTimedOut_recloses (origin : t.origin.isSome = true) (sound : t.originTripped = false) :
    closingTimedOut n t s = enterReclose n .failClose (markFaulted n t.target .toClose s) := by
  simp [closingTimedOut, origin, sound]

theorem closingTimedOut_ends (lost : t.origin = none ∨ t.originTripped = true) :
    closingTimedOut n t s = endTransfer n .failClose (markFaulted n t.target .toClose s) := by
  rcases lost with none | tripped
  · simp [closingTimedOut, none]
  · simp [closingTimedOut, tripped]

/-! ## The row of the timeout (R25, R38) -/

variable {w : Window}

theorem confirmTimeout_restart (window : (s.input n x).window = some w) (restart : w.restart = true) :
    confirmTimeout n x s = restartTimedOut n x w.dir (closeWindow n x (advanceToMs w.ends s)) := by
  simp [confirmTimeout, window, restart]

theorem confirmTimeout_told (window : (s.input n x).window = some w) (ours : w.restart = false) :
    confirmTimeout n x s = timedOut n x w.dir (closeWindow n x (advanceToMs w.ends s)) := by
  simp [confirmTimeout, window, ours]

/-! ## FAIL_BOTH at a timeout (R53, R57) -/

/-- R53, R57, R62: the transfer ends in its order, with the supply left in FAULT and the input raised. -/
theorem endBoth_flying (h : flying s n t) : endBoth n x s = tellOriginator n t .failBoth
    (raise (.transferFault n (some x)) (toConsoleAndStage n)
      (reportEnd n t .failBoth (derived n .fault none none (releaseSteps n t .failBoth s)))) := by
  rw [endBoth, endWith, (flying_iff s n t).mp h]
  rfl

end

/-- Settles O47: the window is closed at its end; that of a restart open is raised, and any other is reported to XFR,
which acts by the phase of the transfer in flight. -/
theorem confirmTimeoutsEndOrTurnBack : Obligations.ConfirmTimeoutsEndOrTurnBack := by
  refine ⟨fun s n x w u v window hu hv => ?_, fun s v n x t flies hv => ?both⟩
  case both =>
    rw [endBoth_flying flies, ← hv]
    rfl
  have closed : closeWindow n x (advanceToMs w.ends s) = u := (closeWindow_advanceToMs n x s w.ends).trans hu.symm
  have faulted : markFaulted n x w.dir u = v := by
    rw [markFaulted_eq, hv, hu, setInput_twice, setInput_same]
  refine ⟨fun restart => ?restart, fun ours t flies => ?ours⟩
  case restart =>
    show Host.Outcome.next _ = _
    rw [confirmTimeout_restart window restart, closed, restartTimedOut, faulted]
  have row {r : State} (told : timedOut n x w.dir u = r) : exec (.confirmTimeout n x) s = .next r := by
    show Host.Outcome.next _ = _
    rw [confirmTimeout_told window ours, closed, told]
  have flight : inFlight u n = some t := (flying_iff u n t).mp (by rw [hu]; exact flies)
  refine ⟨fun dir target => ?closeTarget, fun dir origin phase => row ?_, fun dir target phase late => row ?_,
    fun dir phase other => row ?_, fun dir origin phase => row ?_⟩
  case closeTarget =>
    rw [dir] at row faulted
    subst target
    refine ⟨fun phase => row ?_, fun phase back => row ?_, fun phase lost => row ?_⟩
    · rw [timedOut_parallelClose flight phase rfl, faulted]
    · rw [timedOut_closing flight phase rfl, closingTimedOut_recloses back.1 back.2, faulted]
    · rw [timedOut_closing flight phase rfl, closingTimedOut_ends lost, faulted]
  all_goals rw [dir] at faulted ⊢
  · rw [timedOut_opening flight phase origin, faulted]
  · rw [timedOut_parallelOpen_target flight phase target late]
  · rw [timedOut_parallelOpen_stays flight phase other]
  · rw [timedOut_reclose flight phase origin, faulted]

end Sys2Proof.Machine
end

section
/-! The sense lines (R23, R28, R58): a crossing measured, the settle excursion, voltage gained and lost, and the trip of
a supply (R27, R29, R35, R36). -/

namespace Sys2Proof.Machine

/-! ## The measurement of a crossing (R23) -/

theorem qualified_eq (p : Nat) : qualified p = decide (14286 ≤ p ∧ p ≤ 25000) := by
  simp [qualified]

/-- R23: an input measured, with the figures as the manual's table has them. -/
theorem crossed_eq {r : InputRec} {time p : Nat} {v : Bool} {absent : Option Nat} (period : periodAt r time = p)
    (present : v = decide (14286 ≤ p ∧ p ≤ 25000))
    (since : absent = if v then none else if r.voltage then some (time / 1000) else r.absentSince) :
    crossed time r =
      { r with lastCrossing := some time, period := some p, voltage := v, absentSince := absent } := by
  rw [crossed, period, qualified_eq, ← present, absentAfter, ← since]

/-- R23, R69: a crossing at the present reading, as SUP measures it and every channel takes it. -/
def measured (n : SupplyNo) (x : Input) (s : State) : State :=
  syncCrossing n x s.now (periodAt (s.input n x) s.now) (modInput n x (crossed s.now) s)

section
variable {n : SupplyNo} {x : Input} {s : State}

theorem syncCrossing_input (time period : Nat) (m : SupplyNo) (y : Input) :
    (syncCrossing n x time period s).input m y = s.input m y := rfl

theorem senseCrossing_undefined (h : (s.supply n).defined = false) : senseCrossing n x s = measured n x s := by
  simp [senseCrossing, measured, h]

theorem senseCrossing_quiet (h : (s.supply n).defined = true)
    (same : (s.input n x).voltage = true ∨ ((measured n x s).input n x).voltage = false) :
    senseCrossing n x s = watchSettle n x (s.input n x).voltage (measured n x s) := by
  have still : (!(s.input n x).voltage && ((measured n x s).input n x).voltage) = false := by
    rcases same with same | same <;> simp [same]
  rw [senseCrossing, if_pos h]
  exact if_neg (Bool.eq_false_iff.mp still)

theorem senseCrossing_gains (h : (s.supply n).defined = true) (before : (s.input n x).voltage = false)
    (after : ((measured n x s).input n x).voltage = true) :
    senseCrossing n x s = gained n x (watchSettle n x (s.input n x).voltage (measured n x s)) := by
  have gains : (!(s.input n x).voltage && ((measured n x s).input n x).voltage) = true := by simp [before, after]
  rw [senseCrossing, if_pos h]
  exact if_pos gains

/-! ## The settle excursion (R58) -/

theorem outsideWindow_iff (window freq : Nat) :
    outsideWindow window freq = true ↔ freq + window < 50000 ∨ 50000 + window < freq := by
  simp only [outsideWindow, Bool.or_eq_true, decide_eq_true_eq]
  omega

/-- R58: an input whose period is held: its frequency lies outside the window, or it has lost its voltage. -/
theorem isExcursion_iff {r : InputRec} {p window : Nat} {before : Bool} (period : r.period = some p) :
    isExcursion window before r = true ↔
      (r.voltage = true ∧ (1000000000 / p + window < 50000 ∨ 50000 + window < 1000000000 / p)) ∨
        (r.voltage = false ∧ before = true) := by
  cases h : r.voltage with
  | true => simp [isExcursion, inputFreq, h, period, outsideWindow_iff]
  | false => simp [isExcursion, inputFreq, h]

theorem isExcursion_lost {r : InputRec} (lost : r.voltage = false) (window : Nat) (before : Bool) :
    isExcursion window before r = before := by
  simp [isExcursion, inputFreq, lost]

theorem watchSettle_excursion {t : Transfer} {before : Bool} (h : flying s n t) (phase : t.phase = .settle)
    (target : t.target = x) (swings : isExcursion (s.supply n).timing.settleWindow before (s.input n x) = true) :
    watchSettle n x before s = setSlot n (some { t with excursion := true }) s := by
  rw [watchSettle, (inPhase_eq_some s n .settle t).mpr ⟨h, phase⟩]
  exact (if_pos (by simp [target, swings])).trans (modSlot_eq n s _ h.1)

theorem watchSettle_stays {before : Bool} (h : (∀ t, flying s n t → t.phase ≠ .settle ∨ t.target ≠ x) ∨
    ¬ isExcursion (s.supply n).timing.settleWindow before (s.input n x) = true) : watchSettle n x before s = s := by
  unfold watchSettle
  split
  · rename_i t settling
    obtain ⟨flies, phase⟩ := (inPhase_eq_some s n .settle t).mp settling
    rcases h with elsewhere | calm
    · have target := (elsewhere t flies).resolve_left (not_not.mpr phase)
      simp [target]
    · simp [calm]
  · rfl

/-- R58: the settle excursion is set where a transfer in SETTLE has the input as its target and the line swings. -/
theorem watchSettle_eq {u : State} {before : Bool} {swings : Prop}
    (excursion : isExcursion (s.supply n).timing.settleWindow before (s.input n x) = true ↔ swings)
    (set : ∀ t, flying s n t → t.phase = .settle → t.target = x → swings →
      u = setSlot n (some { t with excursion := true }) s)
    (stays : (∀ t, flying s n t → t.phase ≠ .settle ∨ t.target ≠ x) ∨ ¬ swings → u = s) :
    watchSettle n x before s = u := by
  by_cases calm : (∀ t, flying s n t → t.phase ≠ .settle ∨ t.target ≠ x) ∨ ¬ swings
  · rw [stays calm]
    exact watchSettle_stays (calm.imp_right (mt excursion.mp))
  · obtain ⟨settling, swung⟩ := not_or.mp calm
    push Not at settling
    obtain ⟨t, flies, phase, target⟩ := settling
    have swung := not_not.mp swung
    rw [set t flies phase target swung]
    exact watchSettle_excursion flies phase target (excursion.mpr swung)

/-- R58: only the slot of the supply is written. -/
theorem watchSettle_frame (before : Bool) :
    ∃ r, watchSettle n x before s = setSlot n r s := by
  unfold watchSettle
  (repeat' split)
  · exact ⟨_, rfl⟩
  all_goals exact ⟨s.slot n, by simp [setSlot, State.slot]⟩

/-! ## Voltage gained (R28, R36) -/

/-- R28: a tripped supply whose closed input has its voltage back is LIVE again. -/
theorem gained_restores {i : SourceNo} (state : (s.supply n).state = .tripped) (closed : (s.supply n).closed = some x)
    (source : (s.input n x).source = some i) : gained n x s =
      logAppend .supplyRestored (num n) (some (inputCode x)) (some (numberOf i))
        (setSupply n { s.supply n with state := .live, record := some i, restoreWaiting := false,
                                       lastRestore := none } s) := by
  have feeds : (((s.supply n).state == .tripped) && ((s.supply n).closed == some x)) = true := by simp [state, closed]
  rw [gained, if_pos feeds, restored, source, clearWaiting_derived, ← closed]
  rfl

theorem gained_eq {i : SourceNo} (other : (s.supply n).state ≠ .tripped ∨ (s.supply n).closed ≠ some x)
    (source : (s.input n x).source = some i) : gained n x s =
      if available (s.source i) && restoresOnto s i n && retryInput s n x then restoreRequest n s else s := by
  have resting : (((s.supply n).state == .tripped) && ((s.supply n).closed == some x)) = false := by
    rcases other with h | h <;> simp [h]
  simp [gained, resting, source]

/-- R36: a sound input gains voltage whose source is available, and the supply that waits asks again. -/
theorem gained_asks {i : SourceNo} (waiting : (s.supply n).restoreWaiting = true)
    (state : (s.supply n).state = .tripped ∨ (s.supply n).state = .dark) (other : (s.supply n).closed ≠ some x)
    (source : (s.input n x).source = some i) (sound : (s.input n x).faulted = false)
    (voltage : (s.input n x).voltage = true) (ready : available (s.source i) = true) :
    gained n x s = restoreRequest n s := by
  have concerned := (restoresOnto_iff s i n).mpr ⟨waiting, state, x, source, sound, other, voltage⟩
  have retry : retryInput s n x = true := by simp [retryInput, sound, other, voltage]
  rw [gained_eq (.inr other) source, if_pos (by simp [ready, concerned, retry])]

theorem gained_stays (other : (s.supply n).state ≠ .tripped ∨ (s.supply n).closed ≠ some x)
    (barred : ∀ i, (s.input n x).source = some i → (s.supply n).restoreWaiting = false ∨
      ((s.supply n).state ≠ .tripped ∧ (s.supply n).state ≠ .dark) ∨ (s.input n x).faulted = true ∨
        available (s.source i) = false) : gained n x s = s := by
  cases source : (s.input n x).source with
  | none =>
    have resting : (((s.supply n).state == .tripped) && ((s.supply n).closed == some x)) = false := by
      rcases other with h | h <;> simp [h]
    simp [gained, resting, source]
  | some i =>
    rw [gained_eq other source, if_neg]
    rcases barred i source with waiting | ⟨tripped, dark⟩ | faulted | busy
    · simp [restoresOnto, waiting]
    · simp [restoresOnto, tripped, dark]
    · simp [retryInput, faulted]
    · simp [busy]

/-! ## Voltage lost (R23) -/

theorem voltageLoss_eq {c : Nat} (voltage : (s.input n x).voltage = true)
    (last : (s.input n x).lastCrossing = some c) : voltageLoss n x s =
      watchSettle n x true (setInput n x
        { s.input n x with voltage := false, absentSince := some (max s.now (c + 60000) / 1000) }
        (advanceTo (c + 60000) s)) := by
  rw [voltageLoss, voltage, last]
  rfl

/-! ## The trip (R27, R29) -/

theorem tripAt_absent {since : Nat} (voltage : (s.input n x).voltage = false)
    (absent : (s.input n x).absentSince = some since) :
    tripAt s n x = some (since + (s.supply n).timing.tripConfirm) := by
  simp [tripAt, voltage, absent]

theorem supplyTrip_live {due : Nat} (state : (s.supply n).state = .live) (closed : (s.supply n).closed = some x)
    (trip : tripAt s n x = some due) : supplyTrip n s = tripLive n x (advanceToMs due s) := by
  simp [supplyTrip, watchedInput, state, closed, trip]

theorem supplyTrip_transfer {due : Nat} (state : (s.supply n).state = .transfer) (feeds : feedingInput s n = some x)
    (trip : tripAt s n x = some due) : supplyTrip n s = tripInTransfer n x (advanceToMs due s) := by
  simp [supplyTrip, watchedInput, state, feeds, trip]

/-- R29: the source of record feeds through the one input it is assigned to. -/
theorem feedingInput_eq {i : SourceNo} (record : (s.supply n).record = some i)
    (source : (s.input n x).source = some i) (alone : ∀ y, y ≠ x → (s.input n y).source ≠ some i) :
    feedingInput s n = some x := by
  have only (y : Input) : ((s.input n y).source == some i) = decide (y = x) := by
    by_cases e : y = x
    · simp [e, source]
    · simp [e, alone y e]
  cases x <;> simp [feedingInput, record, allInputs, only]

end

/-! ## The rows -/

section
variable {n : SupplyNo} {x : Input} {s u w : State} {t : Nat}

theorem exec_senseCrossing_undefined (crossing : measured n x (advanceTo t s) = w)
    (h : (s.supply n).defined = false) : exec (.senseCrossing n x t) s = .next w := by
  subst crossing
  exact congrArg Host.Outcome.next (senseCrossing_undefined (s := advanceTo t s) h)

theorem exec_senseCrossing_quiet (crossing : measured n x (advanceTo t s) = w)
    (settle : watchSettle n x (s.input n x).voltage w = u) (h : (s.supply n).defined = true)
    (same : (s.input n x).voltage = true ∨ (w.input n x).voltage = false) :
    exec (.senseCrossing n x t) s = .next u := by
  subst crossing settle
  exact congrArg Host.Outcome.next (senseCrossing_quiet (s := advanceTo t s) h same)

theorem exec_senseCrossing_gains (crossing : measured n x (advanceTo t s) = w)
    (settle : watchSettle n x (s.input n x).voltage w = u) (h : (s.supply n).defined = true)
    (before : (s.input n x).voltage = false) (after : (w.input n x).voltage = true) :
    exec (.senseCrossing n x t) s = .next (gained n x u) := by
  subst crossing settle
  exact congrArg Host.Outcome.next (senseCrossing_gains (s := advanceTo t s) h before after)

/-- R27: the trip of a LIVE supply, but for the restore that it asks. -/
theorem tripLive_eq {i : SourceNo} (closed : (s.supply n).closed = some x) (source : (s.input n x).source = some i) :
    tripLive n x s = restoreIfSet n (raise (.supplyTrip n) (toConsoleAndStage n)
      (logAppend .supplyTrip (num n) (some (inputCode x)) (some (numberOf i))
        (setSupply n { s.supply n with state := .tripped, record := none } s))) := by
  have source' : ((derived n .tripped (some x) none s).input n x).source = some i := by rw [derived_input, source]
  rw [tripLive, reportTrip_eq n _ source', derived_eq, ← closed]

/-- R29: the trip of a feeding input in TRANSFER. -/
theorem tripInTransfer_eq {i : SourceNo} {tr : Transfer} (slot : s.slot n = some tr)
    (source : (s.input n x).source = some i) : tripInTransfer n x s =
      setSlot n (some { tr with tripReport := some x }) (raise (.supplyTrip n) (toConsoleAndStage n)
        (logAppend .supplyTrip (num n) (some (inputCode x)) (some (numberOf i))
          (setSupply n { s.supply n with record := none } s))) := by
  have source' : ((modSupply n (fun r => { r with record := none }) s).input n x).source = some i := by
    rw [modSupply_eq, setSupply_input, if_pos rfl]
    exact source
  rw [tripInTransfer, reportTrip_eq n _ source']
  exact modSlot_eq n _ _ (by rw [raise_slot_at, logAppend_slot_at]; exact slot)

end

/-- Settles O36: a crossing is measured, then watched by a transfer in SETTLE, then judged as a gain; an input that
loses its voltage is watched likewise; the trip falls to the input that feeds the supply. -/
theorem linesAreMeasuredAndTrip : Obligations.LinesAreMeasuredAndTrip := by
  refine ⟨fun s n x t p v ab u w swings hp hv hab hw hswings hset hstay => ?crossing,
    fun s n x c voltage last u hu => ?loss, fun s n x since i voltage absent source u hu => ?trip⟩
  case crossing =>
    have crossing : measured n x (advanceTo t s) = w := by
      have figures := crossed_eq (r := s.input n x) (time := max s.now t) hp.symm hv hab
      rw [hw, ← figures, hp]
      rfl
    have input : w.input n x = { s.input n x with
        lastCrossing := some (max s.now t), period := some p, voltage := v, absentSince := ab } := by
      rw [hw, syncCrossing_input, setInput_same]
    obtain ⟨inputs, supply⟩ : ∃ inputs, w.supply n = { s.supply n with inputs := inputs } := by
      rw [hw]
      exact ⟨_, (setSupply_supply _ n _ n).trans (if_pos rfl)⟩
    have excursion : isExcursion (w.supply n).timing.settleWindow (s.input n x).voltage (w.input n x) = true ↔
        swings := by
      rw [supply, input, hswings]
      exact isExcursion_iff rfl
    have slot : ∀ tr, flying w n tr ↔ flying s n tr := fun tr => by rw [hw]; rfl
    have settle (defined : (s.supply n).defined = true) : watchSettle n x (s.input n x).voltage w = u :=
      watchSettle_eq excursion
        (fun tr flies phase target => hset tr ((slot tr).mp flies) phase target defined)
        fun calm => hstay ((by simpa only [slot] using calm : _ ∨ ¬ swings).imp_right .inr)
    have watched (defined : (s.supply n).defined = true) : u.supply n = { s.supply n with inputs := inputs } ∧
        u.input n x = { s.input n x with
          lastCrossing := some (max s.now t), period := some p, voltage := v, absentSince := ab } ∧
        ∀ i, u.source i = s.source i := by
      obtain ⟨r, frame⟩ := watchSettle_frame (n := n) (x := x) (s := w) (s.input n x).voltage
      rw [← settle defined, frame]
      exact ⟨supply, input, fun i => by rw [hw]; rfl⟩
    have present : (w.input n x).voltage = v := by rw [input]
    refine ⟨fun still => ?_, fun i defined before gains state closed source => ?_,
      fun i defined before gains waiting other source => ?_⟩
    · cases defined : (s.supply n).defined with
      | false =>
        rw [hstay (.inr (.inl defined))]
        exact exec_senseCrossing_undefined crossing defined
      | true =>
        obtain ⟨supply, input, sources⟩ := watched defined
        by_cases same : (s.input n x).voltage = true ∨ v = false
        · exact exec_senseCrossing_quiet crossing (settle defined) defined (by rw [present]; exact same)
        · obtain ⟨before, after⟩ := not_or.mp same
          obtain ⟨waiting, other⟩ : (s.supply n).restoreWaiting = false ∧
              ((s.supply n).state ≠ .tripped ∨ (s.supply n).closed ≠ some x) := by
            simpa [defined, before, after] using still
          rw [exec_senseCrossing_gains crossing (settle defined) defined (by simpa using before)
            (by rw [present]; simpa using after)]
          rw [gained_stays (by rw [supply]; exact other) fun i _ => .inl (by rw [supply]; exact waiting)]
    · obtain ⟨supply, input, -⟩ := watched defined
      rw [exec_senseCrossing_gains crossing (settle defined) defined before (present.trans gains)]
      rw [gained_restores (by rw [supply]; exact state) (by rw [supply]; exact closed) (by rw [input]; exact source)]
    · obtain ⟨supply, input, sources⟩ := watched defined
      rw [exec_senseCrossing_gains crossing (settle defined) defined before (present.trans gains)]
      refine ⟨fun state sound ready => ?_, fun barred => ?_⟩
      · rw [gained_asks (by rw [supply]; exact waiting) (by rw [supply]; exact state) (by rw [supply]; exact other)
          (by rw [input]; exact source) (by rw [input]; exact sound) (by rw [input]; exact gains)
          (by rw [sources]; exact ready)]
      · rw [gained_stays (.inr (by rw [supply]; exact other)) fun j source' => .inr ?_]
        rw [input, source] at source'
        obtain rfl := Option.some.inj source'
        rw [supply, input, sources]
        exact barred
  case loss =>
    have slot : ∀ tr, flying u n tr ↔ flying s n tr := fun tr => by rw [hu]; rfl
    have row {r : State} (watched : watchSettle n x true u = r) : exec (.voltageLossTimeout n x) s = .next r := by
      show Host.Outcome.next _ = _
      rw [voltageLoss_eq voltage last, ← hu, watched]
    refine ⟨fun elsewhere => row (watchSettle_stays (.inl (by simpa only [slot] using elsewhere))),
      fun tr flies phase target => row (watchSettle_excursion ((slot tr).mpr flies) phase target ?_)⟩
    exact isExcursion_lost (by rw [hu, setInput_same]) _ true
  case trip =>
    subst hu
    have due := tripAt_absent voltage absent
    refine ⟨fun live closed v hv => ?_, fun tr transfer record alone slot => ?_⟩
    · have row : exec (.supplyTrip n) s = .next (restoreIfSet n v) := by
        show Host.Outcome.next _ = _
        rw [supplyTrip_live live closed due, tripLive_eq (s := advanceToMs _ s) closed source, hv]
        rfl
      have auto : (v.supply n).autoRestore = (s.supply n).autoRestore := by simp [hv]
      have slot : v.slot n = s.slot n := by simp [hv]
      rw [row]
      refine ⟨fun stays => ?_, fun set idle => ?_⟩
      · rw [restoreIfSet_stays (by simpa only [auto, flying_of_slot slot] using stays)]
      · rw [restoreIfSet_asks (auto.trans set) (by simpa only [flying_of_slot slot] using idle)]
    · show Host.Outcome.next _ = _
      rw [supplyTrip_transfer transfer (feedingInput_eq record source alone) due,
        tripInTransfer_eq (s := advanceToMs _ s) slot source]
      rfl

end Sys2Proof.Machine
end

section
/-! The source that each input is assigned to (R20, R22): no work of the panels or of a transfer's end changes it, up to
the restores that a freed source brings. -/

namespace Sys2Proof.Machine

/-- R20: the source assigned to each input of each supply. -/
def State.assigned (s : State) (n : SupplyNo) (x : Input) : Option SourceNo := (s.input n x).source

theorem assigned_of_sup {s t : State} (h : t.sup = s.sup) : t.assigned = s.assigned := by
  funext n x
  simp only [State.assigned, State.input, State.supply, h]

/-- The state in a result whose parts are named. -/
theorem assigned_of_eq {α : Type} {r : With α} {t s : State} {v : α} (e : r = ⟨t, v⟩)
    (h : r.state.assigned = s.assigned) : t.assigned = s.assigned := by
  rwa [e] at h

theorem assigned_foldl {α : Type} (f : State → α → State) (h : ∀ s a, (f s a).assigned = s.assigned) (l : List α)
    (s : State) : (l.foldl f s).assigned = s.assigned := by
  induction l generalizing s with
  | nil => rfl
  | cons a l ih => rw [List.foldl_cons, ih, h]

section
variable (s : State)

/-! ## What leaves the supplies alone -/

@[simp] theorem sup_releaseChannel (ticket : Nat) : (releaseChannel ticket s).sup = s.sup := by
  unfold releaseChannel grantChannel
  (repeat' split) <;> rfl

@[simp] theorem sup_requestChannel (n : SupplyNo) : (requestChannel n s).sup = s.sup := by
  unfold requestChannel grantChannel
  (repeat' split) <;> rfl

@[simp] theorem sup_chooseTarget (pre : Option Nat) (q : Ask) : (chooseTarget pre q s).state.sup = s.sup := by
  unfold chooseTarget
  (repeat' split) <;> rfl

@[simp] theorem sup_judge (q : Ask) : (judge q s).state.sup = s.sup := by
  unfold judge
  split <;> simp

@[simp] theorem sup_judgeRestores (ns : List SupplyNo) : (judgeRestores ns s).state.sup = s.sup := by
  have each (acc : With (List (SupplyNo × Except Status Chosen))) :
      (ns.foldl judgeNext acc).state.sup = acc.state.sup := by
    induction ns generalizing acc with
    | nil => rfl
    | cons n ns ih => rw [List.foldl_cons, ih, judgeNext, sup_judge]
  exact each ⟨s, []⟩

@[simp] theorem sup_reportBlock (d : SlotNo) (n : SupplyNo) (why : StatusOrResult) :
    (reportBlock d n why s).sup = s.sup := by
  unfold reportBlock
  (repeat' split) <;> simp [modDelivery]

/-- R62 step 8: DLV and WCH take a move that did not complete. -/
@[simp] theorem sup_tellFailed (n : SupplyNo) (t : Transfer) (result : Result) :
    (tellFailed n t result s).sup = s.sup := by
  unfold tellFailed tellUnloadFailed tellReturnFailed
  (repeat' split) <;> simp [unloadFailed, modDelivery, abandonReturn, dropReturn, putReturn, tellWatch, modWatch]

/-! ## What writes a supply -/

theorem assigned_modSupply (n : SupplyNo) (f : Supply → Supply)
    (keeps : ∀ r x, ((f r).inputs.get x).source = (r.inputs.get x).source) :
    (modSupply n f s).assigned = s.assigned := by
  funext m x
  rw [State.assigned, modSupply_eq, setSupply_input]
  split
  · rename_i same
    rw [keeps, State.assigned, State.input, same]
  · rfl

theorem assigned_modInput (n : SupplyNo) (x : Input) (f : InputRec → InputRec) (keeps : ∀ r, (f r).source = r.source) :
    (modInput n x f s).assigned = s.assigned := by
  funext m y
  rw [State.assigned, modInput, setInput_input]
  split
  · rename_i same
    rw [keeps, State.assigned, same.1, same.2]
  · rfl

@[simp] theorem assigned_derived (n : SupplyNo) (st : SupplyState) (closed : Option Input) (record : Option SourceNo) :
    (derived n st closed record s).assigned = s.assigned := assigned_modSupply s n _ fun _ _ => rfl

@[simp] theorem assigned_restoreRefused (n : SupplyNo) (e : Status) : (restoreRefused n e s).assigned = s.assigned :=
  assigned_modSupply s n _ fun _ _ => rfl

@[simp] theorem assigned_closeWindows (n : SupplyNo) : (closeWindows n s).assigned = s.assigned :=
  assigned_modSupply s n _ fun _ x => by cases x <;> rfl

@[simp] theorem assigned_startPulse (n : SupplyNo) (x : Input) (dir : Dir) (restart : Bool) :
    (startPulse n x dir restart s).assigned = s.assigned := by
  cases dir <;> exact assigned_modInput s n x _ fun _ => rfl

@[simp] theorem assigned_modSlot (n : SupplyNo) (f : Transfer → Transfer) : (modSlot n f s).assigned = s.assigned :=
  rfl

theorem assigned_commandClose (n : SupplyNo) (x : Input) (inStep : Bool) :
    (commandClose n x inStep s).assigned = s.assigned := by
  unfold commandClose
  split
  · exact assigned_startPulse ..
  · rfl

theorem assigned_openOrigin (n : SupplyNo) (t : Transfer) : (openOrigin n t s).assigned = s.assigned := by
  unfold openOrigin
  split
  · exact assigned_startPulse ..
  · rfl

theorem assigned_enterClosing (n : SupplyNo) : (enterClosing n s).assigned = s.assigned := by
  unfold enterClosing
  split
  · exact assigned_commandClose ..
  · rfl

theorem assigned_enterOpening (n : SupplyNo) : (enterOpening n s).assigned = s.assigned := by
  unfold enterOpening
  split
  · exact assigned_openOrigin ..
  · rfl

theorem assigned_enterFirst (n : SupplyNo) : (m : ModeEff) → (enterFirst n m s).assigned = s.assigned
  | .closeOnly => assigned_enterClosing s n
  | .break => assigned_enterOpening s n
  | .closed => assigned_of_sup (by simp [enterFirst, enterSyncWait, modSlot])

/-! ## Admission and restores -/

theorem assigned_claimAndBegin (q : Ask) (k : Chosen) : (claimAndBegin q k s).state.assigned = s.assigned := by
  unfold claimAndBegin
  split
  · rfl
  · exact (assigned_enterFirst ..).trans (assigned_modSupply _ _ _ fun _ _ => rfl)

theorem assigned_takeRestore (v : SupplyNo × Except Status Chosen) : (takeRestore s v).assigned = s.assigned := by
  unfold takeRestore
  split
  · simp
  · split <;> rename_i begun
    · rw [assigned_restoreRefused]
      exact assigned_of_eq begun (assigned_claimAndBegin s _ _)
    · exact assigned_of_eq begun (assigned_claimAndBegin s _ _)

@[simp] theorem assigned_restoreRequests (ns : List SupplyNo) : (restoreRequests ns s).assigned = s.assigned :=
  (assigned_foldl takeRestore assigned_takeRestore _ _).trans (assigned_of_sup (sup_judgeRestores s ns))

@[simp] theorem assigned_changeSource (i : SourceNo) (f : Source → Source) :
    (changeSource i f s).assigned = s.assigned := by
  rw [changeSource_eq]
  split
  · exact assigned_restoreRequests _ _
  · rfl

/-! ## The end of a transfer -/

@[simp] theorem assigned_releaseSteps (n : SupplyNo) (t : Transfer) (result : Result) :
    (releaseSteps n t result s).assigned = s.assigned := by
  have released := assigned_of_sup (sup_releaseChannel (modSlot n (endedSlot result s.clock) s) t.ticket)
  simp only [releaseSteps, assigned_changeSource, assigned_closeWindows, assigned_modSlot, released]

/-- R60, R62: a transfer that ends FAIL_BOTH leaves every input assigned as it was. -/
theorem assigned_endTransfer_failBoth (n : SupplyNo) : (endTransfer n .failBoth s).assigned = s.assigned := by
  unfold endTransfer endWith
  split
  · rename_i t _
    refine (assigned_of_sup (sup_tellFailed _ n t .failBoth)).trans ?_
    refine (assigned_of_sup ?_).trans
      ((assigned_derived _ n .fault none none).trans (assigned_releaseSteps s n t .failBoth))
    simp [raiseFault, reportEnd, afterEnd]
  · rfl

end

end Sys2Proof.Machine
end

section
/-! The qualified change of an aux contact (R24, R32, R60). -/

namespace Sys2Proof.Machine

section
variable {n : SupplyNo} {x : Input} {s u : State} {closed : Bool}

theorem windowMatches_iff (w : Window) :
    windowMatches closed w = true ↔ w.dir = if closed then .toClose else .toOpen := by
  cases h : w.dir <;> cases closed <;> simp [windowMatches, h]

/-- R24: a change of a line, with the record that is judged. -/
theorem auxChange_undefined (changed : (s.input n x).aux ≠ closed) (h : (s.supply n).defined = false) :
    auxChange n x closed s = modInput n x (fun r => { r with aux := closed }) s := by
  simp [auxChange, changed, h]

theorem auxChange_defined (changed : (s.input n x).aux ≠ closed) (h : (s.supply n).defined = true) :
    auxChange n x closed s =
      judgeChange n x closed (s.input n x).window (modInput n x (fun r => { r with aux := closed }) s) := by
  simp [auxChange, changed, h]

theorem judgeChange_restart {w : Window} (ours : w.dir = if closed then .toClose else .toOpen)
    (restart : w.restart = true) : judgeChange n x closed (some w) s = derive n (closeWindow n x s) := by
  simp [judgeChange, (windowMatches_iff w).mpr ours, restart]

theorem judgeChange_confirms {w : Window} (ours : w.dir = if closed then .toClose else .toOpen)
    (plain : w.restart = false) : judgeChange n x closed (some w) s = confirmed n x closed (closeWindow n x s) := by
  simp [judgeChange, (windowMatches_iff w).mpr ours, plain]

/-- R24, R32: a change that no window of its own direction awaits. -/
theorem judgeChange_uncommanded {w : Option Window}
    (other : ∀ v, w = some v → v.dir = if closed then .toOpen else .toClose) :
    judgeChange n x closed w s = uncommanded n x closed s := by
  cases w with
  | none => rfl
  | some v =>
    have against : ¬ windowMatches closed v = true := by
      rw [windowMatches_iff, other v rfl]
      cases closed <;> simp
    simp [judgeChange, against]

theorem endTransfer_idle {result : Result} (idle : ∀ t, ¬ flying s n t) : endTransfer n result s = s := by
  rw [endTransfer, endWith, inFlight_eq_none idle]

/-! ## An uncommanded change (R32, R60) -/

variable {told ended v : State} {i : SourceNo}

theorem uncommanded_eq : uncommanded n x closed s =
    panelFault n x closed (endTransfer n .failBoth (logAppend .uncommanded (num n) (some (inputCode x))
      (some (if closed then 1 else 0)) s)) := by
  cases closed <;> rfl

/-- R60: the transfer that flies ends, and where none flies the log is all that has changed. -/
theorem ended_eq (idle : (∀ tr, ¬ flying s n tr) → ended = s)
    (flies : (∃ tr, flying s n tr) → ended = endTransfer n .failBoth s) : ended = endTransfer n .failBoth s := by
  by_cases h : ∃ tr, flying s n tr
  · exact flies h
  · rw [endTransfer_idle (not_exists.mp h), idle (not_exists.mp h)]

theorem endTransfer_failBoth_source : ((endTransfer n .failBoth s).input n x).source = (s.input n x).source :=
  congrFun (congrFun (assigned_endTransfer_failBoth s n) n) x

end

/-- Settles O37: a change of a line is read, and of a defined supply judged by the window open on its input: as its own
confirmation, or as uncommanded. -/
theorem contactorChangesAreJudged : Obligations.ContactorChangesAreJudged := by
  rintro s n x closed t u changed rfl
  have changed' : ((advanceTo t s).input n x).aux ≠ closed := changed
  have run : exec (.auxChange n x closed t) s = .next (auxChange n x closed (advanceTo t s)) := rfl
  refine ⟨fun undefined => ?read, fun w defined open_ ours v hv => ?window,
    fun defined other told ended v htold idle flies hv => ?uncommanded⟩
  case read =>
    rw [run, auxChange_undefined changed' undefined]
    rfl
  case window =>
    have judged : exec (.auxChange n x closed t) s = .next (judgeChange n x closed (some w)
        (setInput n x { s.input n x with aux := closed } (advanceTo t s))) := by
      rw [run, auxChange_defined changed' defined, ← open_]
      rfl
    have left : closeWindow n x (setInput n x { s.input n x with aux := closed } (advanceTo t s)) = v := by
      rw [hv, closeWindow, modInput_setInput]
    exact ⟨fun restart => by rw [judged, judgeChange_restart ours restart, left],
      fun plain => by rw [judged, judgeChange_confirms ours plain, left]⟩
  case uncommanded =>
    have slot : told.slot n = s.slot n := by
      rw [htold, logAppend_slot_at]
      rfl
    have same (tr : Transfer) : flying told n tr ↔ flying s n tr := flying_of_slot slot tr
    have ended_told : ended = endTransfer n .failBoth told :=
      ended_eq (by simpa only [same] using idle) (by simpa only [same] using flies)
    have judged : exec (.auxChange n x closed t) s = .next (panelFault n x closed ended) := by
      rw [run, auxChange_defined changed' defined, ended_told, htold, ← uncommanded_eq]
      exact congrArg _ (judgeChange_uncommanded other)
    have source : (ended.input n x).source = (s.input n x).source := by
      rw [ended_told, endTransfer_failBoth_source, htold, logAppend_input_at, setInput_same]
    have state (i : SourceNo) : v.source i = ended.source i := by
      rw [hv, raise_source_at, setSupply_source_at]
    rw [judged]
    refine ⟨fun sound => ?_, fun i isClosed own refuel => ?_⟩
    · rw [panelFault_raises (by simpa only [source, state] using sound), derived_eq, hv]
    · subst isClosed
      rw [panelFault_refuel (source.trans own) (by simpa only [state] using refuel), derived_eq, ← hv]
      rfl

end Sys2Proof.Machine
end

section
/-! What the work of LNK, STN, LOG, MTR and STL leaves alone: every record of SUP. -/

namespace Sys2Proof.Machine

section
variable (s : State)

/-! ## The operations -/

@[simp] theorem sup_modPort (p : PortNo) (f : Port → Port) : (modPort p f s).sup = s.sup := rfl
@[simp] theorem sup_modStation (n : StationNo) (f : Station → Station) : (modStation n f s).sup = s.sup := rfl
@[simp] theorem sup_modChan (k : ChannelNo) (f : Chan → Chan) : (modChan k f s).sup = s.sup := rfl
@[simp] theorem sup_advanceToMs (due : Nat) : (advanceToMs due s).sup = s.sup := rfl
@[simp] theorem sup_touch (n : StationNo) : (touch n s).sup = s.sup := rfl
@[simp] theorem sup_setRx (p : PortNo) (rx : Rx) : (setRx p rx s).sup = s.sup := rfl
@[simp] theorem sup_refuse (e : Status) : (refuse e s).state.sup = s.sup := rfl
@[simp] theorem sup_fileInto (serial : Nat) (f : SettleRec → SettleRec) : (fileInto serial f s).sup = s.sup := rfl

@[simp] theorem sup_setHeader (k : Bank) (h : BankHeader) : (setHeader k h s).sup = s.sup := by cases k <;> rfl

@[simp] theorem sup_setPortFlag (p : PortNo) (f : PortFlag) : (setPortFlag p f s).sup = s.sup := by
  unfold setPortFlag
  split <;> simp

/-! ## LNK -/

@[simp] theorem sup_characterGap (p : PortNo) : (characterGap p s).sup = s.sup := by
  unfold characterGap discardFrame
  (repeat' split) <;> simp

@[simp] theorem sup_lineQuiet (p : PortNo) : (lineQuiet p s).sup = s.sup := by
  unfold lineQuiet
  split <;> simp

@[simp] theorem sup_replySent (p : PortNo) : (replySent p s).sup = s.sup := by
  have waiting (waits : Bool) (u : State) : (takeWaiting p waits u).sup = u.sup := by
    unfold takeWaiting
    split <;> simp
  have named (q : Option PortNo) (u : State) : (takeNamed q u).sup = u.sup := by
    unfold takeNamed restartNamed
    (repeat' split) <;> simp
  simp only [replySent]
  split <;> simp [named, waiting]

@[simp] theorem sup_badKind (rq : Request) (kind : Nat) : (badKind rq kind s).sup = s.sup := by
  unfold badKind
  dsimp only
  (repeat' split) <;> simp

@[simp] theorem sup_huntChar (p : PortNo) (c : RxChar) : (huntChar p c s).sup = s.sup := by
  unfold huntChar
  split <;> simp

/-! ## The map hold -/

@[simp] theorem sup_holdLapse : (holdLapse s).sup = s.sup := by
  unfold holdLapse
  dsimp only
  (repeat' split) <;> simp

@[simp] theorem sup_freeHoldOf (m : StationNo) : (freeHoldOf m s).sup = s.sup := by
  unfold freeHoldOf
  split <;> simp

/-! ## MTR -/

@[simp] theorem sup_risingEdge (k : ChannelNo) : (risingEdge k s).sup = s.sup := by
  unfold risingEdge
  split <;> simp

@[simp] theorem sup_fallingEdge (k : ChannelNo) : (fallingEdge k s).sup = s.sup := by
  unfold fallingEdge fallDefined countPulse
  dsimp only
  (repeat' split) <;> simp

/-! ## STL -/

@[simp] theorem sup_announceHire (serial : Nat) : (announceHire serial s).sup = s.sup := by
  simp [announceHire, closeHire]

@[simp] theorem sup_announceMatrix (serial : Nat) : (announceMatrix serial s).sup = s.sup := by
  simp [announceMatrix, closeMatrix]

theorem sup_foldl {α : Type} (f : State → α → State) (h : ∀ s a, (f s a).sup = s.sup) (l : List α) :
    (l.foldl f s).sup = s.sup := by
  induction l generalizing s with
  | nil => rfl
  | cons a l ih => rw [List.foldl_cons, ih, h]

@[simp] theorem sup_announceBurn (serial : Nat) : (announceBurn serial s).sup = s.sup := by
  have dry (u : State) (i : SourceNo) : (raiseDry s u i).sup = u.sup := by
    unfold raiseDry
    split <;> simp
  simp [announceBurn, closeBurn, sup_foldl _ _ dry]

@[simp] theorem sup_settle : (settle s).sup = s.sup := by
  unfold settle takeClose settleRecord
  (repeat' split) <;> simp

@[simp] theorem sup_releaseBank (k : Bank) : (releaseBank k s).sup = s.sup := by
  simp [releaseBank, emptyBank]

/-! ## Requests, each by its owner's answer -/

variable (n : StationNo) (st : Station)

@[simp] theorem sup_ownerTakeHold : (ownerTakeHold n st s).state.sup = s.sup := by
  unfold ownerTakeHold
  (repeat' split) <;> simp

@[simp] theorem sup_ownerReleaseHold : (ownerReleaseHold n st s).state.sup = s.sup := by
  unfold ownerReleaseHold
  split <;> simp

@[simp] theorem sup_ownerForceRelease : (ownerForceRelease n st s).state.sup = s.sup := by
  unfold ownerForceRelease
  split <;> simp

@[simp] theorem sup_ownerEnrol (port address role : Nat) (supply : Option Nat) :
    (ownerEnrol port address role supply n st s).state.sup = s.sup := by
  unfold ownerEnrol
  (repeat' split) <;> simp

@[simp] theorem sup_ownerRemove (station : Nat) : (ownerRemove station n st s).state.sup = s.sup := by
  unfold ownerRemove
  (repeat' split) <;> simp [markGoneAll]

@[simp] theorem sup_ownerEnables (mask : BitVec 16) (value : Bool) :
    (ownerEnables mask value n st s).state.sup = s.sup := rfl

@[simp] theorem sup_ownerClearCauses (mask : BitVec 16) : (ownerClearCauses mask n st s).state.sup = s.sup := rfl

@[simp] theorem sup_ownerQuery : (ownerQuery n st s).state.sup = s.sup := by
  unfold ownerQuery
  split <;> simp

@[simp] theorem sup_ownerReadLog (count : Nat) : (ownerReadLog count n st s).state.sup = s.sup := by
  unfold ownerReadLog
  split <;> simp

@[simp] theorem sup_ownerSeekLog (position : Nat) : (ownerSeekLog position n st s).state.sup = s.sup := by
  unfold ownerSeekLog
  split <;> simp

@[simp] theorem sup_ownerSetPort (port : Nat) (fields : Option PortSettings) :
    (ownerSetPort port fields n st s).state.sup = s.sup := by
  unfold ownerSetPort
  (repeat' split) <;> simp

@[simp] theorem sup_ownerRestartPort (arrived : PortNo) (port : Nat) :
    (ownerRestartPort arrived port n st s).state.sup = s.sup := by
  unfold ownerRestartPort
  split <;> simp

@[simp] theorem sup_ownerReadPort (port : Nat) : (ownerReadPort port n st s).state.sup = s.sup := by
  unfold ownerReadPort
  split <;> simp

@[simp] theorem sup_ownerSetLimits (slip phase volts timeout : Option Nat) :
    (ownerSetLimits slip phase volts timeout n st s).state.sup = s.sup := by
  unfold ownerSetLimits resetRuns
  dsimp only
  (repeat' split) <;> simp

@[simp] theorem sup_ownerSetPrice (price : Nat) : (ownerSetPrice price n st s).state.sup = s.sup := by
  unfold ownerSetPrice
  split <;> simp

@[simp] theorem sup_ownerArm (mask : Word) (f : Watch → Watch) : (ownerArm mask f n st s).state.sup = s.sup := by
  simp [ownerArm, eachWatch]

@[simp] theorem sup_ownerDefineChannel (channel : Nat) (supply account : Option Nat) (wh : Nat) (width : Option Nat) :
    (ownerDefineChannel channel supply account wh width n st s).state.sup = s.sup := by
  unfold ownerDefineChannel channelWritten
  (repeat' split) <;> simp

@[simp] theorem sup_ownerReadChannel (channel : Nat) : (ownerReadChannel channel n st s).state.sup = s.sup := by
  unfold ownerReadChannel
  split <;> simp

@[simp] theorem sup_ownerSetInterval (minutes : Nat) : (ownerSetInterval minutes n st s).state.sup = s.sup := by
  unfold ownerSetInterval
  dsimp only
  split <;> simp

@[simp] theorem sup_ownerDefineAccount (account present reference : Nat) :
    (ownerDefineAccount account present reference n st s).state.sup = s.sup := by
  unfold ownerDefineAccount
  split <;> simp

@[simp] theorem sup_ownerRemoveAccount (account : Nat) : (ownerRemoveAccount account n st s).state.sup = s.sup := by
  unfold ownerRemoveAccount
  (repeat' split) <;> simp

@[simp] theorem sup_ownerClosePeriod : (ownerClosePeriod n st s).state.sup = s.sup := by
  unfold ownerClosePeriod
  split <;> simp [setClosePending]

@[simp] theorem sup_ownerReleasePeriod : (ownerReleasePeriod n st s).state.sup = s.sup := by
  unfold ownerReleasePeriod
  split <;> simp

@[simp] theorem sup_ownerReadAccount (account bank : Nat) :
    (ownerReadAccount account bank n st s).state.sup = s.sup := by
  unfold ownerReadAccount
  (repeat' split) <;> simp

@[simp] theorem sup_ownerReadSettlement : (ownerReadSettlement n st s).state.sup = s.sup := rfl

end

end Sys2Proof.Machine
end

section
/-! R25's law through every command that does not stand alone: only a close command asserts a close pulse anew, and it
does so with every other input open. -/

namespace Sys2Proof.Machine

section
variable {p : SupplyNo → Input → Option Nat}

/-- R25's law in every state that an outcome goes on with. -/
def ClosingNext (p : SupplyNo → Input → Option Nat) (o : Host.Outcome State Fault Refusal) : Prop :=
  ∀ t, o = .next t → Closing p t

theorem closingNext_iff {s : State} : ClosingNext p (.next s) ↔ Closing p s :=
  ⟨fun h => h s rfl, fun h t e => by cases e; exact h⟩

/-! ## The timebase, intervals and settlement -/

section
variable (s : State) (h : Closing p s)
include h

theorem closing_announceDark (serial : Nat) : Closing p (announceDark serial s) :=
  closing_panel h fun n x => by
    have same : (announceDark serial s).input n x = s.input n x := by
      rw [State.input, State.supply, announceDark, sup_fileInto]
      simp only [closeDark, look_tab]
      rfl
    simp [same]

theorem closing_takeBoundary (endTime : Nat) : Closing p (takeBoundary endTime s) := by
  unfold takeBoundary announce
  exact closing_announceDark _ (closing_sup h (by simp)) _

theorem closing_tickOwners (order : TickOrder) : Closing p (tickOwners order s) :=
  closing_panel h fun n x => by
    have same : (tickOwners order s).input n x = s.input n x := by
      rw [State.input, tickOwners_supply, tickSupplyRec]
      split <;> rfl
    simp [same]

theorem closing_tickBlocks (order : TickOrder) : Closing p (tickBlocks order s) := by
  have ticked : Closing p (tickOwners order (tickClock s)) :=
    closing_tickOwners _ (closing_sup h (setClock_sup ..)) order
  unfold tickBlocks
  dsimp only
  split
  · exact closing_takeBoundary _ ticked _
  · exact ticked

theorem closing_secondTick (order : TickOrder) : Closing p (secondTick order s) := by
  unfold secondTick
  split
  · exact closing_tickBlocks _ (closing_kept.on_sampleAll _ h) order
  · exact closing_kept.on_sampleAll _ (closing_tickBlocks _ h order)

theorem closing_takeTime (time : Nat) : Closing p (takeTime time s) := by
  unfold takeTime
  dsimp only
  refine closing_sup (s := if s.stl.clock.nextBoundary ≤ time then _ else _) ?_ (logAppend_sup ..)
  split
  · exact closing_takeBoundary _ (closing_sup h (setClock_sup ..)) _
  · exact closing_sup h (setClock_sup ..)

/-! ## Requests and broadcasts -/

theorem closing_request (rq : Request) (k : Kind) (scope : Station → State → Bool)
    (owner : StationNo → Station → State → Done)
    (keeps : ∀ n st u, Closing p u → Closing p (owner n st u).state) : Closing p (request rq k scope owner s) := by
  have owned (n : StationNo) (st : Station) (u : State) (k : u.sup = s.sup) : Closing p (owner n st u).state :=
    keeps n st u (closing_sup h k)
  unfold request judged
  dsimp only
  (repeat' split)
  case h_2 =>
    refine closing_sup (owned _ _ _ ?_) (answer_sup ..)
    rfl
  all_goals exact closing_sup h (by simp)

theorem closing_broadcast (rq : Request) (k : Kind) (fits : Bool) (effect : State → State)
    (keeps : ∀ u, Closing p u → Closing p (effect u)) : Closing p (broadcast rq k fits effect s) := by
  unfold broadcast
  dsimp only
  (repeat' split)
  all_goals first
    | exact closing_sup h (by simp)
    | exact keeps _ (closing_sup h (by simp))

/-- R153: the broadcast that a frame carries. -/
theorem closing_takeBroadcast (port : PortNo) (f : Frame) : Closing p (takeBroadcast port f s) := by
  unfold takeBroadcast
  dsimp only
  split
  · exact closing_broadcast _ h _ _ _ _ fun u k => closing_takeTime u k _
  · exact closing_broadcast _ h _ _ _ _ fun u k => closing_kept.on_showHoldAll true u k
  · exact closing_broadcast _ h _ _ _ _ fun _ k => k

/-! ## The requests of chapter 12 -/

theorem closing_servePassed (c : Instr) : ClosingNext p (servePassed c s) := by
  have asked (rq : Request) (k : Kind) (scope : Station → State → Bool) (owner : StationNo → Station → State → Done)
      (keeps : ∀ n st u, Closing p u → Closing p (owner n st u).state) :
      ClosingNext p (.next (request rq k scope owner s)) :=
    closingNext_iff.mpr (closing_request s h rq k scope owner keeps)
  cases c
  case hireSource => exact asked _ _ _ _ (closing_kept.on_ownerHire _ _)
  case offHireSource => exact asked _ _ _ _ (closing_kept.on_ownerOffHire _)
  case sourceReport => exact asked _ _ _ _ (closing_kept.on_ownerReport _ _ _ _ _ _ _)
  case readSource => exact asked _ _ _ _ (closing_kept.on_ownerReadSource _)
  case defineSupply => exact asked _ _ _ _ (closing_kept.on_ownerDefineSupply _ _)
  case clearFault => exact asked _ _ _ _ (closing_kept.on_ownerClearFault _)
  case clearShowHold => exact asked _ _ _ _ (closing_kept.on_ownerShowHold _ _)
  case readSupply => exact asked _ _ _ _ (closing_kept.on_ownerReadSupply _)
  case transfer => exact asked _ _ _ _ (closing_kept.on_ownerTransfer _ _ _ _)
  case abortTransfer => exact asked _ _ _ _ (closing_kept.on_ownerAbort _ _)
  case readTransfer => exact asked _ _ _ _ (closing_kept.on_ownerReadTransfer _)
  case setTank => exact asked _ _ _ _ (closing_kept.on_ownerSetTank _ _ _ _)
  case readTank => exact asked _ _ _ _ (closing_kept.on_ownerReadTank _)
  case armDelivery => exact asked _ _ _ _ (closing_kept.on_ownerArmDelivery _)
  case meterReading => exact asked _ _ _ _ (closing_kept.on_ownerMeterReading _ _)
  case closeDelivery => exact asked _ _ _ _ (closing_kept.on_ownerCloseDelivery _ _)
  case cancelDelivery => exact asked _ _ _ _ (closing_kept.on_ownerCancel _)
  case readDelivery => exact asked _ _ _ _ (closing_kept.on_ownerReadDelivery _)
  case defineWatch => exact asked _ _ _ _ (closing_kept.on_ownerDefineWatch _ _)
  case readWatch => exact asked _ _ _ _ (closing_kept.on_ownerReadWatch _)
  case setTime rq isBroadcast time =>
    refine closingNext_iff.mpr ?_
    split
    · exact closing_broadcast _ h _ _ _ _ fun u k => closing_takeTime u k _
    · exact closing_request _ h _ _ _ _ fun _ _ u k => closing_takeTime u k _
  case setShowHold rq isBroadcast supply =>
    refine closingNext_iff.mpr ?_
    split
    · exact closing_broadcast _ h _ _ _ _ fun u k => closing_kept.on_showHoldAll true u k
    · exact closing_request _ h _ _ _ _ (closing_kept.on_ownerShowHold _ _)
  case unlistedKind rq kind =>
    refine closingNext_iff.mpr ?_
    split
    · exact h
    · exact closing_sup h (sup_badKind ..)
  case ping | takeHold | releaseHold | forceRelease | enrolStation | removeStation | setEnables | clearEnables |
      clearCauses | queryAttention | readLog | seekLog | setPort | restartPort | readPort | setSyncLimits |
      setFuelPrice | defineChannel | readChannel | defineAccount | removeAccount | setInterval | closePeriod |
      releasePeriod | readAccount | readSettlement | armWatches | disarmWatches =>
    exact asked _ _ _ _ fun _ _ _ k => closing_sup k (by simp)
  all_goals exact closingNext_iff.mpr h

/-! ## Frames (R151 to R153) -/

theorem closing_soundFrame (port : PortNo) (f : Frame) : ClosingNext p (soundFrame port f s) := by
  unfold soundFrame takeRequest
  (repeat' split)
  case isFalse.isFalse.isTrue.isFalse => exact closing_servePassed _ (closing_sup h (sup_modPort ..)) _
  case isFalse.isTrue => exact closingNext_iff.mpr (closing_takeBroadcast s h port f)
  all_goals exact closingNext_iff.mpr (closing_sup h (by simp))

theorem closing_assembled (port : PortNo) (got : List Byte) : ClosingNext p (assembled port got s) := by
  unfold assembled discardFrame
  split
  case h_4 => exact closing_soundFrame _ (closing_sup h (sup_setRx ..)) port _
  all_goals exact closingNext_iff.mpr (closing_sup h (by simp))

theorem closing_receiveChar (port : PortNo) (c : RxChar) : ClosingNext p (receiveChar port c s) := by
  unfold receiveChar frameChar discardFrame
  (repeat' split)
  case isFalse.isFalse => exact closing_assembled s h port _
  all_goals exact closingNext_iff.mpr (closing_sup h (by simp))

end

theorem closing_receiveChars (port : PortNo) (cs : List RxChar) (s : State) (h : Closing p s) :
    ClosingNext p (receiveChars port cs s) := by
  induction cs generalizing s with
  | nil => exact closingNext_iff.mpr h
  | cons c cs ih =>
    intro t run
    simp only [receiveChars] at run
    split at run
    · rename_i u taken
      exact ih u (closing_receiveChar s h port c u taken) t run
    · rename_i stops
      exact absurd run (stops t)

/-! ## The fill points (R90, R107) -/

theorem closing_fillPointClose (i : SourceNo) (s : State) (h : Closing p s) : Closing p (fillPointClose i s) := by
  unfold fillPointClose
  split
  · exact h
  · exact closing_kept.on_fillClosed i _ (closing_sup h (setFill_sup ..))

theorem closing_fillPointOpen (i : SourceNo) (s : State) (h : Closing p s) : Closing p (fillPointOpen i s) := by
  unfold fillPointOpen
  split
  · exact closing_kept.on_fillOpened i _ (closing_sup h (setFill_sup ..))
  · exact h

theorem closing_fillRestartCheck (i : SourceNo) (closed : Bool) (s : State) (h : Closing p s) :
    Closing p (fillRestartCheck i closed s) := by
  unfold fillRestartCheck
  split
  · exact closing_kept.on_compareFill i closed _ (closing_sup h (by simp))
  · exact h

/-! ## The commands -/

/-- The commands that R25's law takes one by one: the two starts, the contact that changes and the in-step report. -/
def standsAlone : Instr → Bool
  | .coldStart .. | .warmRestart .. | .auxChange .. | .inStepReport .. => true
  | _ => false

/-- R25: every other command keeps the law. -/
theorem closing_exec (c : Instr) (s : State) (h : Closing p s) (other : standsAlone c = false) :
    ClosingNext p (exec c s) := by
  by_cases request : exec c s = servePassed c s
  · rw [request]
    exact closing_servePassed s h c
  · have on (t : Nat) : Closing p (advanceTo t s) := closing_sup h (advanceTo_sup s t)
    cases c
    case coldStart | warmRestart | auxChange | inStepReport => cases other
    case frameReceived port t chars => exact closing_receiveChars port chars _ (on t)
    case characterGapTimeout port t => exact closingNext_iff.mpr (closing_sup (on t) (sup_characterGap ..))
    case lineQuiet port t => exact closingNext_iff.mpr (closing_sup (on t) (sup_lineQuiet ..))
    case replySent port t => exact closingNext_iff.mpr (closing_sup (on t) (sup_replySent ..))
    case holdLapsed => exact closingNext_iff.mpr (closing_sup h (sup_holdLapse s))
    case secondTick order t => exact closingNext_iff.mpr (closing_secondTick _ (on t) order)
    case settlement => exact closingNext_iff.mpr (closing_sup h (sup_settle s))
    case meterRisingEdge k t => exact closingNext_iff.mpr (closing_sup (on t) (sup_risingEdge ..))
    case meterFallingEdge k t => exact closingNext_iff.mpr (closing_sup (on t) (sup_fallingEdge ..))
    case sourceStale i => exact closingNext_iff.mpr (closing_kept.on_staleExpiry i s h)
    case senseCrossing n x t => exact closingNext_iff.mpr (closing_kept.on_senseCrossing n x _ (on t))
    case voltageLossTimeout n x => exact closingNext_iff.mpr (closing_kept.on_voltageLoss n x s h)
    case supplyTrip n => exact closingNext_iff.mpr (closing_kept.on_supplyTrip n s h)
    case confirmTimeout n x => exact closingNext_iff.mpr (closing_kept.on_confirmTimeout n x s h)
    case pulseEnd n x dir => exact closingNext_iff.mpr (closing_kept.on_pulseEnd n x dir s h)
    case channelGrant n => exact closingNext_iff.mpr (closing_kept.on_takeGrant n s h)
    case syncTimeout n => exact closingNext_iff.mpr (closing_kept.on_syncTimeout n s h)
    case tripReport n => exact closingNext_iff.mpr (closing_kept.on_takeTripReport n s h)
    case overlapExpiry n => exact closingNext_iff.mpr (closing_kept.on_overlapExpiry n s h)
    case deadTimeExpiry n => exact closingNext_iff.mpr (closing_kept.on_deadTimeExpiry n s h)
    case settleTimeExpiry n => exact closingNext_iff.mpr (closing_kept.on_settleTimeExpiry n s h)
    case unloadSurveyTimer d => exact closingNext_iff.mpr (closing_kept.on_surveyExpiry d s h)
    case finishTimerExpiry d => exact closingNext_iff.mpr (closing_kept.on_finishExpiry d s h)
    case armExpiry d => exact closingNext_iff.mpr (closing_kept.on_armExpiry d s h)
    case returnAttemptTimer n => exact closingNext_iff.mpr (closing_kept.on_returnTimer n s h)
    case returnWindowExpiry n => exact closingNext_iff.mpr (closing_kept.on_windowExpiry n s h)
    case fillPointClose i t => exact closingNext_iff.mpr (closing_fillPointClose i _ (on t))
    case fillPointOpen i t => exact closingNext_iff.mpr (closing_fillPointOpen i _ (on t))
    case fillPointRestartCheck i closed t => exact closingNext_iff.mpr (closing_fillRestartCheck i closed _ (on t))
    all_goals exact absurd rfl request

end

end Sys2Proof.Machine
end

section
/-! R25: the pulses, the two starts, a contact that changes, and the in-step report. -/

namespace Sys2Proof.Machine

/-! ## The pulses -/

section
variable (n : SupplyNo) (x : Input) (s : State)

theorem othersOpen_iff : othersOpen s n x = true ↔ ∀ y, y ≠ x → (s.input n y).aux = false := by
  have every (y : Input) : y ∈ allInputs := by cases y <;> decide
  simp only [othersOpen, List.all_eq_true, every, true_implies, Bool.or_eq_true, beq_iff_eq, Bool.not_eq_true',
    or_iff_not_imp_left, ne_eq]

theorem startPulse_close (restart : Bool) : startPulse n x .toClose restart s =
    setInput n x { s.input n x with
      closePulse := some (s.now / 1000 + 100),
      window := some { dir := .toClose, ends := s.now / 1000 + (s.supply n).timing.confirm, restart := restart } } s :=
  rfl

theorem startPulse_open (restart : Bool) : startPulse n x .toOpen restart s =
    setInput n x { s.input n x with
      openPulse := some (s.now / 1000 + 100),
      window := some { dir := .toOpen, ends := s.now / 1000 + (s.supply n).timing.confirm, restart := restart } } s :=
  rfl

theorem commandClose_refused (other : ∃ y, y ≠ x ∧ (s.input n y).aux = true) : commandClose n x false s = s := by
  have shut : ¬ othersOpen s n x = true := by
    rw [othersOpen_iff]
    obtain ⟨y, apart, closed⟩ := other
    exact fun opened => by simp [opened y apart] at closed
  simp [commandClose, shut]

theorem commandClose_issued {inStep : Bool} (h : inStep = true ∨ ∀ y, y ≠ x → (s.input n y).aux = false) :
    commandClose n x inStep s = startPulse n x .toClose false s := by
  rw [commandClose, if_pos]
  rwa [Bool.or_eq_true, othersOpen_iff]

theorem openOrigin_some {tr : Transfer} (origin : tr.origin = some x) :
    openOrigin n tr s = startPulse n x .toOpen false s := by
  rw [openOrigin, origin]

end

/-! ## The starts, and a contact that changes -/

section
variable {p : SupplyNo → Input → Option Nat}

/-- Where no close pulse is asserted but those found, none is asserted anew. -/
theorem closing_of_pulses {s : State} (h : ∀ n x, (s.input n x).closePulse = none ∨ (s.input n x).closePulse = p n x) :
    Closing p s := fun n x new changed => ((h n x).elim new changed).elim

theorem closing_coldStart (cause : StartCause) (t : Nat) (found : Found) (s : State) (h : Closing p s) :
    ClosingNext p (exec (.coldStart cause t found) s) := by
  refine closingNext_iff.mpr ?_
  split
  · refine closing_of_pulses fun n x => .inl ?_
    rw [State.input, cold_supply]
    cases x <;> rfl
  · exact h

theorem closing_warmSupply (s : State) (n : SupplyNo) (h : Closing p s) : Closing p (warmSupply s n) := by
  have derives : Closing p (derive n s) := closing_kept.on_derive n s h
  unfold warmSupply
  (repeat' split)
  · exact closing_kept.on_startPulse n _ true _ (closing_kept.on_derived n _ _ _ s h)
  · exact derives
  · exact derives
  · exact h

theorem closing_warmSurvey (s : State) (d : SlotNo) (h : Closing p s) : Closing p (warmSurvey s d) := by
  unfold warmSurvey
  (repeat' split)
  · exact closing_kept.on_survey d _ (closing_kept.on_startSurveyTimer d s h)
  · exact h
  · exact h

theorem closing_reannounce (s : State) (r : SettleRec) (h : Closing p s) : Closing p (reannounce s r) := by
  have keep (b : Bool) (f : State → State) (k : ∀ u, Closing p u → Closing p (f u)) (u : State) (hu : Closing p u) :
      Closing p (if b then f u else u) := by
    cases b
    · exact hu
    · exact k u hu
  unfold reannounce
  exact keep _ _ (fun u k => closing_announceDark u k _) _
    (keep _ _ (fun u k => closing_sup k (sup_announceMatrix u _)) _
      (keep _ _ (fun u k => closing_sup k (sup_announceBurn u _)) _
        (keep _ _ (fun u k => closing_sup k (sup_announceHire u _)) s h)))

theorem closing_warmSettlement (s : State) (h : Closing p s) : Closing p (warmSettlement s) := by
  have announced := kept_foldl reannounce closing_reannounce s.stl.records s h
  unfold warmSettlement warmBoundary
  split
  · exact closing_takeBoundary _ announced _
  · exact announced

/-- R38: a warm start releases every output before it derives a supply. -/
theorem closing_warmPanels (found : Found) (s : State) : Closing p (warmPanels found s) := by
  refine kept_foldl warmSurvey closing_warmSurvey _ _ (kept_foldl warmSupply closing_warmSupply _ _ ?_)
  exact closing_of_pulses fun n x => .inl (by rw [warmLines_input]; rfl)

theorem closing_warmRestart (cause : StartCause) (t elapsed : Nat) (found : Found) (s : State) (h : Closing p s) :
    ClosingNext p (exec (.warmRestart cause t elapsed found) s) := by
  refine closingNext_iff.mpr ?_
  split
  · exact closing_warmSettlement _ (closing_warmPanels found _)
  · exact h

/-- R24: the change of a contact asserts no pulse of its own; what is judged of it keeps the law. -/
theorem closing_auxChange (n : SupplyNo) (x : Input) (closed : Bool) (t : Nat) (s : State) :
    ClosingNext (fun m y => (s.input m y).closePulse) (exec (.auxChange n x closed t) s) := by
  have read : Closing (fun m y => (s.input m y).closePulse)
      (modInput n x (fun r => { r with aux := closed }) (advanceTo t s)) := by
    refine closing_of_pulses fun m y => .inr ?_
    rw [modInput, setInput_input]
    split
    · rename_i same
      obtain ⟨rfl, rfl⟩ := same
      rfl
    · rfl
  refine closingNext_iff.mpr ?_
  unfold auxChange
  dsimp only
  (repeat' split)
  · exact closing_found s
  · exact closing_kept.on_judgeChange n x closed _ _ read
  · exact read

end

/-! ## The in-step report (R49, R52) -/

section
variable {n : SupplyNo} {s : State} {tr : Transfer}

theorem leaveSync_input (m : SupplyNo) (x : Input) : (leaveSync n tr s).input m x = s.input m x := by
  have same : (leaveSync n tr s).sup = s.sup := sup_releaseChannel s tr.ticket
  simp only [State.input, State.supply, same]

theorem leaveSync_slot (slot : s.slot n = some tr) :
    (leaveSync n tr s).slot n = some { tr with syncChannel := none, syncTimer := none } := by
  have same : (releaseChannel tr.ticket s).slot n = s.slot n := by
    unfold releaseChannel grantChannel
    (repeat' split) <;> rfl
  simp [leaveSync, modSlot, same, slot]

/-- R52: the close command that carries the in-step report. -/
theorem enterParallelClose_eq (slot : s.slot n = some tr) : enterParallelClose n s =
    startPulse n tr.target .toClose false (setSlot n (some { tr with phase := .parallelClose }) s) := by
  rw [enterParallelClose, slot, modSlot_eq n s _ slot]
  exact commandClose_issued _ _ _ (.inl rfl)

theorem inStep_cases (k : SyncNo) (s : State) : inStep k s = s ∨ ∃ n tr, (s.sync k).state = .inStep ∧
    (s.sync k).supply = some n ∧ (s.sync k).ticket = some tr.ticket ∧ inPhase s n .sync = some tr ∧
    inStep k s = takeInStep n tr s := by
  unfold inStep
  split
  · rename_i n inStep supply
    split
    · rename_i tr sync
      split
      · rename_i ticket
        exact .inr ⟨n, tr, inStep, supply, beq_iff_eq.mp ticket, sync, rfl⟩
      · exact .inl rfl
    · exact .inl rfl
  · exact .inl rfl

theorem startPulse_slot (x : Input) (dir : Dir) (restart : Bool) (m : SupplyNo) :
    (startPulse n x dir restart s).slot m = s.slot m := by
  cases dir <;> rfl

theorem startPulse_closePulse (x : Input) (restart : Bool) (m : SupplyNo) (y : Input) (apart : ¬ (n = m ∧ x = y)) :
    ((startPulse n x .toClose restart s).input m y).closePulse = (s.input m y).closePulse := by
  rw [startPulse_close, setInput_input, if_neg apart]

end

/-- R25, R49: where a close pulse stands anew after an in-step report with another input closed, the report has taken
the transfer of that input from SYNC to PARALLEL_CLOSE. -/
theorem inStep_pulse {k : SyncNo} {s : State} {n : SupplyNo} {x : Input}
    (new : ((inStep k s).input n x).closePulse ≠ none)
    (changed : ((inStep k s).input n x).closePulse ≠ (s.input n x).closePulse) :
    (∀ y, y ≠ x → ((inStep k s).input n y).aux = false) ∨
    ∃ tr u : Transfer, (s.sync k).state = .inStep ∧ (s.sync k).supply = some n ∧ (s.sync k).ticket = some tr.ticket ∧
      flying s n tr ∧ tr.phase = .sync ∧ tr.target = x ∧ flying (inStep k s) n u ∧ u.ticket = tr.ticket ∧
      u.phase = .parallelClose ∧ u.target = x := by
  rcases inStep_cases k s with idle | ⟨m, tr, state, supply, ticket, sync, taken⟩
  · exact absurd (by rw [idle]) changed
  · obtain ⟨⟨slot, unended⟩, phase⟩ := (inPhase_eq_some s m .sync tr).mp sync
    have left : Closing (fun m y => (s.input m y).closePulse) (leaveSync m tr s) :=
      closing_kept.on_leaveSync m tr s (closing_found s)
    by_cases sound : targetRecheck (leaveSync m tr s) m tr = true
    · have enters : inStep k s = startPulse m tr.target .toClose false (setSlot m (some
          { tr with syncChannel := none, syncTimer := none, phase := .parallelClose }) (leaveSync m tr s)) := by
        rw [taken, takeInStep, if_pos sound, enterParallelClose_eq (leaveSync_slot slot)]
      by_cases own : m = n ∧ tr.target = x
      · obtain ⟨rfl, rfl⟩ := own
        have flies : flying (inStep k s) m
            { tr with syncChannel := none, syncTimer := none, phase := .parallelClose } := by
          refine ⟨?_, unended⟩
          rw [enters, startPulse_slot, setSlot_slot, if_pos rfl]
        exact .inr ⟨tr, _, state, supply, ticket, ⟨slot, unended⟩, phase, rfl, flies, rfl, rfl, rfl⟩
      · refine absurd ?_ changed
        rw [enters, startPulse_closePulse _ _ _ _ own]
        exact congrArg InputRec.closePulse (leaveSync_input (n := m) (tr := tr) n x)
    · have ends : inStep k s = endTransfer m .noTarget (leaveSync m tr s) := by
        rw [taken, takeInStep, if_neg sound]
      rw [ends] at new changed ⊢
      exact .inl (closing_kept.on_endTransfer m .noTarget _ left n x new changed)

/-- Settles O38: every command but four keeps R25's law, and so do the starts and a contact that changes; an in-step
report asserts the one pulse that the law excepts. -/
theorem pulsesKeepTheClosingLaw : Obligations.PulsesKeepTheClosingLaw := by
  refine ⟨fun c s t n x run new changed => ?law, fun s n x => ⟨commandClose_refused n x s, fun inStep h => ?issued,
    fun tr origin => ?opens⟩, fun s n x due => ⟨fun asserted => ?closeEnds, fun asserted => ?openEnds⟩⟩
  case law =>
    have found := closing_found s
    by_cases other : standsAlone c = false
    · exact .inl (closing_exec c s found other t run n x new changed)
    · cases c
      case coldStart cause now lines => exact .inl (closing_coldStart cause now lines s found t run n x new changed)
      case warmRestart cause now elapsed lines =>
        exact .inl (closing_warmRestart cause now elapsed lines s found t run n x new changed)
      case auxChange m y closed now => exact .inl (closing_auxChange m y closed now s t run n x new changed)
      case inStepReport k =>
        obtain rfl : inStep k s = t := Host.Outcome.next.inj run
        exact (inStep_pulse new changed).imp_right fun ⟨tr, u, h⟩ => ⟨k, tr, u, rfl, h⟩
      all_goals exact absurd rfl other
  case issued => rw [commandClose_issued n x s h, startPulse_close]
  case opens => rw [openOrigin_some n x s origin, startPulse_open]
  case closeEnds =>
    refine congrArg Host.Outcome.next ?_
    simp only [pulseEnd, asserted]
    rfl
  case openEnds =>
    refine congrArg Host.Outcome.next ?_
    simp only [pulseEnd, asserted]
    rfl

end Sys2Proof.Machine
end

section
/-! What the work of LNK, STN, LOG, MTR and STL leaves alone: the records of XFR, but for the mark of a
removed station. -/

namespace Sys2Proof.Machine

section
variable (s : State)

/-! ## The operations -/

@[simp] theorem xfr_modPort (p : PortNo) (f : Port → Port) : (modPort p f s).xfr = s.xfr := rfl
@[simp] theorem xfr_modStation (n : StationNo) (f : Station → Station) : (modStation n f s).xfr = s.xfr := rfl
@[simp] theorem xfr_modChan (k : ChannelNo) (f : Chan → Chan) : (modChan k f s).xfr = s.xfr := rfl
@[simp] theorem xfr_advanceToMs (due : Nat) : (advanceToMs due s).xfr = s.xfr := rfl
@[simp] theorem xfr_touch (n : StationNo) : (touch n s).xfr = s.xfr := rfl
@[simp] theorem xfr_setRx (p : PortNo) (rx : Rx) : (setRx p rx s).xfr = s.xfr := rfl
@[simp] theorem xfr_refuse (e : Status) : (refuse e s).state.xfr = s.xfr := rfl
@[simp] theorem xfr_fileInto (serial : Nat) (f : SettleRec → SettleRec) : (fileInto serial f s).xfr = s.xfr := rfl

@[simp] theorem xfr_setHeader (k : Bank) (h : BankHeader) : (setHeader k h s).xfr = s.xfr := by cases k <;> rfl

@[simp] theorem xfr_setPortFlag (p : PortNo) (f : PortFlag) : (setPortFlag p f s).xfr = s.xfr := by
  unfold setPortFlag
  split <;> simp

/-! ## LNK -/

@[simp] theorem xfr_characterGap (p : PortNo) : (characterGap p s).xfr = s.xfr := by
  unfold characterGap discardFrame
  (repeat' split) <;> simp

@[simp] theorem xfr_lineQuiet (p : PortNo) : (lineQuiet p s).xfr = s.xfr := by
  unfold lineQuiet
  split <;> simp

@[simp] theorem xfr_replySent (p : PortNo) : (replySent p s).xfr = s.xfr := by
  have waiting (waits : Bool) (u : State) : (takeWaiting p waits u).xfr = u.xfr := by
    unfold takeWaiting
    split <;> simp
  have named (q : Option PortNo) (u : State) : (takeNamed q u).xfr = u.xfr := by
    unfold takeNamed restartNamed
    (repeat' split) <;> simp
  simp only [replySent]
  split <;> simp [named, waiting]

@[simp] theorem xfr_badKind (rq : Request) (kind : Nat) : (badKind rq kind s).xfr = s.xfr := by
  unfold badKind
  dsimp only
  (repeat' split) <;> simp

@[simp] theorem xfr_huntChar (p : PortNo) (c : RxChar) : (huntChar p c s).xfr = s.xfr := by
  unfold huntChar
  split <;> simp

/-! ## The map hold -/

@[simp] theorem xfr_holdLapse : (holdLapse s).xfr = s.xfr := by
  unfold holdLapse
  dsimp only
  (repeat' split) <;> simp

@[simp] theorem xfr_freeHoldOf (m : StationNo) : (freeHoldOf m s).xfr = s.xfr := by
  unfold freeHoldOf
  split <;> simp

/-! ## MTR -/

@[simp] theorem xfr_risingEdge (k : ChannelNo) : (risingEdge k s).xfr = s.xfr := by
  unfold risingEdge
  split <;> simp

@[simp] theorem xfr_fallingEdge (k : ChannelNo) : (fallingEdge k s).xfr = s.xfr := by
  unfold fallingEdge fallDefined countPulse
  dsimp only
  (repeat' split) <;> simp

/-! ## STL -/

@[simp] theorem xfr_announceHire (serial : Nat) : (announceHire serial s).xfr = s.xfr := by
  simp [announceHire, closeHire]

@[simp] theorem xfr_announceMatrix (serial : Nat) : (announceMatrix serial s).xfr = s.xfr := by
  simp [announceMatrix, closeMatrix]

@[simp] theorem xfr_announceDark (serial : Nat) : (announceDark serial s).xfr = s.xfr := rfl

theorem xfr_foldl {α : Type} (f : State → α → State) (h : ∀ s a, (f s a).xfr = s.xfr) (l : List α) :
    (l.foldl f s).xfr = s.xfr := by
  induction l generalizing s with
  | nil => rfl
  | cons a l ih => rw [List.foldl_cons, ih, h]

@[simp] theorem xfr_announceBurn (serial : Nat) : (announceBurn serial s).xfr = s.xfr := by
  have dry (u : State) (i : SourceNo) : (raiseDry s u i).xfr = u.xfr := by
    unfold raiseDry
    split <;> simp
  simp [announceBurn, closeBurn, xfr_foldl _ _ dry]

@[simp] theorem xfr_settle : (settle s).xfr = s.xfr := by
  unfold settle takeClose settleRecord
  (repeat' split) <;> simp

@[simp] theorem xfr_releaseBank (k : Bank) : (releaseBank k s).xfr = s.xfr := by
  simp [releaseBank, emptyBank]

/-! ## Requests, each by its owner's answer -/

variable (n : StationNo) (st : Station)

@[simp] theorem xfr_ownerTakeHold : (ownerTakeHold n st s).state.xfr = s.xfr := by
  unfold ownerTakeHold
  (repeat' split) <;> simp

@[simp] theorem xfr_ownerReleaseHold : (ownerReleaseHold n st s).state.xfr = s.xfr := by
  unfold ownerReleaseHold
  split <;> simp

@[simp] theorem xfr_ownerForceRelease : (ownerForceRelease n st s).state.xfr = s.xfr := by
  unfold ownerForceRelease
  split <;> simp

@[simp] theorem xfr_ownerEnrol (port address role : Nat) (supply : Option Nat) :
    (ownerEnrol port address role supply n st s).state.xfr = s.xfr := by
  unfold ownerEnrol
  (repeat' split) <;> simp

@[simp] theorem xfr_ownerEnables (mask : BitVec 16) (value : Bool) :
    (ownerEnables mask value n st s).state.xfr = s.xfr := rfl

@[simp] theorem xfr_ownerClearCauses (mask : BitVec 16) : (ownerClearCauses mask n st s).state.xfr = s.xfr := rfl

@[simp] theorem xfr_ownerQuery : (ownerQuery n st s).state.xfr = s.xfr := by
  unfold ownerQuery
  split <;> simp

@[simp] theorem xfr_ownerReadLog (count : Nat) : (ownerReadLog count n st s).state.xfr = s.xfr := by
  unfold ownerReadLog
  split <;> simp

@[simp] theorem xfr_ownerSeekLog (position : Nat) : (ownerSeekLog position n st s).state.xfr = s.xfr := by
  unfold ownerSeekLog
  split <;> simp

@[simp] theorem xfr_ownerSetPort (port : Nat) (fields : Option PortSettings) :
    (ownerSetPort port fields n st s).state.xfr = s.xfr := by
  unfold ownerSetPort
  (repeat' split) <;> simp

@[simp] theorem xfr_ownerRestartPort (arrived : PortNo) (port : Nat) :
    (ownerRestartPort arrived port n st s).state.xfr = s.xfr := by
  unfold ownerRestartPort
  split <;> simp

@[simp] theorem xfr_ownerReadPort (port : Nat) : (ownerReadPort port n st s).state.xfr = s.xfr := by
  unfold ownerReadPort
  split <;> simp

@[simp] theorem xfr_ownerSetLimits (slip phase volts timeout : Option Nat) :
    (ownerSetLimits slip phase volts timeout n st s).state.xfr = s.xfr := by
  unfold ownerSetLimits resetRuns
  dsimp only
  (repeat' split) <;> simp

@[simp] theorem xfr_ownerSetPrice (price : Nat) : (ownerSetPrice price n st s).state.xfr = s.xfr := by
  unfold ownerSetPrice
  split <;> simp

@[simp] theorem xfr_ownerArm (mask : Word) (f : Watch → Watch) : (ownerArm mask f n st s).state.xfr = s.xfr := by
  simp [ownerArm, eachWatch]

@[simp] theorem xfr_ownerDefineChannel (channel : Nat) (supply account : Option Nat) (wh : Nat) (width : Option Nat) :
    (ownerDefineChannel channel supply account wh width n st s).state.xfr = s.xfr := by
  unfold ownerDefineChannel channelWritten
  (repeat' split) <;> simp

@[simp] theorem xfr_ownerReadChannel (channel : Nat) : (ownerReadChannel channel n st s).state.xfr = s.xfr := by
  unfold ownerReadChannel
  split <;> simp

@[simp] theorem xfr_ownerSetInterval (minutes : Nat) : (ownerSetInterval minutes n st s).state.xfr = s.xfr := by
  unfold ownerSetInterval
  dsimp only
  split <;> simp

@[simp] theorem xfr_ownerDefineAccount (account present reference : Nat) :
    (ownerDefineAccount account present reference n st s).state.xfr = s.xfr := by
  unfold ownerDefineAccount
  split <;> simp

@[simp] theorem xfr_ownerRemoveAccount (account : Nat) : (ownerRemoveAccount account n st s).state.xfr = s.xfr := by
  unfold ownerRemoveAccount
  (repeat' split) <;> simp

@[simp] theorem xfr_ownerClosePeriod : (ownerClosePeriod n st s).state.xfr = s.xfr := by
  unfold ownerClosePeriod
  split <;> simp [setClosePending]

@[simp] theorem xfr_ownerReleasePeriod : (ownerReleasePeriod n st s).state.xfr = s.xfr := by
  unfold ownerReleasePeriod
  split <;> simp

@[simp] theorem xfr_ownerReadAccount (account bank : Nat) :
    (ownerReadAccount account bank n st s).state.xfr = s.xfr := by
  unfold ownerReadAccount
  (repeat' split) <;> simp

@[simp] theorem xfr_ownerReadSettlement : (ownerReadSettlement n st s).state.xfr = s.xfr := rfl

end

end Sys2Proof.Machine
end

section
/-! Every command but the two starts, the contact that changes and the in-step report keeps every law that the shared
operations keep (Laws/Kept.lean). -/

namespace Sys2Proof.Machine

/-- A law in every state that an outcome goes on with. -/
def OnNext (P : State → Prop) (o : Host.Outcome State Fault Refusal) : Prop := ∀ t, o = .next t → P t

theorem onNext_iff {P : State → Prop} {s : State} : OnNext P (.next s) ↔ P s :=
  ⟨fun h => h s rfl, fun h t e => by cases e; exact h⟩

section
variable {P : State → Prop} (k : Quiet P)
include k

/-- A change that leaves XFR's records and the lines and pulses of every input alone. -/
theorem Quiet.on_sameInputs {s t : State} (h : P s) (xfr : t.xfr = s.xfr)
    (input : ∀ n x, t.input n x = s.input n x) : P t :=
  k.panel s t xfr (fun n x => by simp [input]) h

/-! ## The timebase and intervals -/

theorem Quiet.on_announceDark (serial : Nat) (s : State) (h : P s) : P (announceDark serial s) :=
  k.on_sameInputs h rfl fun n x => by
    rw [State.input, State.supply, announceDark, sup_fileInto]
    simp only [closeDark, look_tab]
    rfl

theorem Quiet.on_takeBoundary (endTime : Nat) (s : State) (h : P s) : P (takeBoundary endTime s) :=
  k.on_announceDark _ _ (k.on_other h (by simp) (by simp))

theorem Quiet.on_tickOwners (order : TickOrder) (s : State) (h : P s) : P (tickOwners order s) :=
  k.on_sameInputs h (by rw [tickOwners_frame]) fun n x => by
    rw [State.input, tickOwners_supply, tickSupplyRec]
    split <;> rfl

theorem Quiet.on_tickBlocks (order : TickOrder) (s : State) (h : P s) : P (tickBlocks order s) := by
  have ticked : P (tickOwners order (tickClock s)) := k.on_tickOwners order _ (k.on_other h rfl rfl)
  unfold tickBlocks
  dsimp only
  split
  · exact k.on_takeBoundary _ _ ticked
  · exact ticked

theorem Quiet.on_takeTime (time : Nat) (s : State) (h : P s) : P (takeTime time s) := by
  unfold takeTime
  dsimp only
  refine k.on_logAppend _ _ _ _ _ ?_
  split
  · exact k.on_takeBoundary _ _ (k.on_other h rfl rfl)
  · exact k.on_other h rfl rfl

end

/-! ## Ports, and the removal of a station (R158) -/

/-- R158: the mark of a removed station changes neither a ticket nor a result. -/
theorem markGone_keeps (m : StationNo) (t : Transfer) :
    (markGone m t).ticket = t.ticket ∧ (markGone m t).result = t.result := by
  unfold markGone
  split <;> exact ⟨rfl, rfl⟩

/-- Slots changed one by one, each as it stood. -/
theorem foldl_modSlot (f : Transfer → Transfer) (l : List SupplyNo) (nodup : l.Nodup) (s : State) :
    l.foldl (fun u n => modSlot n f u) s =
      { s with xfr := { s.xfr with slots := tab fun n => if n ∈ l then (s.slot n).map f else s.slot n } } := by
  induction l generalizing s with
  | nil =>
    have same : tab (fun n => s.slot n) = s.xfr.slots := tab_look s.xfr.slots
    simp [same]
  | cons a l ih =>
    obtain ⟨fresh, rest⟩ := List.nodup_cons.mp nodup
    rw [List.foldl_cons, ih rest]
    have slots (n : SupplyNo) : (if n ∈ l then ((modSlot a f s).slot n).map f else (modSlot a f s).slot n) =
        if n ∈ a :: l then (s.slot n).map f else s.slot n := by
      by_cases e : a = n
      · subst e
        simp [modSlot, fresh]
      · simp [modSlot, e, Ne.symm e]
    simp only [slots]
    rfl

theorem markGoneAll_eq (m : StationNo) (s : State) :
    markGoneAll m s = (indices 12).foldl (fun u n => modSlot n (markGone m) u) s := by
  rw [foldl_modSlot _ (indices 12) (List.nodup_finRange 12)]
  simp [markGoneAll]

section
variable {P : State → Prop} (k : Quiet P)
include k

theorem Quiet.on_modPort (p : PortNo) (f : Port → Port) (s : State) (h : P s) : P (modPort p f s) :=
  k.on_other h rfl rfl
theorem Quiet.on_setRx (p : PortNo) (rx : Rx) (s : State) (h : P s) : P (setRx p rx s) := k.on_other h rfl rfl
theorem Quiet.on_setStation (n : StationNo) (r : Option Station) (s : State) (h : P s) : P (setStation n r s) :=
  k.on_other h rfl rfl

theorem Quiet.on_ownerRemove (station : Nat) (n : StationNo) (st : Station) (s : State) (h : P s) :
    P (ownerRemove station n st s).state := by
  have marked (m : StationNo) (u : State) (hu : P u) : P (markGoneAll m u) := by
    rw [markGoneAll_eq]
    exact kept_foldl _ (fun v a hv => k.on_modSlot a _ v hv fun t =>
      ⟨(markGone_keeps m t).1, (markGone_keeps m t).2 ▸ id⟩) _ u hu
  unfold ownerRemove
  (repeat' split)
  case h_2.isFalse =>
    exact k.on_other (marked _ _ (k.on_setStation _ none s h)) (sup_freeHoldOf ..) (xfr_freeHoldOf ..)
  all_goals exact h

end

/-! ## Requests and broadcasts -/

section
variable {P : State → Prop} (k : Quiet P) {s : State} (h : P s)
include k h

theorem Quiet.on_request (rq : Request) (kind : Kind) (scope : Station → State → Bool)
    (owner : StationNo → Station → State → Done) (keeps : ∀ n st u, P u → P (owner n st u).state) :
    P (request rq kind scope owner s) := by
  have owned (n : StationNo) (st : Station) (u : State) (sup : u.sup = s.sup) (xfr : u.xfr = s.xfr) :
      P (owner n st u).state := keeps n st u (k.on_other h sup xfr)
  unfold request judged
  dsimp only
  (repeat' split)
  case h_2 => refine k.on_other (owned _ _ _ ?_ ?_) (answer_sup ..) (answer_xfr ..) <;> rfl
  all_goals exact k.on_other h (by simp) (by simp)

theorem Quiet.on_broadcast (rq : Request) (kind : Kind) (fits : Bool) (effect : State → State)
    (keeps : ∀ u, P u → P (effect u)) : P (broadcast rq kind fits effect s) := by
  have taken (u : State) (sup : u.sup = s.sup) (xfr : u.xfr = s.xfr) : P (effect u) :=
    keeps u (k.on_other h sup xfr)
  unfold broadcast
  dsimp only
  (repeat' split)
  case h_1.isTrue => refine taken _ ?_ ?_ <;> rfl
  all_goals exact k.on_other h (by simp) (by simp)

/-- R153: the broadcast that a frame carries. -/
theorem Quiet.on_takeBroadcast (port : PortNo) (f : Frame) : P (takeBroadcast port f s) := by
  unfold takeBroadcast
  dsimp only
  split
  · exact k.on_broadcast h _ _ _ _ fun u hu => k.on_takeTime _ u hu
  · exact k.on_broadcast h _ _ _ _ fun u hu => k.on_showHoldAll true u hu
  · exact k.on_broadcast h _ _ _ _ fun _ hu => hu

end

/-! ## The requests of chapter 12 -/

section
variable {P : State → Prop} (k : Kept P) (s : State) (h : P s)
include k h

theorem Kept.on_servePassed (c : Instr) : OnNext P (servePassed c s) := by
  have asked (rq : Request) (kind : Kind) (scope : Station → State → Bool)
      (owner : StationNo → Station → State → Done) (keeps : ∀ n st u, P u → P (owner n st u).state) :
      OnNext P (.next (request rq kind scope owner s)) :=
    onNext_iff.mpr (k.on_request h rq kind scope owner keeps)
  cases c
  case hireSource => exact asked _ _ _ _ (k.on_ownerHire _ _)
  case offHireSource => exact asked _ _ _ _ (k.on_ownerOffHire _)
  case sourceReport => exact asked _ _ _ _ (k.on_ownerReport _ _ _ _ _ _ _)
  case readSource => exact asked _ _ _ _ (k.on_ownerReadSource _)
  case defineSupply => exact asked _ _ _ _ (k.on_ownerDefineSupply _ _)
  case clearFault => exact asked _ _ _ _ (k.on_ownerClearFault _)
  case clearShowHold => exact asked _ _ _ _ (k.on_ownerShowHold _ _)
  case readSupply => exact asked _ _ _ _ (k.on_ownerReadSupply _)
  case transfer => exact asked _ _ _ _ (k.on_ownerTransfer _ _ _ _)
  case abortTransfer => exact asked _ _ _ _ (k.on_ownerAbort _ _)
  case readTransfer => exact asked _ _ _ _ (k.on_ownerReadTransfer _)
  case setTank => exact asked _ _ _ _ (k.on_ownerSetTank _ _ _ _)
  case readTank => exact asked _ _ _ _ (k.on_ownerReadTank _)
  case armDelivery => exact asked _ _ _ _ (k.on_ownerArmDelivery _)
  case meterReading => exact asked _ _ _ _ (k.on_ownerMeterReading _ _)
  case closeDelivery => exact asked _ _ _ _ (k.on_ownerCloseDelivery _ _)
  case cancelDelivery => exact asked _ _ _ _ (k.on_ownerCancel _)
  case readDelivery => exact asked _ _ _ _ (k.on_ownerReadDelivery _)
  case defineWatch => exact asked _ _ _ _ (k.on_ownerDefineWatch _ _)
  case readWatch => exact asked _ _ _ _ (k.on_ownerReadWatch _)
  case removeStation => exact asked _ _ _ _ (k.on_ownerRemove _)
  case setTime rq isBroadcast time =>
    refine onNext_iff.mpr ?_
    split
    · exact k.on_broadcast h _ _ _ _ fun u hu => k.on_takeTime _ u hu
    · exact k.on_request h _ _ _ _ fun _ _ u hu => k.on_takeTime _ u hu
  case setShowHold rq isBroadcast supply =>
    refine onNext_iff.mpr ?_
    split
    · exact k.on_broadcast h _ _ _ _ fun u hu => k.on_showHoldAll true u hu
    · exact k.on_request h _ _ _ _ (k.on_ownerShowHold _ _)
  case unlistedKind rq kind =>
    refine onNext_iff.mpr ?_
    split
    · exact h
    · exact k.on_other h (by simp) (by simp)
  case ping | takeHold | releaseHold | forceRelease | enrolStation | setEnables | clearEnables | clearCauses |
      queryAttention | readLog | seekLog | setPort | restartPort | readPort | setSyncLimits | setFuelPrice |
      defineChannel | readChannel | defineAccount | removeAccount | setInterval | closePeriod | releasePeriod |
      readAccount | readSettlement | armWatches | disarmWatches =>
    exact asked _ _ _ _ fun _ _ _ hu => k.on_other hu (by simp) (by simp)
  all_goals exact onNext_iff.mpr h

/-! ## Frames (R151 to R153) -/

theorem Kept.on_soundFrame (port : PortNo) (f : Frame) : OnNext P (soundFrame port f s) := by
  unfold soundFrame takeRequest
  (repeat' split)
  case isFalse.isFalse.isTrue.isFalse => exact k.on_servePassed _ (k.on_modPort port _ s h) _
  case isFalse.isTrue => exact onNext_iff.mpr (k.on_takeBroadcast h port f)
  all_goals exact onNext_iff.mpr (k.on_other h (by simp) (by simp))

theorem Kept.on_receiveChar (port : PortNo) (c : RxChar) : OnNext P (receiveChar port c s) := by
  unfold receiveChar frameChar assembled discardFrame
  (repeat' split)
  case h_4 => exact k.on_soundFrame _ (k.on_setRx port .hunting s h) port _
  all_goals exact onNext_iff.mpr (k.on_other h (by simp) (by simp))

end

section
variable {P : State → Prop} (k : Kept P)
include k

theorem Kept.on_receiveChars (port : PortNo) (cs : List RxChar) (s : State) (h : P s) :
    OnNext P (receiveChars port cs s) := by
  induction cs generalizing s with
  | nil => exact onNext_iff.mpr h
  | cons c cs ih =>
    intro t run
    simp only [receiveChars] at run
    split at run
    · rename_i u taken
      exact ih u (k.on_receiveChar s h port c u taken) t run
    · rename_i stops
      exact absurd run (stops t)

/-! ## The fill points (R90, R107) -/

theorem Kept.on_fillPointClose (i : SourceNo) (s : State) (h : P s) : P (fillPointClose i s) := by
  unfold fillPointClose
  split
  · exact h
  · exact k.on_fillClosed i _ (k.on_setFill _ _ _ h)

theorem Kept.on_fillPointOpen (i : SourceNo) (s : State) (h : P s) : P (fillPointOpen i s) := by
  unfold fillPointOpen
  split
  · exact k.on_fillOpened i _ (k.on_setFill _ _ _ h)
  · exact h

theorem Kept.on_fillRestartCheck (i : SourceNo) (closed : Bool) (s : State) (h : P s) :
    P (fillRestartCheck i closed s) := by
  unfold fillRestartCheck
  split
  · exact k.on_compareFill i closed _ (k.on_other h (by simp) (by simp))
  · exact h

/-! ## The commands -/

/-- Every command but those that stand alone keeps the law. -/
theorem Kept.on_exec (c : Instr) (s : State) (h : P s) (other : standsAlone c = false) : OnNext P (exec c s) := by
  by_cases request : exec c s = servePassed c s
  · rw [request]
    exact k.on_servePassed s h c
  · have on (t : Nat) : P (advanceTo t s) := k.on_advanceTo t s h
    cases c
    case coldStart | warmRestart | auxChange | inStepReport => cases other
    case frameReceived port t chars => exact k.on_receiveChars port chars _ (on t)
    case characterGapTimeout port t => exact onNext_iff.mpr (k.on_other (on t) (by simp) (by simp))
    case lineQuiet port t => exact onNext_iff.mpr (k.on_other (on t) (by simp) (by simp))
    case replySent port t => exact onNext_iff.mpr (k.on_other (on t) (by simp) (by simp))
    case holdLapsed => exact onNext_iff.mpr (k.on_other h (by simp) (by simp))
    case secondTick order t =>
      refine onNext_iff.mpr ?_
      unfold secondTick
      split
      · exact k.on_tickBlocks order _ (k.on_sampleAll _ (on t))
      · exact k.on_sampleAll _ (k.on_tickBlocks order _ (on t))
    case settlement => exact onNext_iff.mpr (k.on_other h (by simp) (by simp))
    case meterRisingEdge c t => exact onNext_iff.mpr (k.on_other (on t) (by simp) (by simp))
    case meterFallingEdge c t => exact onNext_iff.mpr (k.on_other (on t) (by simp) (by simp))
    case sourceStale i => exact onNext_iff.mpr (k.on_staleExpiry i s h)
    case senseCrossing n x t => exact onNext_iff.mpr (k.on_senseCrossing n x _ (on t))
    case voltageLossTimeout n x => exact onNext_iff.mpr (k.on_voltageLoss n x s h)
    case supplyTrip n => exact onNext_iff.mpr (k.on_supplyTrip n s h)
    case confirmTimeout n x => exact onNext_iff.mpr (k.on_confirmTimeout n x s h)
    case pulseEnd n x dir => exact onNext_iff.mpr (k.on_pulseEnd n x dir s h)
    case channelGrant n => exact onNext_iff.mpr (k.on_takeGrant n s h)
    case syncTimeout n => exact onNext_iff.mpr (k.on_syncTimeout n s h)
    case tripReport n => exact onNext_iff.mpr (k.on_takeTripReport n s h)
    case overlapExpiry n => exact onNext_iff.mpr (k.on_overlapExpiry n s h)
    case deadTimeExpiry n => exact onNext_iff.mpr (k.on_deadTimeExpiry n s h)
    case settleTimeExpiry n => exact onNext_iff.mpr (k.on_settleTimeExpiry n s h)
    case unloadSurveyTimer d => exact onNext_iff.mpr (k.on_surveyExpiry d s h)
    case finishTimerExpiry d => exact onNext_iff.mpr (k.on_finishExpiry d s h)
    case armExpiry d => exact onNext_iff.mpr (k.on_armExpiry d s h)
    case returnAttemptTimer n => exact onNext_iff.mpr (k.on_returnTimer n s h)
    case returnWindowExpiry n => exact onNext_iff.mpr (k.on_windowExpiry n s h)
    case fillPointClose i t => exact onNext_iff.mpr (k.on_fillPointClose i _ (on t))
    case fillPointOpen i t => exact onNext_iff.mpr (k.on_fillPointOpen i _ (on t))
    case fillPointRestartCheck i closed t => exact onNext_iff.mpr (k.on_fillRestartCheck i closed _ (on t))
    all_goals exact absurd rfl request

end

end Sys2Proof.Machine
end

section
/-! Tickets (R40): what a draw makes of the counter, and the law of tickets through every command. -/

namespace Sys2Proof.Machine

/-! ## A draw -/

/-- R40: a draw moves the counter on to the first ticket that is free. -/
theorem drawTicket_places (s : State) (low : 1 ≤ s.xfr.counter) (high : s.xfr.counter ≤ 65535) :
    ∃ j, 1 ≤ j ∧ drawTicket s = setCounter (ticketPlaces s.xfr.counter j) s ∧
      (∀ n t, flying s n t → t.ticket ≠ ticketPlaces s.xfr.counter j) ∧
      ∀ i, 1 ≤ i → i < j → ∃ n t, flying s n t ∧ t.ticket = ticketPlaces s.xfr.counter i := by
  obtain ⟨j, first, -, next, taken, free⟩ := nextTicket_fresh s s.xfr.counter low high
  refine ⟨j, first, congrArg (setCounter · s) next, fun n t flies same => ?_, fun i above below =>
    (ticketInFlight_iff s _).mp (taken i above below)⟩
  exact Bool.eq_false_iff.mp free ((ticketInFlight_iff s _).mpr ⟨n, t, flies, same⟩)

theorem ticketPlaces_one {k : Nat} (low : 1 ≤ k) (high : k ≤ 65535) :
    ticketPlaces k 1 = if k = 65535 then 1 else k + 1 := by
  unfold ticketPlaces
  split <;> omega

/-! ## The commands that stand alone -/

/-- R40: a cold start leaves no transfer in flight, and the counter at 1. -/
theorem tickets_cold (now : Nat) (f : Found) (queue : List Instr) : TicketLaw (State.cold now f queue) := by
  have idle (n : SupplyNo) (t : Transfer) : ¬ flying (State.cold now f queue) n t := fun flies => by
    rw [flying, cold_slot] at flies
    cases flies.1
  exact ⟨le_rfl, (by decide : 1 ≤ 65535), fun n t flies => (idle n t flies).elim,
    fun n _ t _ flies => (idle n t flies).elim⟩

section
variable {s : State} (h : TicketLaw s)
include h

/-- A change that leaves the records of XFR alone. -/
theorem tickets_of_xfr {t : State} (same : t.xfr = s.xfr) : TicketLaw t :=
  (drawn_xfr same (drawn_nil s h)).toTicketLaw

theorem tickets_startPulse (n : SupplyNo) (x : Input) (dir : Dir) (restart : Bool) :
    TicketLaw (startPulse n x dir restart s) := by
  cases dir <;> exact tickets_of_xfr h rfl

/-- R65: the transfer that a warm start interrupts ends. -/
theorem tickets_interrupt (n : SupplyNo) : TicketLaw (interrupt s n) := by
  unfold interrupt
  split
  · exact tickets_kept.on_tellOriginator _ _ _ _ (tickets_kept.on_reportEnd _ _ _ _
      (tickets_kept.on_modSlot _ _ s h fun _ => ⟨rfl, nofun⟩))
  · exact h

theorem tickets_warmSupply (n : SupplyNo) : TicketLaw (warmSupply s n) := by
  unfold warmSupply
  (repeat' split)
  · exact tickets_startPulse (tickets_kept.on_derived _ _ _ _ s h) _ _ _ _
  · exact tickets_kept.on_derive n s h
  · exact tickets_kept.on_derive n s h
  · exact h

theorem tickets_warmSurvey (d : SlotNo) : TicketLaw (warmSurvey s d) := by
  unfold warmSurvey
  (repeat' split)
  · exact tickets_kept.on_survey d _ (tickets_kept.on_startSurveyTimer d s h)
  · exact h
  · exact h

theorem tickets_reannounce (r : SettleRec) : TicketLaw (reannounce s r) := by
  refine tickets_of_xfr h ?_
  unfold reannounce
  dsimp only
  (repeat' split) <;> simp

theorem tickets_warmSettlement : TicketLaw (warmSettlement s) := by
  have announced := kept_foldl (P := TicketLaw) reannounce (fun _ r k => tickets_reannounce k r) s.stl.records s h
  unfold warmSettlement warmBoundary
  split
  · exact tickets_kept.on_takeBoundary _ _ announced
  · exact announced

theorem tickets_warmPanels (found : Found) : TicketLaw (warmPanels found s) := by
  have interrupted := kept_foldl (P := TicketLaw) interrupt (fun _ n k => tickets_interrupt k n) (indices 12) s h
  have lines : TicketLaw (warmLines found ((indices 12).foldl interrupt s)) :=
    tickets_of_xfr interrupted (by rw [warmLines_frame])
  exact kept_foldl (P := TicketLaw) warmSurvey (fun _ d k => tickets_warmSurvey k d) _ _
    (kept_foldl (P := TicketLaw) warmSupply (fun _ n k => tickets_warmSupply k n) _ _ lines)

theorem tickets_warmRestart (elapsed : Nat) (found : Found) : TicketLaw (warmRestart elapsed found s) := by
  unfold warmRestart
  refine tickets_warmSettlement (tickets_warmPanels (tickets_of_xfr h ?_) found)
  have cleared (u : State) : (warmRecords found u).xfr = u.xfr := by rw [warmRecords_frame]
  rw [cleared, logAppend_xfr]
  simp only [warmStations, setHold_xfr, eachStation, outage, setClock_xfr]

theorem tickets_auxChange (n : SupplyNo) (x : Input) (closed : Bool) : TicketLaw (auxChange n x closed s) := by
  unfold auxChange
  dsimp only
  (repeat' split)
  · exact h
  · exact tickets_kept.on_judgeChange n x closed _ _ (tickets_of_xfr h rfl)
  · exact tickets_of_xfr h rfl

/-- R49, R52: an in-step report ends the transfer, or takes it to PARALLEL_CLOSE. -/
theorem tickets_inStep (c : SyncNo) : TicketLaw (inStep c s) := by
  rcases inStep_cases c s with idle | ⟨n, tr, -, -, -, sync, taken⟩
  · rwa [idle]
  · obtain ⟨⟨slot, -⟩, -⟩ := (inPhase_eq_some s n .sync tr).mp sync
    have left := tickets_kept.on_leaveSync n tr s h
    rw [taken, takeInStep]
    split
    · have entered := tickets_kept.on_modSlot n (fun t => { t with phase := .parallelClose }) _ left
        fun _ => ⟨rfl, id⟩
      rw [modSlot_eq n _ _ (leaveSync_slot slot)] at entered
      rw [enterParallelClose_eq (leaveSync_slot slot)]
      exact tickets_startPulse entered _ _ _ _
    · exact tickets_kept.on_endTransfer n .noTarget _ left

end

/-- R40: every command keeps the law of tickets. -/
theorem tickets_exec (c : Instr) (s : State) (h : TicketLaw s) : OnNext TicketLaw (exec c s) := by
  by_cases other : standsAlone c = false
  · exact tickets_kept.on_exec c s h other
  · cases c
    case coldStart cause t found =>
      refine onNext_iff.mpr ?_
      split
      · exact tickets_cold _ found _
      · exact h
    case warmRestart cause t elapsed found =>
      refine onNext_iff.mpr ?_
      split
      · exact tickets_warmRestart (tickets_kept.on_advanceTo t s h) elapsed found
      · exact h
    case auxChange n x closed t => exact onNext_iff.mpr (tickets_auxChange (tickets_kept.on_advanceTo t s h) n x closed)
    case inStepReport c => exact onNext_iff.mpr (tickets_inStep h c)
    all_goals exact absurd rfl other

/-- Settles O40: a draw stops at the first free place after the counter, and every command keeps the law. -/
theorem drawnTicketsAreFresh : Obligations.DrawnTicketsAreFresh := by
  refine ⟨fun s low high => ?draw, fun s t law run => ?kept⟩
  case draw =>
    obtain ⟨j, first, drawn, free, taken⟩ := drawTicket_places s low high
    obtain ⟨above, below⟩ := places_range s.xfr.counter j
    refine ⟨_, j, drawn, above, below, first, rfl, free, taken, fun next => ?_⟩
    rw [← ticketPlaces_one low high] at next ⊢
    obtain rfl | later := first.eq_or_lt
    · rfl
    · obtain ⟨n, t, flies, same⟩ := taken 1 le_rfl later
      exact absurd same (next n t flies)
  case kept =>
    unfold step at run
    split at run
    · cases run
      exact law
    · rename_i c rest _
      exact tickets_exec c { s with pending := rest } ⟨law.low, law.high, law.fresh, law.apart⟩ t run

end Sys2Proof.Machine
end

section
/-! The phases of a transfer (R45, R47, R48, R52 to R58): what the entry to each does, and what its timers do when they
run out. -/

namespace Sys2Proof.Machine

/-! ## Channels (R67, R68) -/

section
variable {s : State} {n : SupplyNo} {t : Transfer}

theorem freeChannel_of_lowest {c : SyncNo} (free : (s.sync c).state = .free)
    (lowest : ∀ d, d < c → (s.sync d).state ≠ .free) : freeChannel s = some c := by
  refine find?_indices_of_lowest (by simp [free]) fun d fits => ?_
  exact not_lt.mp fun below => lowest d below (by simpa using fits)

theorem freeChannel_none (busy : ∀ c, (s.sync c).state ≠ .free) : freeChannel s = none := by
  simp [freeChannel, busy]

/-- A slot and a channel are written in either order. -/
theorem setSync_setSlot (c : SyncNo) (k : SyncChan) (r : Option Transfer) :
    setSync c k (setSlot n r s) = setSlot n r (setSync c k s) := rfl

theorem grantChannel_eq (c : SyncNo) (slot : s.slot n = some t) : grantChannel c n s = setSync c
    { state := .measuring, ticket := some t.ticket, supply := some n, origin := t.origin, target := some t.target,
      originSource := t.originSource, targetSource := some t.targetSource, originCount := 0, targetCount := 0,
      lastCrossing := none, lastPeriod := none, run := 0, measurements := 0, last := none,
      grantTime := some s.stl.clock.time } s := by
  rw [grantChannel, slot]
  rfl

/-- R48: a request, with its slot as just written, that finds a free channel enters SYNC. -/
theorem requestChannel_granted {c : SyncNo} (free : freeChannel s = some c) :
    requestChannel n (setSlot n (some t) s) = setSlot n (some { t with phase := .sync, syncChannel := some c })
      (setSync c { state := .measuring, ticket := some t.ticket, supply := some n, origin := t.origin,
                   target := some t.target, originSource := t.originSource, targetSource := some t.targetSource,
                   originCount := 0, targetCount := 0, lastCrossing := none, lastPeriod := none, run := 0,
                   measurements := 0, last := none, grantTime := some s.stl.clock.time } s) := by
  have slot : (setSlot n (some t) s).slot n = some t := by simp
  have free' : freeChannel (setSlot n (some t) s) = some c := free
  have granted := grantChannel_eq c slot
  have kept : (grantChannel c n (setSlot n (some t) s)).slot n = some t := by rw [granted, setSync_slot_at, slot]
  simp only [requestChannel, free', slot]
  rw [modSlot_eq n _ _ kept, granted, setSync_setSlot, setSlot_twice]
  rfl

/-- R48: one that finds none joins the tail of the queue. -/
theorem requestChannel_queued (busy : freeChannel s = none) : requestChannel n (setSlot n (some t) s) =
    setQueue (s.syn.queue ++ [{ ticket := t.ticket, supply := n }]) (setSlot n (some t) s) := by
  have slot : (setSlot n (some t) s).slot n = some t := by simp
  have busy' : freeChannel (setSlot n (some t) s) = none := busy
  simp only [requestChannel, busy', slot, setSlot_syn]

/-! ## Entries -/

theorem enterOpening_eq (slot : s.slot n = some t) : enterOpening n s =
    openOrigin n t (setSlot n (some { t with phase := .opening, phaseTimer := none }) s) := by
  simp only [enterOpening, slot, modSlot_eq n s _ slot]

theorem enterDead_eq (slot : s.slot n = some t) : enterDead n s = setSlot n
    (some { t with phase := .dead, phaseTimer := some (s.now / 1000 + (s.supply n).timing.deadTime) }) s :=
  modSlot_eq n s _ slot

theorem enterClosing_eq (slot : s.slot n = some t) : enterClosing n s =
    commandClose n t.target false (setSlot n (some { t with phase := .closing, phaseTimer := none }) s) := by
  simp only [enterClosing, slot, modSlot_eq n s _ slot]

theorem enterReclose_eq {x : Input} (slot : s.slot n = some t) (origin : t.origin = some x) (r : Result) :
    enterReclose n r s = commandClose n x false
      (setSlot n (some { t with phase := .reclose, phaseTimer := none, pendingResult := some r }) s) := by
  simp only [enterReclose, slot, Option.bind_some, origin, modSlot_eq n s _ slot]

theorem enterParallelClose_commands (slot : s.slot n = some t) : enterParallelClose n s =
    commandClose n t.target true (setSlot n (some { t with phase := .parallelClose }) s) := by
  simp only [enterParallelClose, slot, modSlot_eq n s _ slot]

theorem enterParallelOpen_eq (slot : s.slot n = some t) : enterParallelOpen n s = openOrigin n t (setSlot n
    (some { t with phase := .parallelOpen, phaseTimer := some (s.now / 1000 + (s.supply n).timing.overlap) }) s) := by
  simp only [enterParallelOpen, slot, modSlot_eq n s _ slot]
  rfl

theorem enterSettle_eq (slot : s.slot n = some t) : enterSettle n s = setSlot n
    (some { t with phase := .settle, excursion := false,
                   phaseTimer := some (s.now / 1000 + (s.supply n).timing.settleTime * 1000) }) s :=
  modSlot_eq n s _ slot

theorem enterSyncWait_requests (slot : s.slot n = some t) : enterSyncWait n s = requestChannel n (setSlot n
    (some { t with phase := .syncWait, syncTimer := some (s.now / 1000 + s.syn.limits.timeout * 1000) }) s) := by
  rw [enterSyncWait, modSlot_eq n s _ slot]
  rfl

/-! ## Timers -/

theorem overlapExpiry_eq {due : Nat} {x : Input} (flies : flying s n t) (phase : t.phase = .parallelOpen)
    (timer : t.phaseTimer = some due) (origin : t.origin = some x) : overlapExpiry n s =
      startPulse n t.target .toOpen false (markFaulted n x .toOpen
        (setSlot n (some { t with overlapExpired := true, phaseTimer := none }) (advanceTo (due * 1000) s))) := by
  have flight : inPhase s n .parallelOpen = some t := (inPhase_eq_some s n _ t).mpr ⟨flies, phase⟩
  simp only [overlapExpiry, flight, timer, origin]
  rw [modSlot_eq n _ _ (show (advanceToMs due s).slot n = some t from flies.1), origin]
  rfl

theorem deadTimeExpiry_eq {due : Nat} (flies : flying s n t) (phase : t.phase = .dead)
    (timer : t.phaseTimer = some due) : deadTimeExpiry n s =
      if targetRecheck s n t then enterClosing n (advanceTo (due * 1000) s)
      else enterReclose n .noTarget (advanceTo (due * 1000) s) := by
  have flight : inPhase s n .dead = some t := (inPhase_eq_some s n _ t).mpr ⟨flies, phase⟩
  simp only [deadTimeExpiry, flight, timer]
  rfl

theorem settleTimeExpiry_eq {due : Nat} (flies : flying s n t) (phase : t.phase = .settle)
    (timer : t.phaseTimer = some due) : settleTimeExpiry n s =
      endTransfer n (if t.excursion then .doneUnstable else .done) (advanceTo (due * 1000) s) := by
  have flight : inPhase s n .settle = some t := (inPhase_eq_some s n _ t).mpr ⟨flies, phase⟩
  simp only [settleTimeExpiry, flight, timer]
  rfl

theorem targetRecheck_iff : targetRecheck s n t = true ↔ (s.input n t.target).voltage = true ∧
    (s.source t.targetSource).state = .running ∧ (s.source t.targetSource).stale = false ∧
      (s.source t.targetSource).implausible = false := by
  simp [targetRecheck, and_assoc]

end

/-- Settles O43: each entry by the slot it finds, and each expiry by the phase its timer runs in. -/
theorem phasesAreEnteredAndRunOut : Obligations.PhasesAreEnteredAndRunOut := by
  refine ⟨fun s n t slot => ⟨⟨rfl, rfl, rfl⟩, enterOpening_eq slot, enterDead_eq slot, enterClosing_eq slot,
    fun x r origin => enterReclose_eq slot origin r, enterParallelClose_commands slot, enterParallelOpen_eq slot,
    enterSettle_eq slot, fun c free lowest => ?granted, fun busy => ?queued⟩,
    fun s n t due u flies timer hu => ⟨fun o phase origin _ => congrArg Host.Outcome.next ?overlap,
      fun phase => congrArg Host.Outcome.next ?dead, fun phase => congrArg Host.Outcome.next ?settle⟩,
    fun s n t => targetRecheck_iff⟩
  case granted => rw [enterSyncWait_requests slot, requestChannel_granted (freeChannel_of_lowest free lowest)]
  case queued => rw [enterSyncWait_requests slot, requestChannel_queued (freeChannel_none busy)]
  case overlap =>
    subst hu
    rw [overlapExpiry_eq flies phase timer origin, markFaulted_eq]
    rfl
  case dead => rw [deadTimeExpiry_eq flies phase timer, hu]
  case settle => rw [settleTimeExpiry_eq flies phase timer, hu]

end Sys2Proof.Machine
end

section
/-! Confirmations (R52 to R57): what each confirmed change of a contactor does to the transfer in flight, by
its phase. -/

namespace Sys2Proof.Machine

section
variable {s : State} {n : SupplyNo} {t : Transfer}

/-! ## The supply's record -/

theorem feedFrom_eq (closed : Option Input) (record : Option SourceNo) : feedFrom n closed record s =
    setSupply n { s.supply n with closed := closed, record := record } s := rfl

theorem targetRecheck_feedFrom (closed : Option Input) (record : Option SourceNo) :
    targetRecheck (feedFrom n closed record s) n t = targetRecheck s n t := by
  have input : (feedFrom n closed record s).input n t.target = s.input n t.target := by
    rw [feedFrom_eq, setSupply_input, if_pos rfl]
    rfl
  have source : (feedFrom n closed record s).source t.targetSource = s.source t.targetSource := rfl
  simp only [targetRecheck, input, source]

theorem timing_feedFrom (closed : Option Input) (record : Option SourceNo) :
    ((feedFrom n closed record s).supply n).timing = (s.supply n).timing := by
  rw [feedFrom_eq, setSupply_supply, if_pos rfl]

/-! ## The report, phase by phase -/

variable (flight : inFlight s n = some t)
include flight

theorem confirmed_parallelClose (phase : t.phase = .parallelClose) :
    confirmed n t.target true s = enterParallelOpen n s := by
  simp [confirmed, flight, phase]

theorem confirmed_parallelOpen_origin {o : Input} (phase : t.phase = .parallelOpen) (origin : t.origin = some o) :
    confirmed n o false s = originOpened n t s := by
  simp [confirmed, flight, phase, origin]

/-- R53: past the overlap limit the target opens in the origin's place. -/
theorem confirmed_parallelOpen_target (phase : t.phase = .parallelOpen) (apart : t.origin ≠ some t.target)
    (late : t.overlapExpired = true) : confirmed n t.target false s = endTransfer n .failOpen s := by
  simp [confirmed, flight, phase, apart, late]

theorem confirmed_opening {o : Input} (phase : t.phase = .opening) (origin : t.origin = some o) :
    confirmed n o false s = afterOpening n t (feedFrom n none none s) := by
  simp [confirmed, flight, phase, origin]

theorem confirmed_closing (phase : t.phase = .closing) :
    confirmed n t.target true s = enterSettle n (feedFrom n (some t.target) (some t.targetSource) s) := by
  simp [confirmed, flight, phase]

theorem confirmed_reclose {o : Input} {r : Result} (phase : t.phase = .reclose) (origin : t.origin = some o)
    (pending : t.pendingResult = some r) :
    confirmed n o true s = endTransfer n r (feedFrom n (some o) t.originSource s) := by
  simp [confirmed, flight, phase, origin, pending]

end

/-! ## After the origin has opened (R53, R54) -/

section
variable {u : State} {n : SupplyNo} {t : Transfer}

theorem originOpened_early (early : t.overlapExpired = false) :
    originOpened n t u = enterSettle n (feedFrom n (some t.target) (some t.targetSource) u) := by
  simp [originOpened, early]

theorem originOpened_late (late : t.overlapExpired = true) : originOpened n t u = feedFrom n none none u := by
  simp [originOpened, late]

theorem afterOpening_aborted (abort : t.abortRequested = true) :
    afterOpening n t u = if t.originTripped then endTransfer n .aborted u else enterReclose n .aborted u := by
  simp [afterOpening, abort]

theorem afterOpening_tripped (goesOn : t.abortRequested = false) (tripped : t.originTripped = true) :
    afterOpening n t u = if targetRecheck u n t then enterClosing n u else endTransfer n .noTarget u := by
  simp [afterOpening, goesOn, tripped]

theorem afterOpening_atOnce (goesOn : t.abortRequested = false) (sound : t.originTripped = false)
    (zero : (u.supply n).timing.deadTime = 0) :
    afterOpening n t u = if targetRecheck u n t then enterClosing n u else enterReclose n .noTarget u := by
  simp [afterOpening, goesOn, sound, zero]

theorem afterOpening_waits (goesOn : t.abortRequested = false) (sound : t.originTripped = false)
    (waits : 0 < (u.supply n).timing.deadTime) : afterOpening n t u = enterDead n u := by
  simp [afterOpening, goesOn, sound, waits.ne']

end

/-- Settles O46: each confirmed change by the phase it comes in, and in OPENING by the rows of R54. -/
theorem confirmationsMoveTheTransfer : Obligations.ConfirmationsMoveTheTransfer := by
  intro s n t f flies hf
  have flight := (flying_iff s n t).mp flies
  have feeds (x : Option Input) (i : Option SourceNo) : f x i = feedFrom n x i s := hf x i
  simp only [feeds]
  refine ⟨confirmed_parallelClose flight, fun o origin apart => ⟨fun phase early => ?settles, fun phase late => ?both,
    fun phase => ?opening, fun r phase pending => confirmed_reclose flight phase origin pending⟩,
    confirmed_closing flight⟩
  case settles => rw [confirmed_parallelOpen_origin flight phase origin, originOpened_early early]
  case both =>
    refine ⟨?_, confirmed_parallelOpen_target flight phase (by simpa [origin] using apart) late⟩
    rw [confirmed_parallelOpen_origin flight phase origin, originOpened_late late]
  case opening =>
    rw [confirmed_opening flight phase origin]
    refine ⟨fun abort sound => ?_, fun abort tripped => ?_, fun goesOn tripped => ?_, fun goesOn sound zero => ?_,
      fun goesOn sound waits => ?_⟩
    · rw [afterOpening_aborted abort, sound, if_neg Bool.false_ne_true]
    · rw [afterOpening_aborted abort, tripped, if_pos rfl]
    · rw [afterOpening_tripped goesOn tripped, targetRecheck_feedFrom]
    · rw [afterOpening_atOnce goesOn sound (by rwa [timing_feedFrom]), targetRecheck_feedFrom]
    · rw [afterOpening_waits goesOn sound (by rwa [timing_feedFrom])]

end Sys2Proof.Machine
end

section
/-! SYNC_WAIT and SYNC (R48 to R50, R68): grants, in-step reports, sync timeouts and released channels. -/

namespace Sys2Proof.Machine

/-! ## Released channels (R68) -/

theorem bne_eq_decide_ne {α : Type} [DecidableEq α] (a b : α) : (a != b) = decide (a ≠ b) := by
  rw [Bool.eq_iff_iff, bne_iff_ne, decide_eq_true_eq]

section
variable {s : State} {ticket : Nat} {c : SyncNo}

theorem servingChannel_of_lowest (serves : (s.sync c).ticket = some ticket)
    (lowest : ∀ d, d < c → (s.sync d).ticket ≠ some ticket) : servingChannel s ticket = some c := by
  refine find?_indices_of_lowest (by simp [serves]) fun d fits => ?_
  exact not_lt.mp fun below => lowest d below (by simpa using fits)

theorem servingChannel_none (idle : ∀ d, (s.sync d).ticket ≠ some ticket) : servingChannel s ticket = none := by
  simp [servingChannel, idle]

/-- A channel and the queue are written in either order. -/
theorem setQueue_setSync (q : List QueueEntry) (k : SyncChan) :
    setQueue q (setSync c k s) = setSync c k (setQueue q s) :=
  rfl

theorem releaseChannel_frees (serving : servingChannel s ticket = some c) (empty : s.syn.queue = []) :
    releaseChannel ticket s = setSync c SyncChan.cold s := by
  simp only [releaseChannel, serving, empty]

theorem releaseChannel_grants {e : QueueEntry} {rest : List QueueEntry} {t : Transfer}
    (serving : servingChannel s ticket = some c) (queue : s.syn.queue = e :: rest) (slot : s.slot e.supply = some t) :
    releaseChannel ticket s = setSync c
      { state := .measuring, ticket := some t.ticket, supply := some e.supply, origin := t.origin,
        target := some t.target, originSource := t.originSource, targetSource := some t.targetSource,
        originCount := 0, targetCount := 0, lastCrossing := none, lastPeriod := none, run := 0,
        measurements := 0, last := none, grantTime := some s.stl.clock.time } (setQueue rest s) := by
  have slot' : (setQueue rest (setSync c SyncChan.cold s)).slot e.supply = some t := slot
  simp only [releaseChannel, serving, queue]
  rw [grantChannel_eq c slot', setQueue_setSync, setSync_twice]
  rfl

theorem releaseChannel_leavesQueue (serving : servingChannel s ticket = none) : releaseChannel ticket s =
    setQueue (s.syn.queue.filter fun e => decide (e.ticket ≠ ticket)) s := by
  simp only [releaseChannel, serving, bne_eq_decide_ne]

@[simp] theorem src_releaseChannel (s : State) (ticket : Nat) : (releaseChannel ticket s).src = s.src := by
  unfold releaseChannel grantChannel
  (repeat' split) <;> rfl

@[simp] theorem xfr_releaseChannel (s : State) (ticket : Nat) : (releaseChannel ticket s).xfr = s.xfr := by
  unfold releaseChannel grantChannel
  (repeat' split) <;> rfl

@[simp] theorem stl_releaseChannel (s : State) (ticket : Nat) : (releaseChannel ticket s).stl = s.stl := by
  unfold releaseChannel grantChannel
  (repeat' split) <;> rfl

end

section
variable {s : State} {n : SupplyNo} {t : Transfer}

theorem releaseChannel_slot (ticket : Nat) (m : SupplyNo) : (releaseChannel ticket s).slot m = s.slot m := by
  rw [State.slot, xfr_releaseChannel, State.slot]

/-- R49 to R51: the channel or the place is released, and the slot holds neither it nor the sync timer. -/
theorem leaveSync_eq (slot : s.slot n = some t) : leaveSync n t s =
    setSlot n (some { t with syncChannel := none, syncTimer := none }) (releaseChannel t.ticket s) := by
  rw [leaveSync, modSlot_eq n _ _ ((releaseChannel_slot t.ticket n).trans slot)]

/-- R47: the re-check does not look at what a release writes. -/
theorem targetRecheck_leaveSync : targetRecheck (leaveSync n t s) n t = targetRecheck s n t := by
  have source (i : SourceNo) : (leaveSync n t s).source i = s.source i := by
    rw [leaveSync, modSlot, setSlot_source_at, State.source, src_releaseChannel, State.source]
  simp only [targetRecheck, leaveSync_input, source]

/-! ## The rows -/

theorem takeGrant_eq {c : SyncNo} (flies : flying s n t) (phase : t.phase = .syncWait)
    (serving : servingChannel s t.ticket = some c) :
    takeGrant n s = setSlot n (some { t with phase := .sync, syncChannel := some c }) s := by
  have flight : inPhase s n .syncWait = some t := (inPhase_eq_some s n _ t).mpr ⟨flies, phase⟩
  simp only [takeGrant, flight, serving, modSlot_eq n s _ flies.1]

theorem inStep_eq {c : SyncNo} (flies : flying s n t) (phase : t.phase = .sync) (state : (s.sync c).state = .inStep)
    (supply : (s.sync c).supply = some n) (ticket : (s.sync c).ticket = some t.ticket) :
    inStep c s = takeInStep n t s := by
  have flight : inPhase s n .sync = some t := (inPhase_eq_some s n _ t).mpr ⟨flies, phase⟩
  simp [inStep, state, supply, flight, ticket]

theorem syncTimeout_eq {due : Nat} (flies : flying s n t) (phase : t.phase = .syncWait ∨ t.phase = .sync)
    (timer : t.syncTimer = some due) : syncTimeout n s =
      if fallsBack t (s.supply n).showHold then
        enterOpening n (modSlot n (fun t => { t with mode := .break }) (leaveSync n t (advanceTo (due * 1000) s)))
      else endTransfer n .syncTimeout (leaveSync n t (advanceTo (due * 1000) s)) := by
  have flight : inPhases s n .syncWait .sync = some t := by
    rcases phase with phase | phase <;> simp [inPhases, (flying_iff s n t).mp flies, phase]
  simp only [syncTimeout, flight, timer]
  rfl

theorem fallsBack_iff (showHold : Bool) :
    fallsBack t showHold = true ↔ t.modeReq = .auto ∧ (showHold = false ∨ t.priority = 7) := by
  simp [fallsBack]

end

/-- Settles O44: each report finds its transfer by phase, and leaves it with its channel or its place released. -/
theorem synchronismMovesTheTransfer : Obligations.SynchronismMovesTheTransfer := by
  refine ⟨fun s n t flies => ⟨fun c phase serves lowest => congrArg Host.Outcome.next ?grant,
    fun c u phase state supply ticket _ hu => ?inStep, fun due u phase timer hu => ?timeout⟩,
    fun s ticket => ⟨fun c serves lowest => ?serving, fun idle => ?waiting⟩⟩
  case grant => exact takeGrant_eq flies phase (servingChannel_of_lowest serves lowest)
  case inStep =>
    have left : leaveSync n t s = u := (leaveSync_eq flies.1).trans hu.symm
    have row : exec (.inStepReport c) s =
        .next (if targetRecheck s n t then enterParallelClose n u else endTransfer n .noTarget u) := by
      show Host.Outcome.next _ = _
      rw [inStep_eq flies phase state supply ticket, takeInStep, targetRecheck_leaveSync, left]
    exact ⟨fun sound => by rw [row, if_pos sound], fun lost => by rw [row, lost, if_neg Bool.false_ne_true]⟩
  case timeout =>
    have slot : (advanceTo (due * 1000) s).slot n = some t := flies.1
    have left : leaveSync n t (advanceTo (due * 1000) s) =
        setSlot n (some { t with syncChannel := none, syncTimer := none }) u := by rw [leaveSync_eq slot, hu]
    have row : exec (.syncTimeout n) s = .next (if fallsBack t (s.supply n).showHold then
        enterOpening n (setSlot n (some { t with syncChannel := none, syncTimer := none, mode := .break }) u)
        else endTransfer n .syncTimeout (setSlot n (some { t with syncChannel := none, syncTimer := none }) u)) := by
      show Host.Outcome.next _ = _
      rw [syncTimeout_eq flies phase timer, left, modSlot_eq n (setSlot n _ u) _ ((setSlot_slot ..).trans (if_pos rfl)),
        setSlot_twice]
    refine ⟨fun auto free => ?_, fun stays => ?_⟩
    · rw [row, if_pos ((fallsBack_iff _).mpr ⟨auto, free⟩)]
    · rw [row, if_neg]
      rw [fallsBack_iff]
      rintro ⟨auto, free⟩
      rcases stays with other | ⟨held, low⟩
      · exact other auto
      · exact free.elim (by simp [held]) low
  case serving =>
    have serving := servingChannel_of_lowest serves lowest
    exact ⟨releaseChannel_frees serving, fun e rest t queue slot => releaseChannel_grants serving queue slot⟩
  case waiting => exact releaseChannel_leavesQueue (servingChannel_none idle)

end Sys2Proof.Machine
end

section
/-! A trip report (R51, R58, R59) and ABORT TRANSFER (R61), by the phase of the transfer. -/

namespace Sys2Proof.Machine

/-! ## A trip report, once taken (R51, R58, R59) -/

section
variable {s : State} {n : SupplyNo} {t : Transfer} {x : Input}

/-- R59: the report is taken out of the slot, and then handled. -/
theorem takeTripReport_eq (flies : flying s n t) (report : t.tripReport = some x) :
    takeTripReport n s = handleTrip n t x (setSlot n (some { t with tripReport := none }) s) := by
  simp only [takeTripReport, (flying_iff s n t).mp flies, report, modSlot_eq n s _ flies.1]

/-- R51: the conversion of a transfer whose report has been taken. -/
theorem handleTrip_converts (phase : t.phase = .syncWait ∨ t.phase = .sync) (origin : t.origin = some x) :
    handleTrip n t x (setSlot n (some { t with tripReport := none }) s) = enterOpening n (setSlot n
      (some { t with tripReport := none, syncChannel := none, syncTimer := none, mode := .break, priority := 7,
                     originTripped := true })
      (releaseChannel t.ticket (setSlot n (some { t with tripReport := none }) s))) := by
  have slot : (setSlot n (some { t with tripReport := none }) s).slot n = some { t with tripReport := none } := by simp
  have converts : handleTrip n t x (setSlot n (some { t with tripReport := none }) s) =
      convertToBreak n { t with tripReport := none } (setSlot n (some { t with tripReport := none }) s) := by
    rcases phase with phase | phase <;> simp only [handleTrip, phase, origin, beq_self_eq_true, if_true] <;> rfl
  rw [converts, convertToBreak, leaveSync_eq slot, modSlot_eq n (setSlot n _ _) _
      ((setSlot_slot ..).trans (if_pos rfl)),
    setSlot_twice]

theorem handleTrip_marks (slot : s.slot n = some { t with tripReport := none })
    (phase : t.phase = .parallelClose ∨ t.phase = .parallelOpen ∨ t.phase = .opening) (origin : t.origin = some x) :
    handleTrip n t x s = setSlot n (some { t with tripReport := none, originTripped := true }) s := by
  have marks : handleTrip n t x s = modSlot n (fun t => { t with originTripped := true }) s := by
    rcases phase with phase | phase | phase <;> simp [handleTrip, phase, origin]
  rw [marks, modSlot_eq n s _ slot]

theorem handleTrip_ends (phase : t.phase = .settle) (target : t.target = x) :
    handleTrip n t x s = endTransfer n .doneUnstable s := by
  simp [handleTrip, phase, target]

/-- Log entry 15: a report that its phase does not speak of. -/
theorem handleTrip_stays (h : t.phase = .dead ∨ t.phase = .closing ∨ t.phase = .reclose ∨
    (t.phase = .settle ∧ t.target ≠ x) ∨ (t.phase ≠ .settle ∧ t.origin ≠ some x)) : handleTrip n t x s = s := by
  rcases h with phase | phase | phase | ⟨phase, other⟩ | ⟨phase, other⟩
  · simp [handleTrip, phase]
  · simp [handleTrip, phase]
  · simp [handleTrip, phase]
  · simp [handleTrip, phase, other]
  · unfold handleTrip
    split <;> simp_all

end

/-! ## ABORT TRANSFER (R61) -/

section
variable {s : State} {m : SupplyNo} {t : Transfer} (n : StationNo) (st : Station) {k : Nat} (named : k ≠ 0)

theorem mayAbort_iff : mayAbort t n st = true ↔ st.role = .console ∨ t.originator = .station n false := by
  simp [mayAbort]

include named

theorem ownerAbort_undefined (h : (s.supply m).defined = false) :
    ownerAbort (numberOf m) k n st s = refuse .unknown s := by
  simp [ownerAbort, named, h]

theorem ownerAbort_otherTicket (h : (s.supply m).defined = true) (other : ∀ t, flying s m t → t.ticket ≠ k) :
    ownerAbort (numberOf m) k n st s = refuse .state s := by
  cases flight : inFlight s m with
  | none => simp [ownerAbort, named, h, flight]
  | some t => simp [ownerAbort, named, h, flight, other t ((flying_iff s m t).mpr flight)]

/-- R61 cases 4 and 5: the transfer named. -/
theorem ownerAbort_named (h : (s.supply m).defined = true) (flies : flying s m t) (ticket : t.ticket = k) :
    ownerAbort (numberOf m) k n st s = if mayAbort t n st then abortEffect m t s else refuse .denied s := by
  simp [ownerAbort, named, h, (flying_iff s m t).mp flies, ticket]

end

/-- R157: a STAGE station may name the supply that it is bound to. -/
theorem ownSupply_numberOf {st : Station} {m : SupplyNo} (bound : st.bound = some m) (u : State) :
    ownSupply (numberOf m) st u = true := by
  simp [ownSupply, bound]

/-- R61: ABORT TRANSFER of a station that may name the supply, by what XFR makes of it. -/
theorem exec_abortTransfer {rq : Request} {n : StationNo} {st : Station} {s u : State} {m : SupplyNo} {k : Nat}
    {status : Status} (taken : Taken rq kindAbortTransfer n st s) (own : st.role = .stage → st.bound = some m)
    (owner : ownerAbort (numberOf m) k n (requester rq st s) (heard rq n s) = ⟨u, status, .empty⟩) :
    exec (.abortTransfer rq (numberOf m) k) s = replied rq kindAbortTransfer n status .empty u :=
  request_done rq kindAbortTransfer _ _ n st s taken
    (fun stage => ownSupply_numberOf (st := requester rq st s) (own stage) _) u status .empty owner

/-- Settles O45: a trip report is taken and handled by the phase; an abort is judged in R61's order. -/
theorem tripsAndAbortsByPhase : Obligations.TripsAndAbortsByPhase := by
  refine ⟨fun s n t x flies report => ?trips, fun rq n st s m k taken own named => ?aborts⟩
  case trips =>
    have row {r : State} (handled : handleTrip n t x (setSlot n (some { t with tripReport := none }) s) = r) :
        exec (.tripReport n) s = .next r := by
      show Host.Outcome.next _ = _
      rw [takeTripReport_eq flies report, handled]
    have slot : (setSlot n (some { t with tripReport := none }) s).slot n = some { t with tripReport := none } := by
      simp
    refine ⟨fun phase origin => row (handleTrip_converts phase origin), fun phase origin => row ?_,
      fun phase target => row (handleTrip_ends phase target), fun other => row (handleTrip_stays other)⟩
    rw [handleTrip_marks slot phase origin, setSlot_twice]
  case aborts =>
    refine ⟨fun undefined => exec_abortTransfer taken own (ownerAbort_undefined n _ named undefined),
      fun defined other => exec_abortTransfer taken own (ownerAbort_otherTicket n _ named defined other),
      fun defined t flies ticket => ?_⟩
    have judged := ownerAbort_named n (requester rq st s) named (s := heard rq n s) defined flies ticket
    refine ⟨fun role other => exec_abortTransfer taken own ?_, fun may => ?_⟩
    · rw [judged, if_neg (by simpa [mayAbort_iff, requester] using ⟨role, other⟩)]
      rfl
    · rw [if_pos (show mayAbort t n (requester rq st s) = true from (mayAbort_iff n _).mpr may)] at judged
      have row {u : State} {status : Status} (effect : abortEffect m t (heard rq n s) = ⟨u, status, .empty⟩) :
          exec (.abortTransfer rq (numberOf m) k) s = replied rq kindAbortTransfer n status .empty u :=
        exec_abortTransfer taken own (judged.trans effect)
      refine ⟨fun phase => row ?_, fun phase => row ?_, fun phase => row ?_, fun phase => row ?_⟩
      · rcases phase with phase | phase <;> simp [abortEffect, phase]
      · simp [abortEffect, phase, modSlot_eq m (heard rq n s) _ flies.1]
      · simp [abortEffect, phase]
      · rcases phase with phase | phase | phase | phase | phase <;> simp [abortEffect, phase, refuse]

end Sys2Proof.Machine
end

section
/-! The end of a transfer (R15, R29, R62), the stations told of it (R63), and what DLV and WCH make of its result (R94,
R103, R105, R146). -/

namespace Sys2Proof.Machine

/-! ## The steps common to every end (R62 steps 1 to 4) -/

section
variable {s : State} {n : SupplyNo} {t : Transfer} {result : Result}

/-- R15: the release clears the claim of the ending ticket alone. -/
theorem releaseClaim_eq (ticket : Nat) :
    releaseClaim ticket = fun r => if r.claim = some ticket then { r with claim := none } else r := by
  funext r
  simp only [releaseClaim, beq_iff_eq]

/-- R62 step 1: the slot as the end of its transfer writes it. -/
theorem modSlot_endedSlot (slot : s.slot n = some t) : modSlot n (endedSlot result s.clock) s =
    setSlot n (some { t with phaseTimer := none, syncTimer := none, tripReport := none, result := some result,
                             endTime := some s.stl.clock.time }) s :=
  modSlot_eq n s _ slot

theorem closeWindows_eq : closeWindows n s =
    setSupply n { s.supply n with inputs := (s.supply n).inputs.map fun i => { i with window := none } } s := rfl

/-- R62 steps 1 to 4, in their order. -/
theorem releaseSteps_eq {u : State} (slot : s.slot n = some t)
    (released : u = releaseChannel t.ticket (setSlot n (some { t with
      phaseTimer := none, syncTimer := none, tripReport := none, result := some result,
      endTime := some s.stl.clock.time }) s)) :
    releaseSteps n t result s =
      changeSource t.targetSource (fun r => if r.claim = some t.ticket then { r with claim := none } else r)
        (setSupply n { s.supply n with inputs := (s.supply n).inputs.map fun i => { i with window := none } }
          (setSlot n (some { t with
            phaseTimer := none, syncTimer := none, tripReport := none, result := some result,
            endTime := some s.stl.clock.time, syncChannel := none }) u)) := by
  have slot' : u.slot n = some { t with
      phaseTimer := none, syncTimer := none, tripReport := none, result := some result,
      endTime := some s.stl.clock.time } := by
    rw [released, releaseChannel_slot, setSlot_slot, if_pos rfl]
  have supply : u.supply n = s.supply n := by
    rw [released, State.supply, sup_releaseChannel]
    rfl
  simp only [releaseSteps]
  rw [modSlot_endedSlot slot, ← released, modSlot_eq n u _ slot', closeWindows_eq, setSlot_supply_at, supply,
    releaseClaim_eq]

/-- R36: a source that turns available while no supply waits for a restore is told to none. -/
theorem changeSource_unawaited {i : SourceNo} (f : Source → Source)
    (nobody : ∀ m, (s.supply m).restoreWaiting = false) : changeSource i f s = setSource i (f (s.source i)) s := by
  have none_asks : reportAvailable i (setSource i (f (s.source i)) s) = setSource i (f (s.source i)) s :=
    reportAvailable_eq (ns := []) .nil fun m => by simp [restoresOnto, nobody]
  rw [changeSource_eq, none_asks, ite_self]

/-- R29, R62: the end of a transfer in its order. -/
theorem endTransfer_flying (flies : flying s n t) : endTransfer n result s =
    tellOriginator n t result (reportEnd n t result
      (if result = .failBoth then derived n .fault none none (releaseSteps n t result s)
        else derive n (releaseSteps n t result s))) := by
  rw [endTransfer, endWith, (flying_iff s n t).mp flies]
  by_cases both : result = .failBoth <;> simp [both, raiseFault, afterEnd]

end

/-! ## The stations told (R63) -/

section
variable (s : State) (result : Result) (m : StationNo) (st : Station)

theorem endedAudience_station (o : StationNo) (gone : Bool) : endedAudience s (.station o gone) result m st = true ↔
    (m = o ∧ gone = false) ∨ (st.role = .console ∧ result ≠ .done) := by
  simp [endedAudience]

theorem toFuelAndConsole_iff : toFuelAndConsole m st = true ↔ st.role = .fuel ∨ st.role = .console := by
  simp [toFuelAndConsole]

end

/-! ## The originating block (R62 step 8) -/

section
variable {s : State} {n : SupplyNo} {t : Transfer} {result : Result}

theorem completed_iff : completed result = true ↔ result = .done ∨ result = .doneUnstable := by
  simp [completed]

theorem tellOriginator_completed (done : result = .done ∨ result = .doneUnstable) :
    tellOriginator n t result s = tellCompleted n t result s := by
  rw [tellOriginator, if_pos (completed_iff.mpr done)]

theorem tellOriginator_failed (undone : ¬ (result = .done ∨ result = .doneUnstable)) :
    tellOriginator n t result s = tellFailed n t result s := by
  rw [tellOriginator, if_neg (completed_iff.not.mpr undone)]

theorem tellOriginator_station {o : StationNo} {gone : Bool} (originator : t.originator = .station o gone) :
    tellOriginator n t result s = s := by
  simp [tellOriginator, tellCompleted, tellFailed, originator]

theorem tellOriginator_supply (originator : t.originator = .supply) : tellOriginator n t result s = s := by
  simp [tellOriginator, tellCompleted, tellFailed, originator]

/-- R146: WCH keeps the result where the entry still holds the ticket. -/
theorem tellOriginator_watch {w : WatchNo} (originator : t.originator = .watch w) :
    tellOriginator n t result s = setWatch w
      (if (s.watch w).ticket = some t.ticket then { s.watch w with lastStatus := some (.result result) }
        else s.watch w) s := by
  simp [tellOriginator, tellCompleted, tellFailed, originator, tellWatch, modWatch]

/-! ### The delivery that carries a ticket (R94) -/

theorem unloadCarrying_isSome (ticket : Nat) (r : Delivery) :
    (unloadCarrying ticket r).isSome = true ↔ ∃ e ∈ r.unloads, e.status = .inFlight ticket := by
  simp [unloadCarrying]

theorem deliveryCarrying_of_lowest {ticket : Nat} {d : SlotNo} {r : Delivery} (slot : s.delivery d = some r)
    (carries : ∃ e ∈ r.unloads, e.status = .inFlight ticket)
    (lowest : ∀ c q, c < d → s.delivery c = some q → ∀ e ∈ q.unloads, e.status ≠ .inFlight ticket) :
    deliveryCarrying s ticket = some d := by
  refine find?_indices_of_lowest (by simpa [slot, unloadCarrying] using carries) fun c fits => not_lt.mp fun below => ?_
  cases here : s.delivery c with
  | none => simp [here] at fits
  | some q =>
    obtain ⟨e, listed, status⟩ := (unloadCarrying_isSome ticket q).mp (by simpa only [here] using fits)
    exact lowest c q below here e listed status

theorem deliveryCarrying_none {ticket : Nat}
    (idle : ∀ c q, s.delivery c = some q → ∀ e ∈ q.unloads, e.status ≠ .inFlight ticket) :
    deliveryCarrying s ticket = none := by
  refine List.find?_eq_none.mpr fun c _ fits => ?_
  cases here : s.delivery c with
  | none => simp [here] at fits
  | some q =>
    obtain ⟨e, listed, status⟩ := (unloadCarrying_isSome ticket q).mp (by simpa only [here] using fits)
    exact idle c q here e listed status

theorem lastEndedCarrying_of_lowest {ticket : Nat} {i : SourceNo} {r : Delivery} (slot : s.lastEnded i = some r)
    (carries : ∃ e ∈ r.unloads, e.status = .inFlight ticket)
    (lowest : ∀ j q, j < i → s.lastEnded j = some q → ∀ e ∈ q.unloads, e.status ≠ .inFlight ticket) :
    lastEndedCarrying s ticket = some i := by
  refine find?_indices_of_lowest (by simpa [slot, unloadCarrying] using carries) fun c fits => not_lt.mp fun below => ?_
  cases here : s.lastEnded c with
  | none => simp [here] at fits
  | some q =>
    obtain ⟨e, listed, status⟩ := (unloadCarrying_isSome ticket q).mp (by simpa only [here] using fits)
    exact lowest c q below here e listed status

theorem lastEndedCarrying_none {ticket : Nat}
    (idle : ∀ j q, s.lastEnded j = some q → ∀ e ∈ q.unloads, e.status ≠ .inFlight ticket) :
    lastEndedCarrying s ticket = none := by
  refine List.find?_eq_none.mpr fun c _ fits => ?_
  cases here : s.lastEnded c with
  | none => simp [here] at fits
  | some q =>
    obtain ⟨e, listed, status⟩ := (unloadCarrying_isSome ticket q).mp (by simpa only [here] using fits)
    exact idle c q here e listed status

/-! ### An unload of an active delivery (R94, R95) -/

theorem modDelivery_eq {d : SlotNo} {r : Delivery} (f : Delivery → Delivery) (slot : s.delivery d = some r) :
    modDelivery d f s = setDelivery d (some (f r)) s := by
  rw [modDelivery, slot, Option.map_some]

/-- R95: a block is reported once, of the delivery as its record has just been written. -/
theorem reportBlock_first {d : SlotNo} {q : Delivery} (unreported : q.blockedReported = false) (why : StatusOrResult) :
    reportBlock d n why (setDelivery d (some q) s) =
      raise (.delivery q.source q.reference .blocked) toFuelAndConsole
        (logAppend .unloadBlocked (num q.source) (num n) (some (outcomeCode why))
          (setDelivery d (some { q with blockedReported := true }) s)) := by
  have slot : (setDelivery d (some q) s).delivery d = some q := by simp
  simp only [reportBlock, slot, unreported, Bool.false_eq_true, if_false]
  rw [modDelivery_eq _ slot, setDelivery_twice]

theorem reportBlock_again {d : SlotNo} {q : Delivery} (reported : q.blockedReported = true) (why : StatusOrResult) :
    reportBlock d n why (setDelivery d (some q) s) = setDelivery d (some q) s := by
  simp [reportBlock, reported]

variable {x : SlotNo} (originator : t.originator = .unload x)
include originator

theorem tellOriginator_unload_failed {d : SlotNo} {r : Delivery} (slot : s.delivery d = some r)
    (carrying : deliveryCarrying s t.ticket = some d) (undone : ¬ (result = .done ∨ result = .doneUnstable)) :
    tellOriginator n t result s =
      reportBlock d n (.result result) (setDelivery d (some (putUnload n (.blocked (.result result)) r)) s) := by
  rw [tellOriginator_failed undone]
  simp only [tellFailed, originator, tellUnloadFailed, carrying, unloadFailed]
  rw [modDelivery_eq _ slot]

/-- R94: the completed move joins the moved list, and its unload entry goes. -/
theorem tellOriginator_unload_done {d : SlotNo} {r q : Delivery} (slot : s.delivery d = some r)
    (carrying : deliveryCarrying s t.ticket = some d) (done : result = .done ∨ result = .doneUnstable)
    (moved : q = putMoved (movedEntry n t) (dropUnload n r)) : tellOriginator n t result s =
      if unloading s q then (surveyStepOne d (setDelivery d (some q) s)).state else setDelivery d (some q) s := by
  have slot' : (setDelivery d (some q) s).delivery d = some q := by simp
  rw [tellOriginator_completed done]
  simp only [tellCompleted, originator, tellUnloadDone, carrying, unloadDone]
  rw [modDelivery_eq _ slot, ← moved]
  simp only [slot']
  rfl

/-! ### An unload whose delivery has ended (R94, R103) -/

theorem tellOriginator_lateUnload_failed {i : SourceNo} {r : Delivery} (ended : s.lastEnded i = some r)
    (none_active : deliveryCarrying s t.ticket = none) (carrying : lastEndedCarrying s t.ticket = some i)
    (undone : ¬ (result = .done ∨ result = .doneUnstable)) :
    tellOriginator n t result s = setLastEnded i (some (dropUnload n r)) s := by
  rw [tellOriginator_failed undone]
  simp only [tellFailed, originator, tellUnloadFailed, none_active, carrying, ended, Option.map_some]

theorem tellOriginator_lateUnload_done {i : SourceNo} {r : Delivery} (ended : s.lastEnded i = some r)
    (none_active : deliveryCarrying s t.ticket = none) (carrying : lastEndedCarrying s t.ticket = some i)
    (done : result = .done ∨ result = .doneUnstable) : tellOriginator n t result s =
      makeReturn i r.slot (setLastEnded i (some (putMoved (movedEntry n t) (dropUnload n r))) s) (movedEntry n t) := by
  rw [tellOriginator_completed done]
  simp only [tellCompleted, originator, tellUnloadDone, none_active, carrying, ended, lateUnloadDone]

theorem tellOriginator_unload_unknown (none_active : deliveryCarrying s t.ticket = none)
    (none_ended : lastEndedCarrying s t.ticket = none) : tellOriginator n t result s = s := by
  simp [tellOriginator, tellCompleted, tellFailed, originator, tellUnloadDone, tellUnloadFailed, none_active,
    none_ended]

omit originator

/-! ### A move home (R105) -/

theorem returnCarrying_of_only {ticket : Nat} {e : ReturnEntry} (listed : e ∈ s.dlv.returns)
    (holds : e.ticket = some ticket) (only : ∀ f ∈ s.dlv.returns, f.ticket = some ticket → f = e) :
    returnCarrying s ticket = some e := by
  cases found : returnCarrying s ticket with
  | none => simpa [holds] using List.find?_eq_none.mp found e listed
  | some f => rw [only f (List.mem_of_find?_eq_some found) (by simpa using List.find?_some found)]

theorem returnCarrying_none {ticket : Nat} (idle : ∀ f ∈ s.dlv.returns, f.ticket ≠ some ticket) :
    returnCarrying s ticket = none :=
  List.find?_eq_none.mpr fun f listed => by simpa using idle f listed

theorem dropReturn_eq (m : SupplyNo) :
    dropReturn m s = setReturns (s.dlv.returns.filter fun f => decide (f.supply ≠ m)) s := by
  simp only [dropReturn, bne_eq_decide_ne]

variable (homeward : t.originator = .returnHome x)
include homeward

theorem tellOriginator_return_done {e : ReturnEntry} (carrying : returnCarrying s t.ticket = some e)
    (done : result = .done ∨ result = .doneUnstable) : tellOriginator n t result s = dropReturn e.supply s := by
  rw [tellOriginator_completed done]
  simp only [tellCompleted, homeward, tellReturnDone, carrying]

/-- R105, log entry 18: within its window an entry waits for its next attempt, and past it is abandoned. -/
theorem tellOriginator_return_failed {e : ReturnEntry} (carrying : returnCarrying s t.ticket = some e)
    (undone : ¬ (result = .done ∨ result = .doneUnstable)) : tellOriginator n t result s =
      if e.window.isSome then
        putReturn { e with ticket := none, last := some (.result result), attempt := some (s.now / 1000 + 10000) } s
      else raise (.returnAbandoned e.supply) toFuelAndConsole
        (logAppend .returnAbandoned (num e.supply) (some (inputCode e.fromInput)) (some (resultCode result))
          (dropReturn e.supply s)) := by
  rw [tellOriginator_failed undone]
  simp only [tellFailed, homeward, tellReturnFailed, carrying]
  rfl

theorem tellOriginator_return_unknown (idle : returnCarrying s t.ticket = none) : tellOriginator n t result s = s := by
  simp [tellOriginator, tellCompleted, tellFailed, homeward, tellReturnDone, tellReturnFailed, idle]

end

/-- Settles O48: the steps of R62 in their order, and the originating block by who asked for the transfer. -/
theorem transferEndsInOrder : Obligations.TransferEndsInOrder := by
  refine ⟨fun s n t result o gone u v flies originator nobody hu hv => ?whole,
    fun s u v w n t result flies hu hv hw => ?steps,
    fun s result m st => ⟨fun o gone => endedAudience_station s result m st o gone, fun w => rfl,
      beq_iff_eq, fun d => ⟨toFuelAndConsole_iff m st, toFuelAndConsole_iff m st⟩⟩,
    fun s n t result done hdone => ⟨fun o gone => tellOriginator_station, tellOriginator_supply,
      fun w => tellOriginator_watch, fun x originator => ⟨fun d r slot carries lowest => ?unload,
        fun idle => ⟨fun i r ended carries lowest => ?lateUnload, fun none_ended => ?unknown⟩⟩,
      fun x originator => ⟨fun e listed holds only => ?home, fun idle =>
        tellOriginator_return_unknown originator (returnCarrying_none idle)⟩⟩⟩
  case steps =>
    have released : releaseSteps n t result s = v := (releaseSteps_eq flies.1 hu).trans hv.symm
    refine ⟨released, ?_⟩
    rw [endTransfer_flying flies, released, derived_eq, ← hw]
    rfl
  case whole =>
    have supply (m : SupplyNo) : u.supply m = s.supply m := by
      rw [hu, State.supply, sup_releaseChannel]
      rfl
    have source (i : SourceNo) : u.source i = s.source i := by
      rw [hu, State.source, src_releaseChannel]
      rfl
    have released : releaseSteps n t result s = v := by
      rw [releaseSteps_eq flies.1 hu, changeSource_unawaited, hv]
      · simp only [setSupply_source_at, setSlot_source_at, source]
      · intro m
        rw [setSupply_supply]
        split
        · exact nobody n
        · rw [setSlot_supply_at, supply, nobody]
    rw [endTransfer_flying flies, released, tellOriginator_station originator, reportEnd, originator]
    rfl
  case unload =>
    have carrying := deliveryCarrying_of_lowest slot carries lowest
    refine ⟨fun undone q hq => ?_, fun done q hq asks hasks => ?_⟩
    · rw [tellOriginator_unload_failed originator slot carrying (hdone.not.mp undone), ← hq]
      have reported : q.blockedReported = r.blockedReported := by rw [hq]; rfl
      refine ⟨fun again => reportBlock_again (reported.trans again) _, fun first => ?_⟩
      rw [reportBlock_first (reported.trans first), hq]
      rfl
    · have moved : q = putMoved (movedEntry n t) (dropUnload n r) := by
        rw [hq]
        simp only [dropUnload, bne_eq_decide_ne]
        rfl
      have unloads : unloading s q = true ↔ asks := by
        rw [hasks, unloading_iff, hq]
        rfl
      rw [tellOriginator_unload_done originator slot carrying (hdone.mp done) moved]
      exact ⟨fun yes => if_pos (unloads.mpr yes), fun no => if_neg (unloads.not.mpr no)⟩
  case lateUnload =>
    have inactive := deliveryCarrying_none idle
    have carrying := lastEndedCarrying_of_lowest ended carries lowest
    rintro q hq m rfl
    have dropped : dropUnload n r = q := by
      rw [hq]
      simp only [dropUnload, bne_eq_decide_ne]
    refine ⟨fun undone => ?_, fun done => ?_⟩
    · rw [tellOriginator_lateUnload_failed originator ended inactive carrying (hdone.not.mp undone), dropped]
    · rw [tellOriginator_lateUnload_done originator ended inactive carrying (hdone.mp done), dropped]
      rfl
  case unknown =>
    exact tellOriginator_unload_unknown originator (deliveryCarrying_none idle) (lastEndedCarrying_none none_ended)
  case home =>
    have carrying := returnCarrying_of_only listed holds only
    refine ⟨fun done => ?_, fun undone open_ => ?_, fun undone shut => ?_⟩
    · rw [tellOriginator_return_done originator carrying (hdone.mp done), dropReturn_eq]
    · rw [tellOriginator_return_failed originator carrying (hdone.not.mp undone), if_pos open_]
    · rw [tellOriginator_return_failed originator carrying (hdone.not.mp undone), shut, dropReturn_eq]
      rfl

end Sys2Proof.Machine
end

section
/-! The checks of a request for a transfer (R13, R14, R41 to R46), one lemma for each of their outcomes. -/

namespace Sys2Proof.Machine

/-! ## Availability and the claim (R13, R14, R43) -/

theorem availableFor_iff (pre : Option Nat) (r : Source) : availableFor pre r = true ↔
    r.state = .running ∧ r.stale = false ∧ r.implausible = false ∧ (r.claim = none ∨ r.claim = pre) ∧
      r.reservation = none := by
  simp [availableFor, and_assoc]

section
variable {pre : Option Nat} {r : Source}

theorem claimAnswer_lost (claimed : r.claim ≠ none) (other : r.claim ≠ pre) : claimAnswer pre r = some .lost := by
  simp [claimAnswer, claimed, other]

theorem claimAnswer_state (unclaimed : r.claim = none ∨ r.claim = pre)
    (held : r.state = .refuel ∨ r.reservation ≠ none) : claimAnswer pre r = some .state := by
  have mine : (r.claim != none && r.claim != pre) = false := by
    rcases unclaimed with h | h <;> simp [h]
  rw [claimAnswer, mine, if_neg Bool.false_ne_true, if_pos (by simpa using held)]

theorem claimAnswer_unheld (unclaimed : r.claim = none ∨ r.claim = pre) (state : r.state ≠ .refuel)
    (unreserved : r.reservation = none) :
    claimAnswer pre r = if availableFor pre r then none else some .noAlternative := by
  have mine : (r.claim != none && r.claim != pre) = false := by
    rcases unclaimed with h | h <;> simp [h]
  rw [claimAnswer, mine, if_neg Bool.false_ne_true, if_neg (by simp [state, unreserved])]
  cases availableFor pre r <;> rfl

/-- R14: the claim is granted to a request exactly where the source is available to it. -/
theorem claimAnswer_eq_none_iff : claimAnswer pre r = none ↔ availableFor pre r = true := by
  by_cases unclaimed : r.claim = none ∨ r.claim = pre
  · by_cases held : r.state = .refuel ∨ r.reservation ≠ none
    · rw [claimAnswer_state unclaimed held, availableFor_iff]
      refine ⟨nofun, fun ⟨running, _, _, _, unreserved⟩ => ?_⟩
      exact absurd held (by simp [running, unreserved])
    · obtain ⟨state, unreserved⟩ := not_or.mp held
      rw [claimAnswer_unheld unclaimed state (not_not.mp unreserved)]
      cases availableFor pre r <;> simp
  · obtain ⟨claimed, other⟩ := not_or.mp unclaimed
    rw [claimAnswer_lost claimed other, availableFor_iff]
    exact ⟨nofun, fun ⟨_, _, _, mine, _⟩ => absurd mine unclaimed⟩

end

/-! ## The target input (R43) -/

section
variable {pre : Option Nat} {q : Ask} {s : State} {x : Input} {i : SourceNo}

theorem withinCapacity_iff {n : SupplyNo} {h : Hire} (hired : (s.source i).hire = some h) :
    withinCapacity s n i = true ↔ supplyDemand s n + demandOn s i ≤ h.rating * h.loadingLimit / 1000 := by
  rw [withinCapacity, hireOf_hired hired, decide_eq_true_eq]

theorem bestCandidate_iff : bestCandidate pre q s x = true ↔
    (s.supply q.supply).closed ≠ some x ∧ (s.input q.supply x).faulted = false ∧
      (s.input q.supply x).voltage = true ∧ ∃ i, (s.input q.supply x).source = some i ∧
        availableFor pre (s.source i) = true ∧ (7 ≤ q.priority ∨ withinCapacity s q.supply i = true) := by
  unfold bestCandidate
  cases h : (s.input q.supply x).source <;> simp [h, and_assoc]

theorem resolveTarget_named (target : q.target = some x) (source : (s.input q.supply x).source = some i)
    (sound : (s.input q.supply x).faulted = false) (opened : (s.supply q.supply).closed ≠ some x) :
    resolveTarget pre q s = .ok x := by
  simp [resolveTarget, target, source, sound, opened]

theorem resolveTarget_unfit (target : q.target = some x) (unfit : (s.input q.supply x).source = none ∨
    (s.input q.supply x).faulted = true ∨ (s.supply q.supply).closed = some x) :
    resolveTarget pre q s = .error .state := by
  rcases unfit with h | h | h <;> simp [resolveTarget, target, h]

theorem resolveTarget_best (target : q.target = none) (fits : bestCandidate pre q s x = true)
    (first : ∀ y, inputCode y < inputCode x → bestCandidate pre q s y = false) : resolveTarget pre q s = .ok x := by
  simp only [resolveTarget, target, find?_allInputs_of_first fits first]

theorem resolveTarget_nothing (target : q.target = none) (nothing : ∀ y, bestCandidate pre q s y = false) :
    resolveTarget pre q s = .error .noAlternative := by
  have none_found : allInputs.find? (bestCandidate pre q s) = none :=
    List.find?_eq_none.mpr fun y _ => by simp [nothing]
  simp only [resolveTarget, target, none_found]

/-! ## The late checks (R44) -/

theorem lateRefusal_noVoltage (absent : (s.input q.supply x).voltage = false) :
    lateRefusal pre q s x i = some .noAlternative := by
  simp [lateRefusal, absent]

theorem lateRefusal_showHeld (voltage : (s.input q.supply x).voltage = true)
    (held : (s.supply q.supply).showHold = true) (live : (s.supply q.supply).state = .live) (mode : q.mode = .break)
    (low : q.priority < 7) : lateRefusal pre q s x i = some .showHeld := by
  simp [lateRefusal, voltage, held, live, mode, low]

theorem lateRefusal_overload (voltage : (s.input q.supply x).voltage = true)
    (free : (s.supply q.supply).showHold = false ∨ (pre = none ∧ (s.supply q.supply).state ≠ .live) ∨ q.mode ≠ .break)
    (low : q.priority < 7) (full : withinCapacity s q.supply i = false) :
    lateRefusal pre q s x i = some .overload := by
  rcases free with h | ⟨h, g⟩ | h
  · simp [lateRefusal, voltage, h, low, full]
  · simp [lateRefusal, voltage, h, g, low, full]
  · simp [lateRefusal, voltage, h, low, full]

theorem lateRefusal_eq_none_iff : lateRefusal pre q s x i = none ↔ (s.input q.supply x).voltage = true ∧
    ((s.supply q.supply).showHold = false ∨ (pre = none ∧ (s.supply q.supply).state ≠ .live) ∨ q.mode ≠ .break ∨
      7 ≤ q.priority) ∧
    (7 ≤ q.priority ∨ withinCapacity s q.supply i = true) := by
  have passes (c : Bool) (e : Status) (rest : Option Status) :
      (if c then some e else rest) = none ↔ c = false ∧ rest = none := by
    cases c <;> simp
  have shown : (pre.isSome || (s.supply q.supply).state == .live) = false ↔
      pre = none ∧ (s.supply q.supply).state ≠ .live := by simp
  simp only [lateRefusal, passes, Bool.and_eq_false_iff, Bool.not_eq_false', shown, beq_eq_false_iff_ne,
    decide_eq_false_iff_not, not_lt, or_assoc, and_true]

/-! ## The choice (R43, R44) -/

theorem chooseTarget_unresolved {e : Status} (unresolved : resolveTarget pre q s = .error e) :
    chooseTarget pre q s = ⟨s, .error e⟩ := by
  simp only [chooseTarget, unresolved]

variable (resolved : resolveTarget pre q s = .ok x) (source : (s.input q.supply x).source = some i)
include resolved source

theorem chooseTarget_unclaimed {e : Status} (answer : claimAnswer pre (s.source i) = some e) :
    chooseTarget pre q s = ⟨drawTicket s, .error e⟩ := by
  simp only [chooseTarget, resolved, source, answer]

theorem chooseTarget_late {e : Status} (available : availableFor pre (s.source i) = true)
    (late : lateRefusal pre q s x i = some e) : chooseTarget pre q s = ⟨drawTicket s, .error e⟩ := by
  simp only [chooseTarget, resolved, source, claimAnswer_eq_none_iff.mpr available, late]

theorem chooseTarget_chosen (available : availableFor pre (s.source i) = true)
    (late : lateRefusal pre q s x i = none) :
    chooseTarget pre q s = ⟨drawTicket s, .ok { ticket := s.xfr.counter, target := x, source := i }⟩ := by
  simp only [chooseTarget, resolved, source, claimAnswer_eq_none_iff.mpr available, late]

/-- R44: a choice that fails past the target input has used its ticket. -/
theorem chooseTarget_fails
    (unfit : ¬ (availableFor pre (s.source i) = true ∧ lateRefusal pre q s x i = none)) :
    ∃ e, chooseTarget pre q s = ⟨drawTicket s, .error e⟩ := by
  by_cases available : availableFor pre (s.source i) = true
  · obtain ⟨e, late⟩ := Option.ne_none_iff_exists'.mp fun late => unfit ⟨available, late⟩
    exact ⟨e, chooseTarget_late resolved source available late⟩
  · obtain ⟨e, answer⟩ := Option.ne_none_iff_exists'.mp (claimAnswer_eq_none_iff.not.mpr available)
    exact ⟨e, chooseTarget_unclaimed resolved source answer⟩

end

end Sys2Proof.Machine
end

section
/-! The admission of a transfer (R41 to R45) and its refusals in the order of the checks (R42 to R44). -/

namespace Sys2Proof.Machine

/-! ## A request that finds no transfer in flight -/

section
variable {q : Ask} {s : State}

theorem definitionRefusal_undefined (h : (s.supply q.supply).defined = false) :
    definitionRefusal q s = some .unknown := by
  simp [definitionRefusal, h]

theorem definitionRefusal_fault (defined : (s.supply q.supply).defined = true)
    (fault : (s.supply q.supply).state = .fault) : definitionRefusal q s = some .state := by
  simp [definitionRefusal, defined, fault]

theorem definitionRefusal_none (defined : (s.supply q.supply).defined = true)
    (sound : (s.supply q.supply).state ≠ .fault) : definitionRefusal q s = none := by
  simp [definitionRefusal, defined, sound]

theorem admitOrPreempt_refused {e : Status} (refusal : definitionRefusal q s = some e) :
    admitOrPreempt q s = ⟨s, .refused e⟩ := by
  simp only [admitOrPreempt, refusal]

theorem mayPreempt_iff {t : Transfer} :
    mayPreempt q t = true ↔ (t.phase = .syncWait ∨ t.phase = .sync) ∧ t.priority < q.priority := by
  simp [mayPreempt]

variable (defined : (s.supply q.supply).defined = true) (sound : (s.supply q.supply).state ≠ .fault)
include defined sound

/-- R42 step 5: a transfer in flight that the request may not pre-empt. -/
theorem admitOrPreempt_busy {t : Transfer} (flies : flying s q.supply t)
    (stands : (t.phase ≠ .syncWait ∧ t.phase ≠ .sync) ∨ q.priority ≤ t.priority) :
    admitOrPreempt q s = ⟨s, .refused .busy⟩ := by
  have barred : ¬ mayPreempt q t = true := by
    rw [mayPreempt_iff]
    rintro ⟨phase, below⟩
    rcases stands with ⟨wait, sync⟩ | above
    · exact phase.elim wait sync
    · exact absurd below (not_lt.mpr above)
  simp only [admitOrPreempt, definitionRefusal_none defined sound, (flying_iff s q.supply t).mp flies, if_neg barred]

theorem admitOrPreempt_preempts {t : Transfer} (flies : flying s q.supply t)
    (phase : t.phase = .syncWait ∨ t.phase = .sync) (below : t.priority < q.priority) :
    admitOrPreempt q s = preempt q t s := by
  simp only [admitOrPreempt, definitionRefusal_none defined sound, (flying_iff s q.supply t).mp flies,
    if_pos (mayPreempt_iff.mpr ⟨phase, below⟩)]

variable (idle : ∀ t, ¬ flying s q.supply t)
include idle

theorem admitOrPreempt_idle : admitOrPreempt q s = admission q s := by
  simp only [admitOrPreempt, definitionRefusal_none defined sound, inFlight_eq_none idle]

theorem judge_idle : judge q s = chooseTarget none q s := by
  have early : earlyRefusal q s = none := by simp [earlyRefusal, defined, sound, inFlight_eq_none idle]
  simp only [judge, early]

theorem admission_refused {u : State} {e : Status} (chosen : chooseTarget none q s = ⟨u, .error e⟩) :
    admission q s = ⟨u, .refused e⟩ := by
  simp only [admission, judge_idle defined sound idle, chosen]

/-- R45 step 10: the claim is set, the slot written, the supply in TRANSFER, and the first phase entered. -/
theorem admission_accepted {k : Nat} {x : Input} {i : SourceNo}
    (chosen : chooseTarget none q s = ⟨drawTicket s, .ok { ticket := k, target := x, source := i }⟩)
    (ready : available (s.source i) = true) :
    admission q s = ⟨beginTransfer q { ticket := k, target := x, source := i } none
        (setSource i { s.source i with claim := some k } (drawTicket s)),
      .accepted k x (modeInEffect (s.supply q.supply).state q.mode)⟩ := by
  have granted : claimAnswer none ((drawTicket s).source i) = none := claimAnswer_available ready
  simp only [admission, judge_idle defined sound idle, chosen, claimAndBegin, granted]
  rfl

end

/-! ## What an admission writes (R45) -/

theorem modeInEffect_eq {st : SupplyState} {m : ModeReq} {eff : ModeEff} (h : st = .dark ∧ eff = .closeOnly ∨
    st = .tripped ∧ eff = .break ∨ st = .live ∧ eff = (if m = .break then .break else .closed)) :
    modeInEffect st m = eff := by
  rcases h with ⟨rfl, rfl⟩ | ⟨rfl, rfl⟩ | ⟨rfl, rfl⟩
  · rfl
  · rfl
  · cases m <;> rfl

theorem beginTransfer_eq (q : Ask) (k : Chosen) (trip : Option Input) (s : State) : beginTransfer q k trip s =
    enterFirst q.supply (modeInEffect (s.supply q.supply).state q.mode)
      (setSupply q.supply { s.supply q.supply with state := .transfer, ticket := some k.ticket,
                                                   restoreWaiting := false, lastRestore := none }
        (setSlot q.supply (some
          { ticket := k.ticket, origin := (s.supply q.supply).closed,
            originSource := (s.supply q.supply).closed.bind fun y => (s.input q.supply y).source,
            originTripped := decide ((s.supply q.supply).state = .tripped), target := k.target,
            targetSource := k.source, modeReq := q.mode, mode := modeInEffect (s.supply q.supply).state q.mode,
            priority := q.priority, originator := q.originator, phase := .syncWait, phaseTimer := none,
            syncTimer := none, syncChannel := none, overlapExpired := false, abortRequested := false,
            pendingResult := none, excursion := false, startTime := s.stl.clock.time, endTime := none,
            result := none, tripReport := trip }) s)) := rfl

/-! ## The request of a station (R41, R42) -/

section
variable {rq : Request} {n : StationNo} {st : Station} {s u : State} {m : SupplyNo} {target mode priority p : Nat}
  {a : Ask}

/-- R42 step 1. -/
theorem stationPriority_eq (st : Station) (p : Nat) :
    stationPriority st p = if st.role = .stage then min p 5 else p := by
  simp [stationPriority]

theorem stationAsk_eq {x : Option Input} {mr : ModeReq} (named : targetOf? target = some x)
    (moded : modeReqOf? mode = some mr) (range : p ≤ 7) : stationAsk (numberOf m) target mode p n =
      some { supply := m, target := x, mode := mr, priority := p, originator := .station n false } := by
  simp [stationAsk, named, moded, range]

theorem targetOf?_inputCode (x : Input) : targetOf? (inputCode x) = some (some x) := by cases x <;> rfl

variable (taken : Taken rq kindTransfer n st s) (own : st.role = .stage → st.bound = some m)
include taken own

/-- R41, R42: TRANSFER of a station that may name the supply, by what XFR makes of it. -/
theorem exec_transfer {status : Status} {body : Body}
    (owner : ownerTransfer (numberOf m) target mode priority n (requester rq st s) (heard rq n s) = ⟨u, status, body⟩) :
    exec (.transfer rq (numberOf m) target mode priority) s = replied rq kindTransfer n status body u :=
  request_done rq kindTransfer _ _ n st s taken
    (fun stage => ownSupply_numberOf (st := requester rq st s) (own stage) _) u status body owner

variable (lowered : stationPriority st priority = p) (asks : stationAsk (numberOf m) target mode p n = some a)
include lowered asks

theorem exec_transfer_accepted {k : Nat} {x : Input} {e : ModeEff}
    (admitted : admitOrPreempt a (heard rq n s) = ⟨u, .accepted k x e⟩) :
    exec (.transfer rq (numberOf m) target mode priority) s =
      replied rq kindTransfer n .accepted (.accepted k x e) u := by
  have lowered' : stationPriority (requester rq st s) priority = p := lowered
  refine exec_transfer taken own ?_
  simp only [ownerTransfer, lowered', asks, admitted]

theorem exec_transfer_refused {e : Status} (refused : admitOrPreempt a (heard rq n s) = ⟨u, .refused e⟩) :
    exec (.transfer rq (numberOf m) target mode priority) s = replied rq kindTransfer n e .empty u := by
  have lowered' : stationPriority (requester rq st s) priority = p := lowered
  refine exec_transfer taken own ?_
  simp only [ownerTransfer, lowered', asks, refused, refuse]

end

end Sys2Proof.Machine
end

section
/-! Admission (R41 to R45): a request that meets every check. -/

namespace Sys2Proof.Machine

/-- R42 to R44: a request that meets every check, with no transfer in flight, for the target `x` of source `i`. -/
structure Admissible (q : Ask) (x : Input) (i : SourceNo) (s : State) : Prop where
  defined : (s.supply q.supply).defined = true
  sound : (s.supply q.supply).state ≠ .fault
  idle : ∀ t, ¬ flying s q.supply t
  resolved : resolveTarget none q s = .ok x
  source : (s.input q.supply x).source = some i
  ready : available (s.source i) = true
  late : lateRefusal none q s x i = none

/-- STN's hearing of a request changes nothing that the checks look at. -/
theorem Admissible.heard {q : Ask} {x : Input} {i : SourceNo} {s : State} (h : Admissible q x i s) (rq : Request)
    (n : StationNo) : Admissible q x i (heard rq n s) :=
  ⟨h.defined, h.sound, h.idle, h.resolved, h.source, h.ready, h.late⟩

/-- R45: what is made of it. -/
theorem Admissible.admission_eq {q : Ask} {x : Input} {i : SourceNo} {s : State} (h : Admissible q x i s) :
    admission q s = ⟨beginTransfer q { ticket := s.xfr.counter, target := x, source := i } none
        (setSource i { s.source i with claim := some s.xfr.counter } (drawTicket s)),
      .accepted s.xfr.counter x (modeInEffect (s.supply q.supply).state q.mode)⟩ :=
  admission_accepted h.defined h.sound h.idle (chooseTarget_chosen h.resolved h.source h.ready h.late) h.ready

/-- R43: BEST takes the first input that will do, and a named target is taken where it is fit. -/
theorem resolveTarget_found {q : Ask} {s : State} {x : Input} {i : SourceNo}
    (source : (s.input q.supply x).source = some i) (faultless : (s.input q.supply x).faulted = false)
    (opened : (s.supply q.supply).closed ≠ some x) (voltage : (s.input q.supply x).voltage = true)
    (ready : available (s.source i) = true) (room : 7 ≤ q.priority ∨ withinCapacity s q.supply i = true)
    (chosen : q.target = some x ∨ (q.target = none ∧ ∀ y j, inputCode y < inputCode x →
      (s.supply q.supply).closed ≠ some y → (s.input q.supply y).source = some j →
      (s.input q.supply y).faulted = false → (s.input q.supply y).voltage = true → available (s.source j) = true →
      ¬ 7 ≤ q.priority ∧ withinCapacity s q.supply j = false)) : resolveTarget none q s = .ok x := by
  rcases chosen with named | ⟨best, first⟩
  · exact resolveTarget_named named source faultless opened
  · have fits := bestCandidate_iff.mpr ⟨opened, faultless, voltage, i, source, ready, room⟩
    refine resolveTarget_best best fits fun y before => Bool.eq_false_iff.mpr fun fits => ?_
    obtain ⟨openedY, faultlessY, voltageY, j, sourceY, readyY, roomY⟩ := bestCandidate_iff.mp fits
    obtain ⟨low, full⟩ := first y j before openedY sourceY faultlessY voltageY readyY
    exact roomY.elim low (by simp [full])

/-- Settles O41: the checks are met one by one, and the admission writes what R45 gives. -/
theorem transferIsAdmitted : Obligations.TransferIsAdmitted := by
  refine ⟨fun s m x i mode target p eff range defined idle source faultless opened voltage ready chosen entry shown
    room hired begun hbegun => ?admitted, fun s m i h hired => withinCapacity_iff hired⟩
  have mode_eq : modeInEffect (s.supply m).state mode = eff := modeInEffect_eq entry
  have top : p = 7 ↔ 7 ≤ p := ⟨fun h => h.ge, fun h => le_antisymm range h⟩
  have fits : 7 ≤ p ∨ withinCapacity s m i = true := by
    obtain ⟨h, is_hired⟩ := Option.isSome_iff_exists.mp hired
    exact room.imp top.mp fun within => (withinCapacity_iff is_hired).mpr (within h is_hired)
  have admissible (o : Originator) :
      Admissible { supply := m, target := target, mode := mode, priority := p, originator := o } x i s := by
    refine ⟨defined, ?_, idle, ?_, source, ready, ?_⟩
    · rcases entry with ⟨h, -⟩ | ⟨h, -⟩ | ⟨h, -⟩ <;> simp [h]
    · exact resolveTarget_found source faultless opened voltage ready fits (by simpa only [← top] using chosen)
    · refine lateRefusal_eq_none_iff.mpr ⟨voltage, ?_, fits⟩
      rcases shown with h | h | h | h
      · exact .inl h
      · exact .inr (.inl ⟨rfl, h⟩)
      · exact .inr (.inr (.inl h))
      · exact .inr (.inr (.inr h.ge))
  refine ⟨fun rq n st code target' priority taken own moded named lowered => ?station, fun o a ha => ?inside⟩
  case inside =>
    subst ha
    have h := admissible o
    refine ⟨?_, admitOrPreempt_idle h.defined h.sound h.idle⟩
    rw [h.admission_eq, beginTransfer_eq, hbegun, ← mode_eq]
    rfl
  case station =>
    have named' : targetOf? target' = some target := by
      rw [named]
      cases target with
      | none => rfl
      | some y => exact targetOf?_inputCode y
    have h := (admissible (.station n false)).heard rq n
    have lowered' : stationPriority st priority = p := by rw [stationPriority_eq, lowered]
    refine exec_transfer_accepted taken own lowered' (stationAsk_eq named' moded range) ?_
    rw [admitOrPreempt_idle h.defined h.sound h.idle, h.admission_eq, beginTransfer_eq, hbegun, ← mode_eq]
    rfl

end Sys2Proof.Machine
end

section
/-! The refusals of a TRANSFER in the order of its checks (R42 to R44), and pre-emption (R42 step 5, R46, R59). -/

namespace Sys2Proof.Machine

/-! ## The checks of a target (R43, R44) -/

/-- R43: BEST finds no input that will do. -/
theorem bestCandidate_none {q : Ask} {s : State} (nothing : ∀ y j, (s.input q.supply y).source = some j →
      (s.input q.supply y).faulted = false → (s.supply q.supply).closed ≠ some y →
      (s.input q.supply y).voltage = true →
      available (s.source j) = false ∨ (q.priority < 7 ∧ withinCapacity s q.supply j = false)) (y : Input) :
    bestCandidate none q s y = false := by
  refine Bool.eq_false_iff.mpr fun fits => ?_
  obtain ⟨opened, faultless, voltage, j, source, ready, room⟩ := bestCandidate_iff.mp fits
  rcases nothing y j source faultless opened voltage with unready | ⟨low, full⟩
  · exact absurd ready (Bool.eq_false_iff.mp unready)
  · exact room.elim (not_le.mpr low) (Bool.eq_false_iff.mp full)

/-- R44: a source unclaimed, out of REFUEL and unreserved, that is not available, or an input without voltage. -/
theorem chooseTarget_noAlternative {pre : Option Nat} {q : Ask} {s : State} {x : Input} {i : SourceNo}
    (resolved : resolveTarget pre q s = .ok x) (source : (s.input q.supply x).source = some i)
    (unclaimed : (s.source i).claim = none ∨ (s.source i).claim = pre) (state : (s.source i).state ≠ .refuel)
    (unreserved : (s.source i).reservation = none)
    (fails : availableFor pre (s.source i) = false ∨ (s.input q.supply x).voltage = false) :
    chooseTarget pre q s = ⟨drawTicket s, .error .noAlternative⟩ := by
  by_cases ready : availableFor pre (s.source i) = true
  · have absent := fails.resolve_left (by simp [ready])
    exact chooseTarget_late resolved source ready (lateRefusal_noVoltage absent)
  · refine chooseTarget_unclaimed resolved source ?_
    rw [claimAnswer_unheld unclaimed state unreserved, if_neg ready]

/-! ## The request of a CONSOLE station (R42) -/

/-- R42: what a station of no STAGE role asks of XFR, tied to the model by `stationAsk_eq`. -/
abbrev askOf (n : StationNo) (m : SupplyNo) (y : Option Input) (mode : ModeReq) (p : Nat) : Ask :=
  { supply := m, target := y, mode := mode, priority := p, originator := .station n false }

section
variable {rq : Request} {n : StationNo} {st : Station} {s u : State} {m : SupplyNo} {y : Option Input} {mode : ModeReq}
  {target code p : Nat}
variable (taken : Taken rq kindTransfer n st s) (console : st.role = .console) (moded : modeReqOf? code = some mode)
  (range : p ≤ 7) (named : targetOf? target = some y)
include taken console moded range named

theorem exec_console_accepted {k : Nat} {x : Input} {e : ModeEff}
    (admitted : admitOrPreempt (askOf n m y mode p) (heard rq n s) = ⟨u, .accepted k x e⟩) :
    exec (.transfer rq (numberOf m) target code p) s = replied rq kindTransfer n .accepted (.accepted k x e) u :=
  exec_transfer_accepted taken (by simp [console]) (by simp [stationPriority_eq, console])
    (stationAsk_eq named moded range) admitted

theorem exec_console_refused {e : Status}
    (refused : admitOrPreempt (askOf n m y mode p) (heard rq n s) = ⟨u, .refused e⟩) :
    exec (.transfer rq (numberOf m) target code p) s = replied rq kindTransfer n e .empty u :=
  exec_transfer_refused taken (by simp [console]) (by simp [stationPriority_eq, console])
    (stationAsk_eq named moded range) refused

/-- R43, R44: refused for want of a target, with no transfer in flight. -/
theorem exec_console_unchosen {e : Status} (defined : (s.supply m).defined = true)
    (sound : (s.supply m).state ≠ .fault) (idle : ∀ t, ¬ flying s m t)
    (chosen : chooseTarget none (askOf n m y mode p) (heard rq n s) = ⟨u, .error e⟩) :
    exec (.transfer rq (numberOf m) target code p) s = replied rq kindTransfer n e .empty u :=
  exec_console_refused taken console moded range named
    ((admitOrPreempt_idle defined sound idle).trans (admission_refused defined sound idle chosen))

end

/-! ## Pre-emption (R42 step 5, R46) -/

section
variable {q : Ask} {s : State} {t : Transfer}

theorem preempt_refused {u : State} {e : Status} (chosen : chooseTarget (some t.ticket) q s = ⟨u, .error e⟩) :
    preempt q t s = ⟨u, .refused .busy⟩ := by
  simp only [preempt, chosen]

/-- R46: the pre-empted transfer ends ABORTED, and its supply is not derived. -/
theorem endPreempted_flying {n : SupplyNo} (flies : flying s n t) : endPreempted n s =
    tellOriginator n t .aborted (reportEnd n t .aborted (releaseSteps n t .aborted s)) := by
  rw [tellOriginator_failed (by simp), endPreempted, (flying_iff s n t).mp flies]

/-- R46: the claim passes, the old transfer ends, and the new one begins. -/
theorem preempt_accepted {x : Input} {i : SourceNo} (flies : flying s q.supply t)
    (chosen : chooseTarget (some t.ticket) q s =
      ⟨drawTicket s, .ok { ticket := s.xfr.counter, target := x, source := i }⟩)
    (free : availableFor (some t.ticket) (s.source i) = true) :
    preempt q t s = ⟨beginTransfer q { ticket := s.xfr.counter, target := x, source := i } t.tripReport
        (tellOriginator q.supply t .aborted (reportEnd q.supply t .aborted (releaseSteps q.supply t .aborted
          (setSource i { s.source i with claim := some s.xfr.counter } (drawTicket s))))),
      .accepted s.xfr.counter x (modeInEffect .live q.mode)⟩ := by
  have granted : claimAnswer (some t.ticket) ((drawTicket s).source i) = none := claimAnswer_eq_none_iff.mpr free
  have flies' : flying (setSource i { s.source i with claim := some s.xfr.counter } (drawTicket s)) q.supply t := flies
  simp only [preempt, chosen, granted]
  rw [← endPreempted_flying flies']
  rfl

end

/-- R45: a supply whose transfer is being pre-empted counts as LIVE. -/
theorem modeInEffect_transfer (m : ModeReq) :
    modeInEffect .transfer m = if m = .break then .break else .closed := by
  cases m <;> rfl

/-- Settles O42: each check in its order, and a pre-emption that passes them, or is BUSY. -/
theorem transferIsRefused : Obligations.TransferIsRefused := by
  refine ⟨fun rq n st s m x mode code p taken console moded range => ?refusals,
    fun rq n st s u m target mode y mr p a taken console named moded range ha => ?outcomes,
    fun s a n t x i hn flies defined transfer => ?preemption⟩
  case outcomes =>
    subst ha
    exact ⟨fun k x e => exec_console_accepted taken console moded range named,
      fun e => exec_console_refused taken console moded range named⟩
  case refusals =>
    have refused {u : State} {e : Status} := exec_console_refused (m := m) (u := u) (e := e) taken console moded range
      (targetOf?_inputCode x)
    refine ⟨fun undefined => refused (admitOrPreempt_refused (definitionRefusal_undefined undefined)),
      fun defined fault => refused (admitOrPreempt_refused (definitionRefusal_fault defined fault)),
      fun defined sound => ⟨fun t flies stands => refused (admitOrPreempt_busy defined sound flies stands),
        fun idle => ?checks⟩⟩
    have unchosen {u : State} {e : Status} := exec_console_unchosen (u := u) (e := e) taken console moded range
      (targetOf?_inputCode x) defined sound idle
    refine ⟨fun unfit => unchosen (chooseTarget_unresolved (resolveTarget_unfit rfl unfit)),
      fun nothing => exec_console_unchosen (y := none) taken console moded range rfl defined sound idle
        (chooseTarget_unresolved (resolveTarget_nothing rfl (bestCandidate_none nothing))),
      fun i source faultless opened => ?late⟩
    have resolved : resolveTarget none (askOf n m (some x) mode p) (heard rq n s) = .ok x :=
      resolveTarget_named rfl source faultless opened
    refine ⟨fun claimed => unchosen (chooseTarget_unclaimed resolved source (claimAnswer_lost claimed claimed)),
      fun unclaimed => ⟨fun held =>
          unchosen (chooseTarget_unclaimed resolved source (claimAnswer_state (.inl unclaimed) held)),
        fun state unreserved => ⟨fun fails =>
            unchosen (chooseTarget_noAlternative resolved source (.inl unclaimed) state unreserved fails),
          fun ready voltage => ⟨fun held live mode low =>
              unchosen (chooseTarget_late resolved source ready (lateRefusal_showHeld voltage held live mode low)),
            fun shown low full =>
              unchosen (chooseTarget_late resolved source ready (lateRefusal_overload voltage ?free low full))⟩⟩⟩⟩
    case free => exact shown.imp_right (.imp_left fun state => ⟨rfl, state⟩)
  case preemption =>
    subst hn
    have sound : (s.supply a.supply).state ≠ .fault := by simp [transfer]
    refine ⟨admitOrPreempt_busy defined sound flies, fun phase below free does hfree hdoes => ?_⟩
    rw [admitOrPreempt_preempts defined sound flies phase below]
    have free_iff (j : SourceNo) : availableFor (some t.ticket) (s.source j) = true ↔ free j :=
      (availableFor_iff _ _).trans (hfree j).symm
    have does_iff (y : Input) : bestCandidate (some t.ticket) a s y = true ↔ does y := by
      simp only [bestCandidate_iff, free_iff, hdoes]
    have does_not {y : Input} (h : ¬ does y) : bestCandidate (some t.ticket) a s y = false :=
      Bool.eq_false_iff.mpr ((does_iff y).not.mpr h)
    refine ⟨fun best nothing => preempt_refused (chooseTarget_unresolved
        (resolveTarget_nothing best fun y => does_not (nothing y))),
      fun target unfit => preempt_refused (chooseTarget_unresolved (resolveTarget_unfit target unfit)),
      fun chosen source faultless opened fits hfits => ?_⟩
    have resolved : resolveTarget (some t.ticket) a s = .ok x := by
      rcases chosen with target | ⟨best, good, first⟩
      · exact resolveTarget_named target source faultless opened
      · exact resolveTarget_best best ((does_iff x).mpr good) fun y before => does_not (first y before)
    have fits_iff : lateRefusal (some t.ticket) a s x i = none ↔ fits := by
      simp [lateRefusal_eq_none_iff, hfits]
    refine ⟨fun fails => ?busy, fun free_i fits_i eff w heff hw v hv kept => ?granted⟩
    case busy =>
      rw [← free_iff, ← fits_iff] at fails
      obtain ⟨e, chosen⟩ := chooseTarget_fails resolved source fails
      exact preempt_refused chosen
    case granted =>
      have ready := (free_iff i).mpr free_i
      rw [preempt_accepted flies (chooseTarget_chosen resolved source ready (fits_iff.mpr fits_i)) ready, ← hw,
        reportEnd, ← hv, beginTransfer_eq, kept, modeInEffect_transfer, ← heff]
      congr 2
      exact (modeInEffect_transfer a.mode).trans heff.symm

end Sys2Proof.Machine
end

section
/-! The three figures of a valid measurement, and the limits of the in-step test (R71). -/

namespace Sys2Proof.Machine

section
variable {periodO periodT dt voltO voltT : Nat}

/-- R70: a target crossing less than 1.5 target periods ago makes an angle below one and a half turns. -/
theorem angle_lt (recent : 2 * dt < 3 * periodT) : dt * 3600 / periodT < 5400 :=
  Nat.div_lt_of_lt_mul (by omega)

theorem figures_phase_lag (h : dt * 3600 / periodT ≤ 1800) :
    (figures periodO periodT dt voltO voltT).phase = ((dt * 3600 / periodT : Nat) : Int) :=
  if_neg (not_lt.mpr h)

/-- R71: an angle past the half turn is counted back from a whole one. -/
theorem figures_phase_wraps (h : 1800 < dt * 3600 / periodT) :
    (figures periodO periodT dt voltO voltT).phase = ((dt * 3600 / periodT : Nat) : Int) - 3600 :=
  if_pos h

theorem figures_phase_bounds (recent : 2 * dt < 3 * periodT) :
    -1800 ≤ (figures periodO periodT dt voltO voltT).phase ∧
      (figures periodO periodT dt voltO voltT).phase ≤ 1800 := by
  have below := angle_lt recent
  rcases le_or_gt (dt * 3600 / periodT) 1800 with lag | wraps
  · rw [figures_phase_lag lag]
    generalize dt * 3600 / periodT = angle at lag
    omega
  · rw [figures_phase_wraps wraps]
    generalize dt * 3600 / periodT = angle at below wraps
    omega

theorem figures_volts_of_le (h : voltO ≤ voltT) :
    (figures periodO periodT dt voltO voltT).volts = (voltT - voltO) * 1000 / voltO := by
  simp [figures, h]

theorem figures_volts_of_ge (h : voltT ≤ voltO) :
    (figures periodO periodT dt voltO voltT).volts = (voltO - voltT) * 1000 / voltO := by
  simp [figures, h]

end

/-- R71: slip and phase are judged by their size, whichever way they lie. -/
theorem withinLimits_iff (l : SyncLimits) (m : Measurement) : withinLimits l m = true ↔
    (m.slip ≤ (l.slip : Int) ∧ -(l.slip : Int) ≤ m.slip) ∧
      (m.phase ≤ (l.phase : Int) ∧ -(l.phase : Int) ≤ m.phase) ∧ m.volts ≤ l.volts := by
  simp only [withinLimits, Bool.and_eq_true, decide_eq_true_eq]
  omega

/-- Settles O49: each figure by its equation, the phase on either side of the half turn. -/
theorem measurementFigures : Obligations.MeasurementFigures := by
  rintro periodO periodT dt voltO voltT - - - - recent - m rfl
  obtain ⟨low, high⟩ := figures_phase_bounds (periodO := periodO) (voltO := voltO) (voltT := voltT) recent
  exact ⟨rfl, figures_phase_lag, figures_phase_wraps, low, high, figures_volts_of_le, figures_volts_of_ge,
    fun l => withinLimits_iff l _⟩

end Sys2Proof.Machine
end

section
/-! The synchronism channels (R69, R70, R72): when a measurement is valid, what a crossing makes of a channel, and
SET SYNC LIMITS (R73). -/

namespace Sys2Proof.Machine

/-! ## Valid measurements (R70) -/

section
variable {s : State} {k : SyncChan} {time periodO : Nat}

/-- R70 condition 4: the voltage that a source last reported, where it is not stale. -/
theorem freshVoltage_eq_some_iff {o : Option SourceNo} {v : Nat} : freshVoltage s o = some v ↔
    ∃ i tel, o = some i ∧ (s.source i).stale = false ∧ (s.source i).telemetry = some tel ∧ tel.voltage = v := by
  cases o with
  | none => simp [freshVoltage]
  | some i => cases stale : (s.source i).stale <;> simp [freshVoltage, stale]

theorem measure_of_figures {periodT last voltO voltT : Nat} (period : k.lastPeriod = some periodT)
    (crossing : k.lastCrossing = some last) (origin : freshVoltage s k.originSource = some voltO)
    (target : freshVoltage s k.targetSource = some voltT) : measure s k time periodO =
      if k.originCount = 8 ∧ k.targetCount = 8 ∧ (14286 ≤ periodO ∧ periodO ≤ 25000) ∧
          (14286 ≤ periodT ∧ periodT ≤ 25000) ∧ 2 * (time - last) < 3 * periodT ∧ voltO ≠ 0 then
        some (figures periodO periodT (time - last) voltO voltT)
      else none := by
  simp only [measure, period, crossing, origin, target, qualified_eq, decide_eq_true_eq]

/-- R70: without a target crossing, or without a fresh voltage on either side, a measurement is invalid. -/
theorem measure_eq_none (h : k.lastPeriod = none ∨ k.lastCrossing = none ∨ freshVoltage s k.originSource = none ∨
    freshVoltage s k.targetSource = none) : measure s k time periodO = none := by
  unfold measure
  split
  · simp_all
  · rfl

end

/-! ## Crossings (R69, R72) -/

theorem countAfter_eq (count period : Nat) :
    countAfter count period = if 14286 ≤ period ∧ period ≤ 25000 then min 8 (count + 1) else 0 := by
  simp only [countAfter, qualified_eq, decide_eq_true_eq]

/-- R72: the run goes on at a measurement within the limits, and starts anew at any other. -/
theorem runAfter_eq {l : SyncLimits} {before run : Nat} {m : Option Measurement}
    (within : ∀ g, m = some g → withinLimits l g = true → run = before + 1)
    (outside : ∀ g, m = some g → withinLimits l g = false → run = 0) (invalid : m = none → run = 0) :
    runAfter l before m = run := by
  cases m with
  | none => exact (invalid rfl).symm
  | some g =>
    cases judged : withinLimits l g with
    | true => simp [runAfter, judged, within g rfl judged]
    | false => simp [runAfter, judged, outside g rfl judged]

section
variable {s : State} {n : SupplyNo} {x : Input} {time period : Nat} {k : SyncChan}

/-- R69: a channel that is not measuring, or that serves another supply or other inputs, is left as it is. -/
theorem channelCrossing_ignored
    (other : k.state ≠ .measuring ∨ k.supply ≠ some n ∨ (k.target ≠ some x ∧ k.origin ≠ some x)) :
    channelCrossing s n x time period k = k := by
  rcases other with state | supply | ⟨target, origin⟩
  · simp [channelCrossing, state]
  · simp [channelCrossing, supply]
  · simp [channelCrossing, target, origin]

theorem channelCrossing_target (state : k.state = .measuring) (supply : k.supply = some n)
    (target : k.target = some x) : channelCrossing s n x time period k = targetCrossing k time period := by
  simp [channelCrossing, state, supply, target]

theorem channelCrossing_origin (state : k.state = .measuring) (supply : k.supply = some n)
    (origin : k.origin = some x) (other : k.target ≠ some x) :
    channelCrossing s n x time period k = originCrossing s k time period := by
  simp [channelCrossing, state, supply, origin, other]

theorem syncCrossing_eq {channels : Vector SyncChan 4}
    (each : ∀ c, look channels c = channelCrossing s n x time period (s.sync c)) :
    syncCrossing n x time period s = { s with syn := { s.syn with channels := channels } } := by
  have same : (tab fun c => channelCrossing s n x time period (s.sync c)) = channels :=
    table_ext fun c => by rw [look_tab, each c]
  rw [syncCrossing, same]

end

/-! ## SET SYNC LIMITS (R73) -/

theorem settingOk_iff {low high : Nat} {o : Option Nat} :
    settingOk low high o = true ↔ ∀ v, o = some v → low ≤ v ∧ v ≤ high := by
  cases o <;> simp [settingOk]

theorem settingOk_eq_false {low high : Nat} {o : Option Nat} (h : ∃ v, o = some v ∧ (v < low ∨ high < v)) :
    settingOk low high o = false := by
  obtain ⟨v, rfl, outside⟩ := h
  simp only [settingOk, Bool.and_eq_false_iff, decide_eq_false_iff_not]
  omega

theorem limitsDiffer_iff (l m : SyncLimits) :
    limitsDiffer l m = true ↔ m.slip ≠ l.slip ∨ m.phase ≠ l.phase ∨ m.volts ≠ l.volts := by
  simp only [limitsDiffer, Bool.or_eq_true, bne_iff_ne, or_assoc]
  exact or_congr ne_comm (or_congr ne_comm ne_comm)

/-- R73: the channels once the limits `l` are in force. -/
def channelsUnder (l : SyncLimits) (s : State) : Vector SyncChan 4 :=
  if limitsDiffer s.syn.limits l then (resetRuns s).syn.channels else s.syn.channels

theorem look_channelsUnder (l : SyncLimits) (s : State) (c : SyncNo) : look (channelsUnder l s) c =
    if (l.slip ≠ s.syn.limits.slip ∨ l.phase ≠ s.syn.limits.phase ∨ l.volts ≠ s.syn.limits.volts) ∧
        (s.sync c).state = .measuring then { s.sync c with run := 0 }
    else s.sync c := by
  simp only [← limitsDiffer_iff]
  by_cases differ : limitsDiffer s.syn.limits l = true
  · simp [channelsUnder, differ, resetRuns]
  · simp [channelsUnder, differ, State.sync]

section
variable {slip phase volts timeout : Option Nat} {n : StationNo} {st : Station} {s : State}

theorem ownerSetLimits_inRange (slipOk : settingOk 50 500 slip = true) (phaseOk : settingOk 20 200 phase = true)
    (voltsOk : settingOk 10 100 volts = true) (timeoutOk : settingOk 5 120 timeout = true) {l : SyncLimits}
    (new : newLimits slip phase volts timeout s.syn.limits = l) : ownerSetLimits slip phase volts timeout n st s =
      ⟨{ s with syn := { s.syn with limits := l, channels := channelsUnder l s } }, .ok, .limits l⟩ := by
  simp only [ownerSetLimits, slipOk, phaseOk, voltsOk, timeoutOk, Bool.and_self, if_true, new]
  unfold channelsUnder
  split <;> rfl

theorem ownerSetLimits_range (outside : (∃ v, slip = some v ∧ (v < 50 ∨ 500 < v)) ∨
      (∃ v, phase = some v ∧ (v < 20 ∨ 200 < v)) ∨ (∃ v, volts = some v ∧ (v < 10 ∨ 100 < v)) ∨
      (∃ v, timeout = some v ∧ (v < 5 ∨ 120 < v))) :
    ownerSetLimits slip phase volts timeout n st s = refuse .range s := by
  rcases outside with h | h | h | h <;> simp [ownerSetLimits, settingOk_eq_false h]

end

/-- Settles O50: a crossing by the part it plays in a channel, a request by the ranges of its settings, and a measurement
by the figures it finds. -/
theorem channelsTakeCrossings : Obligations.ChannelsTakeCrossings := by
  refine ⟨fun s n x time period ch => syncCrossing_eq,
    fun s n x time period k => ⟨channelCrossing_ignored, fun state supply target => ?target,
      fun state supply origin other count hcount run m hm within outside invalid => ?origin⟩,
    fun rq n st s slip phase volts timeout l taken hl => ⟨fun slipOk phaseOk voltsOk timeoutOk => ?limits,
      fun outside => ?range⟩,
    fun s k time periodO fresh hfresh => ?measure⟩
  case target => rw [channelCrossing_target state supply target, targetCrossing, countAfter_eq]
  case origin =>
    have counted : countAfter k.originCount period = count := (countAfter_eq _ _).trans hcount.symm
    rw [channelCrossing_origin state supply origin other]
    simp only [originCrossing, counted, ← hm, runAfter_eq within outside invalid]
  case limits =>
    have written := ownerSetLimits_inRange (n := n) (st := requester rq st s) (s := heard rq n s)
      (settingOk_iff.mpr slipOk) (settingOk_iff.mpr phaseOk) (settingOk_iff.mpr voltsOk) (settingOk_iff.mpr timeoutOk)
      hl.symm
    exact ⟨channelsUnder l (heard rq n s), look_channelsUnder l (heard rq n s),
      request_done _ _ _ _ _ _ _ taken (fun _ => rfl) _ _ _ written⟩
  case range => exact request_anyObject taken (ownerSetLimits_range outside)
  case measure =>
    have fresh_iff (o : Option SourceNo) (v : Nat) : freshVoltage s o = some v ↔ fresh o v :=
      freshVoltage_eq_some_iff.trans (hfresh o v).symm
    have unfresh {o : Option SourceNo} (h : ∀ v, ¬ fresh o v) : freshVoltage s o = none :=
      Option.eq_none_iff_forall_ne_some.mpr fun v => (fresh_iff o v).not.mpr (h v)
    refine ⟨fun periodT last voltO voltT period crossing origin target valid hvalid => ?_, fun missing => ?_⟩
    · rw [measure_of_figures period crossing ((fresh_iff _ _).mpr origin) ((fresh_iff _ _).mpr target)]
      exact ⟨fun holds => if_pos (hvalid.mp holds), fun fails => if_neg (hvalid.not.mp fails)⟩
    · exact measure_eq_none (missing.imp_right (Or.imp_right (Or.imp unfresh unfresh)))

end Sys2Proof.Machine
end

section
/-! The burn rate along the fuel curve (R80). -/

namespace Sys2Proof.Machine

theorem curvePoint_monotone {c : Curve} (h01 : c.r0 ≤ c.r1) (h12 : c.r1 ≤ c.r2) (h23 : c.r2 ≤ c.r3)
    (h34 : c.r3 ≤ c.r4) : Monotone (curvePoint c) :=
  monotone_nat_of_le_succ fun k => match k with
    | 0 => h01 | 1 => h12 | 2 => h23 | 3 => h34 | _ + 4 => le_rfl

/-- R80: the rate at `ratio` per-mille of the rating, on the straight line through the curve's points `k` and `k + 1`. -/
def segmentRate (c : Curve) (k ratio : Nat) : Nat :=
  curvePoint c k + (curvePoint c (k + 1) - curvePoint c k) * (ratio - 250 * k) / 250

/-- R80: the load counts up to 1,250 per-mille, and the last segment runs on above the rating. -/
theorem burnRate_eq (c : Curve) (rating load : Nat) : burnRate c rating load =
    segmentRate c (min (min (load * 1000 / rating) 1250 / 250) 3) (min (load * 1000 / rating) 1250) := rfl

theorem segmentRate_start (c : Curve) (k : Nat) : segmentRate c k (250 * k) = curvePoint c k := by
  simp [segmentRate]

theorem curvePoint_le_segmentRate (c : Curve) (k ratio : Nat) : curvePoint c k ≤ segmentRate c k ratio :=
  Nat.le_add_right _ _

section
variable {c : Curve} (rises : Monotone (curvePoint c)) {k ratio rating load : Nat}
include rises

/-- A segment ends at the point where the next one starts. -/
theorem segmentRate_end : segmentRate c k (250 * (k + 1)) = curvePoint c (k + 1) := by
  have width : 250 * (k + 1) - 250 * k = 250 := by omega
  rw [segmentRate, width, Nat.mul_div_cancel _ (by decide), Nat.add_sub_cancel' (rises k.le_succ)]

theorem segmentRate_le_curvePoint (below : ratio ≤ 250 * (k + 1)) : segmentRate c k ratio ≤ curvePoint c (k + 1) :=
  calc segmentRate c k ratio
      ≤ segmentRate c k (250 * (k + 1)) := by unfold segmentRate; gcongr
    _ = curvePoint c (k + 1) := segmentRate_end rises

/-- R80: the rate is that of the segment that the load lies in; where two segments meet, that of either. -/
theorem burnRate_eq_segmentRate (hk : k ≤ 3) (hratio : ratio = load * 1000 / rating) (above : 250 * k ≤ ratio)
    (below : ratio ≤ 250 * (k + 1) ∨ (k = 3 ∧ ratio ≤ 1250)) : burnRate c rating load = segmentRate c k ratio := by
  have capped : min ratio 1250 = ratio := by omega
  rw [burnRate_eq, ← hratio, capped]
  by_cases meets : ratio = 250 * (k + 1) ∧ k < 3
  · obtain ⟨rfl, inner⟩ := meets
    have next : min (250 * (k + 1) / 250) 3 = k + 1 := by omega
    rw [next, segmentRate_start, segmentRate_end rises]
  · have here : min (ratio / 250) 3 = k := by omega
    rw [here]

/-- R80: at each quarter of the rating the rate is the curve's point. -/
theorem burnRate_at_point (hk : k ≤ 4) (rated : 0 < rating) (point : 4 * load = k * rating) :
    burnRate c rating load = curvePoint c k := by
  have ratio : 250 * k = load * 1000 / rating :=
    (Nat.div_eq_of_eq_mul_left rated (by rw [mul_assoc, ← point]; ring)).symm
  rcases hk.lt_or_eq with inner | rfl
  · rw [burnRate_eq_segmentRate rises (Nat.lt_succ_iff.mp inner) ratio le_rfl (by omega), segmentRate_start]
  · rw [burnRate_eq_segmentRate rises le_rfl ratio (by decide) (by decide), segmentRate_end rises]

theorem burnRate_between_points (hk : k ≤ 3) (rated : 0 < rating) (above : k * rating ≤ 4 * load)
    (below : 4 * load ≤ (k + 1) * rating) :
    curvePoint c k ≤ burnRate c rating load ∧ burnRate c rating load ≤ curvePoint c (k + 1) := by
  have low : 250 * k ≤ load * 1000 / rating := (Nat.le_div_iff_mul_le rated).mpr (by rw [mul_assoc]; omega)
  have high : load * 1000 / rating ≤ 250 * (k + 1) :=
    Nat.div_le_of_le_mul (by rw [mul_left_comm, mul_comm rating]; omega)
  rw [burnRate_eq_segmentRate rises hk rfl low (.inl high)]
  exact ⟨curvePoint_le_segmentRate c k _, segmentRate_le_curvePoint rises high⟩

end

/-- R80: from 1,250 per-mille on, the rate is r3 and twice the last difference. -/
theorem burnRate_overload {c : Curve} {rating load : Nat} (h34 : c.r3 ≤ c.r4) (rated : 0 < rating)
    (past : 5 * rating ≤ 4 * load) : burnRate c rating load = c.r4 + (c.r4 - c.r3) := by
  have capped : min (load * 1000 / rating) 1250 = 1250 :=
    min_eq_right ((Nat.le_div_iff_mul_le rated).mpr (by omega))
  calc burnRate c rating load
      = segmentRate c 3 1250 := by rw [burnRate_eq, capped]; rfl
    _ = c.r3 + (c.r4 - c.r3) * 500 / 250 := rfl
    _ = c.r4 + (c.r4 - c.r3) := by omega

/-- Settles O26: every clause about a load up to 1,250 per-mille comes down to the rate of the segment it lies in. -/
theorem burnRateFollowsTheCurve : Obligations.BurnRateFollowsTheCurve := by
  refine ⟨fun c rating load h01 h12 h23 h34 rated => ?_, fun c => ⟨rfl, rfl, rfl, rfl, rfl⟩⟩
  have rises := curvePoint_monotone h01 h12 h23 h34
  exact ⟨burnRate_at_point rises (k := 0) (by decide) rated (by omega),
    burnRate_at_point rises (k := 4) (by decide) rated rfl,
    fun quarter => burnRate_at_point rises (k := 1) (by decide) rated (by omega),
    fun half => burnRate_at_point rises (k := 2) (by decide) rated (by omega),
    burnRate_at_point rises (k := 3) (by decide) rated,
    fun k hk above below => burnRate_between_points rises hk rated above below,
    fun k ratio hk hratio above below => burnRate_eq_segmentRate rises hk hratio above below,
    burnRate_overload h34 rated⟩

end Sys2Proof.Machine
end

section
/-! SET TANK and SET FUEL PRICE (R77, R78, R86). -/

namespace Sys2Proof.Machine

theorem activeOn_isSome_iff (s : State) (i : SourceNo) :
    (activeOn s i).isSome = true ↔ ∃ d r, s.delivery d = some r ∧ r.source = i := by
  rw [Option.isSome_iff_ne_none, ne_eq, activeOn_eq_none_iff]
  push Not
  rfl

/-- R78: the level now, once SET TANK has written the record. -/
theorem levelNow_setTankFields (capacity floor level : Nat) (k : Tank) :
    levelNow (setTankFields capacity floor level k) =
      some (min capacity (level + k.acc / 3600) - k.acc / 3600) :=
  levelNow_set rfl rfl

section
variable (m : StationNo) (st : Station) (s : State)

section
variable {i : SourceNo} {capacity floor level : Nat}
  (inRange : ¬ (capacity < 10 ∨ 200000 < capacity ∨ capacity < floor))
include inRange

theorem ownerSetTank_unlisted (unlisted : (s.source i).state = .unlisted) :
    ownerSetTank (numberOf i) capacity floor level m st s = refuse .unknown s := by
  simp [ownerSetTank, inRange, unlisted]

theorem ownerSetTank_busy (listed : (s.source i).state ≠ .unlisted) (active : (activeOn s i).isSome = true) :
    ownerSetTank (numberOf i) capacity floor level m st s = refuse .busy s := by
  simp [ownerSetTank, inRange, listed, active]

/-- R78: the record as written, and the figures of the reply by the burn not yet closed. -/
theorem ownerSetTank_idle (listed : (s.source i).state ≠ .unlisted) (idle : activeOn s i = none) {burn : Nat}
    (unclosed : burn = (s.tank i).acc / 3600) : ownerSetTank (numberOf i) capacity floor level m st s =
      ⟨setTankRec i (setTankFields capacity floor level (s.tank i)) s, .ok,
        .tankSet (min capacity (level + burn)) (min capacity (level + burn) - burn)
          (decide (capacity < level + burn))⟩ := by
  have book : bookFor level (s.tank i) = level + burn := congrArg (level + ·) unclosed.symm
  simp only [ownerSetTank, number?_numberOf, if_neg inRange, beq_iff_eq, if_neg listed, idle, Option.isSome_none,
    levelNow_setTankFields, ← unclosed, book, Option.getD_some, Bool.false_eq_true, if_false]

end

theorem ownerSetPrice_inRange {price : Nat} (inRange : price ≤ 65535) :
    ownerSetPrice price m st s = ⟨setPrice price s, .ok, .price s.tnk.price price⟩ :=
  if_neg (not_lt.mpr inRange)

end

/-- Settles O51: each request by what its owner answers in the state it was heard in. -/
theorem tanksAndThePriceAreSet : Obligations.TanksAndThePriceAreSet := by
  intro rq n st s
  refine ⟨fun taken i capacity floor level low high floored => ?tank, fun taken price inRange => ?price⟩
  case tank =>
    have inRange : ¬ (capacity < 10 ∨ 200000 < capacity ∨ capacity < floor) := by omega
    refine ⟨fun unlisted => ?unlisted, fun listed => ⟨fun delivery => ?busy, fun idle burn book hburn hbook => ?idle⟩⟩
    case unlisted => exact request_anyObject taken (ownerSetTank_unlisted n _ (heard rq n s) inRange unlisted)
    case busy =>
      have active := (activeOn_isSome_iff (heard rq n s) i).mpr delivery
      exact request_anyObject taken (ownerSetTank_busy n _ (heard rq n s) inRange listed active)
    case idle =>
      have noDelivery := (activeOn_eq_none_iff (heard rq n s) i).mpr idle
      subst hburn hbook
      exact request_done _ _ _ _ _ _ _ taken (fun _ => rfl) _ _ _
        (ownerSetTank_idle n _ (heard rq n s) (level := level) inRange listed noDelivery rfl)
  case price =>
    exact request_done _ _ _ _ _ _ _ taken (fun _ => rfl) _ _ _ (ownerSetPrice_inRange n _ (heard rq n s) inRange)

end Sys2Proof.Machine
end

section
/-! Unload surveys (R92, R93, R95), return attempts and abandoned returns (R104, R105). -/

namespace Sys2Proof.Machine

/-! ## Lists with one entry for each supply (R89, R104) -/

section
variable {α κ : Type} [DecidableEq κ] (key : α → κ) (k : κ) (x : α) {l : List α}

theorem putEntry_listed (listed : ∃ y ∈ l, key y = k) :
    putEntry (fun y => key y == k) x l = l.map fun y => if key y = k then x else y := by
  rw [putEntry, if_pos (by simpa using listed)]
  simp only [beq_iff_eq]

theorem putEntry_new (new : ∀ y ∈ l, key y ≠ k) : putEntry (fun y => key y == k) x l = l ++ [x] := by
  rw [putEntry, if_neg (by simpa using new)]

end

theorem returnEntryOf_of_only {s : State} {n : SupplyNo} {e : ReturnEntry} (listed : e ∈ s.dlv.returns)
    (supply : e.supply = n) (only : ∀ f ∈ s.dlv.returns, f.supply = n → f = e) : returnEntryOf s n = some e := by
  cases found : returnEntryOf s n with
  | none => simpa [supply] using List.find?_eq_none.mp found e listed
  | some f => rw [only f (List.mem_of_find?_eq_some found) (by simpa using List.find?_some found)]

/-! ## The survey (R93) -/

section
variable {s : State} {d : SlotNo} {r : Delivery}

theorem refuelGranted_iff {i : SourceNo} : refuelGranted s i = true ↔
    ((s.source i).state = .stopped ∨ (s.source i).state = .running) ∧ (s.source i).claim = none ∧
      (s.source i).reservation ≠ none ∧ ∀ m x, (s.input m x).source = some i → (s.input m x).aux = false := by
  have clear : anyClosedOnto s i = false ↔ ∀ m x, (s.input m x).source = some i → (s.input m x).aux = false := by
    simp [← Bool.not_eq_true, anyClosedOnto_iff]
  simp only [refuelGranted, Bool.and_eq_true, Bool.or_eq_true, Bool.not_eq_true', beq_iff_eq, bne_iff_ne, clear]
  tauto

theorem fedBy_iff {n : SupplyNo} {i : SourceNo} : fedBy s n i = true ↔
    ((s.supply n).state = .live ∨ (s.supply n).state = .tripped) ∧
      ∃ x, (s.supply n).closed = some x ∧ (s.input n x).source = some i := by
  simp [fedBy, closedSource, Option.bind_eq_some_iff]

/-- R93 step 1, REFUEL granted: the source is in REFUEL, and a delivery that waited is ARMED. -/
theorem surveyStepOne_granted (slot : s.delivery d = some r) (granted : refuelGranted s r.source = true) :
    surveyStepOne d s = ⟨setDelivery d (some { r with
        surveyTimer := none, state := if r.state = .waitingUnload then .armed else r.state })
      (setSource r.source { s.source r.source with state := .refuel } s), true⟩ := by
  have slot' : (setSource r.source { s.source r.source with state := .refuel } s).delivery d = some r := slot
  simp only [surveyStepOne, slot, granted, if_true, modSource, modDelivery_eq _ slot', beq_iff_eq]

theorem surveyStepOne_refused (slot : s.delivery d = some r) (refused : refuelGranted s r.source = false) :
    surveyStepOne d s = ⟨s, false⟩ := by
  simp [surveyStepOne, slot, refused]

theorem survey_granted (slot : s.delivery d = some r) (granted : refuelGranted s r.source = true) :
    survey d s = setDelivery d (some { r with
        surveyTimer := none, state := if r.state = .waitingUnload then .armed else r.state })
      (setSource r.source { s.source r.source with state := .refuel } s) := by
  rw [survey, surveyStepOne_granted slot granted]

theorem survey_refused (slot : s.delivery d = some r) (refused : refuelGranted s r.source = false) :
    survey d s = (indices 12).foldl (requestUnload d) (clearBlocked d s) := by
  rw [survey, surveyStepOne_refused slot refused]

/-- R93 step 2: an entry in flight stays, and a BLOCKED one while the source still feeds its supply. -/
theorem clearBlocked_eq (slot : s.delivery d = some r) {keep : UnloadEntry → Bool}
    (inFlight : ∀ e k, e.status = .inFlight k → keep e = true)
    (blocked : ∀ e w, e.status = .blocked w → keep e = fedBy s e.supply r.source) :
    clearBlocked d s = setDelivery d (some { r with unloads := r.unloads.filter keep }) s := by
  rw [clearBlocked, modDelivery_eq _ slot]
  refine congrArg (fun left => setDelivery d (some { r with unloads := left }) s) (List.filter_congr fun e _ => ?_)
  cases status : e.status with
  | inFlight k => exact (inFlight e k status).symm
  | blocked w => exact (blocked e w status).symm

end

/-! ## The request of one supply (R93 step 3, R94, R95) -/

section
variable {s u : State} {d : SlotNo} {r p : Delivery} {n : SupplyNo}

/-- R93: the supplies asked to move: fed by the source, with no transfer in flight for the delivery. -/
theorem unloadDue_iff : (fedBy s n r.source && !hasInFlight r n) = true ↔
    ((s.supply n).state = .live ∨ (s.supply n).state = .tripped) ∧
      (∃ x, (s.supply n).closed = some x ∧ (s.input n x).source = some r.source) ∧
      ∀ e k, e ∈ r.unloads → e.supply = n → e.status ≠ .inFlight k := by
  have idle : hasInFlight r n = false ↔ ∀ e k, e ∈ r.unloads → e.supply = n → e.status ≠ .inFlight k := by
    simp only [hasInFlight, List.any_eq_false, Bool.and_eq_true, beq_iff_eq, not_and]
    refine forall_congr' fun e => ?_
    cases e.status <;> simp
  simp only [Bool.and_eq_true, Bool.not_eq_true', fedBy_iff, idle, and_assoc]

theorem requestUnload_stays (slot : s.delivery d = some r) (idle : (fedBy s n r.source && !hasInFlight r n) = false) :
    requestUnload d s n = s := by
  simp [requestUnload, slot, idle]

section
variable (slot : s.delivery d = some r) (due : (fedBy s n r.source && !hasInFlight r n) = true)
  (after : u.delivery d = some p)
include slot due after

theorem requestUnload_accepted {k : Nat} {y : Input} {m : ModeEff}
    (admitted : admitOrPreempt (unloadAsk d n) s = ⟨u, .accepted k y m⟩) :
    requestUnload d s n = setDelivery d (some (putUnload n (.inFlight k) p)) u := by
  simp only [requestUnload, slot, due, if_true, admitted, modDelivery_eq _ after]

theorem requestUnload_refused {e : Status} (refused : admitOrPreempt (unloadAsk d n) s = ⟨u, .refused e⟩) :
    requestUnload d s n =
      reportBlock d n (.status e) (setDelivery d (some (putUnload n (.blocked (.status e)) p)) u) := by
  simp only [requestUnload, slot, due, if_true, refused, modDelivery_eq _ after]

end

end

/-! ## Return attempts and windows (R104, R105) -/

section
variable {s u : State} {n : SupplyNo} {e : ReturnEntry} (entry : returnEntryOf s n = some e)
include entry

theorem returnAttempt_inFlight (holds : e.ticket ≠ none) : returnAttempt n s = s := by
  simp [returnAttempt, entry, holds]

theorem returnAttempt_dropped (free : e.ticket = none)
    (away : (s.supply n).state ≠ .live ∨ (s.supply n).closed ≠ some e.toInput) :
    returnAttempt n s = dropReturn n s := by
  have moved : ((s.supply n).state == .live && (s.supply n).closed == some e.toInput) = false := by
    simpa [imp_iff_not_or] using away
  simp [returnAttempt, entry, free, moved]

section
variable (free : e.ticket = none) (live : (s.supply n).state = .live) (closed : (s.supply n).closed = some e.toInput)
include free live closed

theorem returnAttempt_refused {w : Status} (refused : admitOrPreempt (returnAsk e) s = ⟨u, .refused w⟩) :
    returnAttempt n s =
      putReturn { e with last := some (.status w), attempt := some (s.now / 1000 + 10000) } u := by
  simp [returnAttempt, entry, free, live, closed, refused, State.ms, Config.attemptMs]

theorem returnAttempt_accepted {k : Nat} {x : Input} {m : ModeEff}
    (admitted : admitOrPreempt (returnAsk e) s = ⟨u, .accepted k x m⟩) :
    returnAttempt n s = putReturn { e with ticket := some k, attempt := none } u := by
  simp [returnAttempt, entry, free, live, closed, admitted]

end

variable {due : Nat}

theorem returnTimer_eq (attempt : e.attempt = some due) (free : e.ticket = none) :
    returnTimer n s = returnAttempt n (advanceTo (due * 1000) s) := by
  simp [returnTimer, entry, attempt, free, advanceToMs]

theorem windowExpiry_abandons (window : e.window = some due) (free : e.ticket = none) :
    windowExpiry n s = abandonReturn e (advanceTo (due * 1000) s) := by
  simp [windowExpiry, entry, window, free, advanceToMs]

theorem windowExpiry_waits (window : e.window = some due) (holds : e.ticket ≠ none) :
    windowExpiry n s = putReturn { e with window := none } (advanceTo (due * 1000) s) := by
  simp [windowExpiry, entry, window, holds, advanceToMs]

end

/-- The survey timer's row, by whether the delivery is unloading (R92, R93). -/
theorem surveyExpiry_eq {s : State} {d : SlotNo} {r : Delivery} {due : Nat} (slot : s.delivery d = some r)
    (timer : r.surveyTimer = some due) : surveyExpiry d s =
      if unloading s r then survey d (setDelivery d
        (some { r with surveyTimer := some (max s.now (due * 1000) / 1000 + 10000) }) (advanceTo (due * 1000) s))
      else setDelivery d (some { r with surveyTimer := none }) (advanceTo (due * 1000) s) := by
  have slot' : (advanceToMs due s).delivery d = some r := slot
  simp only [surveyExpiry, slot, timer, startSurveyTimer_eq slot', modDelivery_eq _ slot']
  rfl

/-- Settles O55, part by part: the survey by whether REFUEL is granted, each supply's request and each return attempt by
the answer to its admission, and each row of a timer by the entry or the delivery that it finds. -/
theorem unloadsAndReturnsAreAsked : Obligations.UnloadsAndReturnsAreAsked := by
  refine ⟨fun s d r due asks slot timer hasks => ?timer, fun s d r granted slot hgranted => ?survey,
    fun s d r n asks slot hasks => ?request, fun r n st e he => ?unloads,
    fun r m => ⟨fun listed => ?_, fun new => ?_⟩, fun s e => ⟨fun listed => ?_, fun new => ?_⟩,
    fun s n e listed supply only => ?home⟩
  case timer =>
    rw [← unloading_iff] at hasks
    have row : exec (.unloadSurveyTimer d) s = .next (surveyExpiry d s) := rfl
    rw [row, surveyExpiry_eq slot timer]
    exact ⟨fun yes => by rw [if_pos (hasks.mp yes)], fun no => by rw [if_neg (hasks.not.mp no)]⟩
  case survey =>
    rw [← refuelGranted_iff] at hgranted
    refine ⟨fun yes u hu => ?_, fun no => ?_⟩
    · rw [survey_granted slot (hgranted.mp yes), surveyStepOne_granted slot (hgranted.mp yes)]
      exact ⟨hu.symm, hu.symm⟩
    · have refused : refuelGranted s r.source = false := by simpa using hgranted.not.mp no
      refine ⟨by rw [surveyStepOne_refused slot refused], fun fed left hfed hleft => ?_⟩
      have same (n : SupplyNo) : fedBy s n r.source = fed n := by rw [Bool.eq_iff_iff, fedBy_iff, hfed]
      rw [survey_refused slot refused, hleft, clearBlocked_eq slot]
      · exact fun e k status => by simp [status]
      · exact fun e w status => by simp [status, same]
  case request =>
    rw [← unloadDue_iff] at hasks
    refine ⟨fun no => requestUnload_stays slot (by simpa using hasks.not.mp no), fun yes a u p ha after => ?_⟩
    have due := hasks.mp yes
    have ask : unloadAsk d n = a := ha.symm
    refine ⟨fun k y m admitted => requestUnload_accepted slot due after (ask ▸ admitted), fun e refused q hq => ?_⟩
    rw [requestUnload_refused slot due after (ask ▸ refused), ← hq]
    have reported : q.blockedReported = p.blockedReported := by rw [hq]; rfl
    refine ⟨fun again => reportBlock_again (reported.trans again) _, fun first => ?_⟩
    rw [reportBlock_first (reported.trans first), hq]
    rfl
  case unloads =>
    subst he
    exact ⟨fun listed => by rw [putUnload, putEntry_listed UnloadEntry.supply n _ listed],
      fun new => by rw [putUnload, putEntry_new UnloadEntry.supply n _ new]⟩
  · rw [putMoved, putEntry_listed MovedEntry.supply m.supply m listed]
  · rw [putMoved, putEntry_new MovedEntry.supply m.supply m new]
  · rw [putReturn, putEntry_listed ReturnEntry.supply e.supply e listed]
  · rw [putReturn, putEntry_new ReturnEntry.supply e.supply e new]
  case home =>
    have entry := returnEntryOf_of_only listed supply only
    subst supply
    have row : exec (.returnWindowExpiry e.supply) s = .next (windowExpiry e.supply s) := rfl
    refine ⟨fun free => ⟨fun away => ?_, fun live closed a ha => ?_⟩, returnAttempt_inFlight entry,
      fun due u hu => ⟨fun attempt free => ?_, fun window => ⟨fun free => ?_, fun holds => ?_⟩⟩⟩
    · rw [returnAttempt_dropped entry free away, dropReturn_eq]
    · have ask : returnAsk e = a := ha.symm
      exact ⟨fun w v refused => returnAttempt_refused entry free live closed (ask ▸ refused),
        fun k x m v admitted => returnAttempt_accepted entry free live closed (ask ▸ admitted)⟩
    · rw [hu, ← returnTimer_eq entry attempt free]
      rfl
    · rw [row, windowExpiry_abandons entry window free, abandonReturn, dropReturn_eq, hu]
      rfl
    · rw [row, windowExpiry_waits entry window holds, hu]

end Sys2Proof.Machine
end

section
/-! ARM DELIVERY (R91, R92, R10, R11): its fields, its checks in their order, and the starting state of a hot and of a
cold delivery. -/

namespace Sys2Proof.Machine

/-! ## References and slots -/

theorem activeReference_eq_none_iff (s : State) (reference : Nat) :
    activeReference s reference = none ↔ ∀ d r, s.delivery d = some r → r.reference ≠ some reference := by
  simp only [activeReference, List.find?_eq_none, mem_indices, true_implies]
  refine forall_congr' fun d => ?_
  cases s.delivery d <;> simp

theorem activeReference_isSome_iff (s : State) (reference : Nat) :
    (activeReference s reference).isSome = true ↔ ∃ d r, s.delivery d = some r ∧ r.reference = some reference := by
  rw [Option.isSome_iff_ne_none, ne_eq, activeReference_eq_none_iff]
  push Not
  rfl

theorem freeSlot_of_lowest {s : State} {d : SlotNo} (free : s.delivery d = none)
    (below : ∀ e, e < d → (s.delivery e).isSome = true) : freeSlot s = some d := by
  refine find?_indices_of_lowest (by simp [free]) fun e fits => not_lt.mp fun lower => ?_
  exact absurd (below e lower) (by simp [Option.isNone_iff_eq_none.mp fits])

theorem freeSlot_none {s : State} (full : ∀ d, (s.delivery d).isSome = true) : freeSlot s = none :=
  List.find?_eq_none.mpr fun d _ => by simp [Option.isSome_iff_ne_none.mp (full d)]

/-! ## The checks (R91) -/

theorem armFields_eq {source reference expected register : Nat} {expiryGiven finishGiven toleranceGiven : Option Nat}
    {expiry finish tolerance : Nat} (hexpiry : expiry = expiryGiven.getD 15) (hfinish : finish = finishGiven.getD 5)
    (htolerance : tolerance = toleranceGiven.getD 20) :
    armFields source reference expected register expiryGiven finishGiven toleranceGiven =
      if expected ≤ 200000 ∧ 1 ≤ expiry ∧ expiry ≤ 60 ∧ 1 ≤ finish ∧ finish ≤ 30 ∧ tolerance ≤ 100 then
        (number? 16 source).map fun i => ⟨i, reference, expected, register, expiry, finish, tolerance⟩
      else none := by
  subst hexpiry hfinish htolerance
  rfl

section
variable {s : State} {f : ArmFields}

theorem armSlot_busy (active : (activeOn s f.source).isSome = true) : armSlot f s = .error .busy := if_pos active

section
variable (idle : activeOn s f.source = none)
include idle

theorem armSlot_state (unfit : ((s.source f.source).state ≠ .stopped ∧ (s.source f.source).state ≠ .running) ∨
    (s.tank f.source).set = false ∨ (activeReference s f.reference).isSome = true) : armSlot f s = .error .state := by
  rcases unfit with ⟨stopped, running⟩ | unset | taken
  · simp [armSlot, idle, stopped, running]
  · simp [armSlot, idle, unset]
  · simp [armSlot, idle, taken]

variable (state : (s.source f.source).state = .stopped ∨ (s.source f.source).state = .running)
  (set : (s.tank f.source).set = true) (fresh : activeReference s f.reference = none)
include state set fresh

theorem armSlot_full (full : freeSlot s = none) : armSlot f s = .error .full := by
  rcases state with state | state <;> simp [armSlot, idle, state, set, fresh, full]

theorem armSlot_free {d : SlotNo} (free : freeSlot s = some d) : armSlot f s = .ok d := by
  rcases state with state | state <;> simp [armSlot, idle, state, set, fresh, free]

end

end

/-! ## The starting state (R91, R92) -/

theorem setDelivery_same {s : State} {d : SlotNo} {r : Delivery} (slot : s.delivery d = some r) :
    setDelivery d (some r) s = s := by
  rw [← slot, setDelivery, State.delivery, upd_look]

theorem setDelivery_setSource (d : SlotNo) (r : Option Delivery) (i : SourceNo) (p : Source) (s : State) :
    setDelivery d r (setSource i p s) = setSource i p (setDelivery d r s) := rfl

/-- R93: a refused survey of a source that feeds no supply changes nothing. -/
theorem survey_unfed {s : State} {d : SlotNo} {r : Delivery} (slot : s.delivery d = some r)
    (none_listed : r.unloads = []) (refused : refuelGranted s r.source = false)
    (unfed : ∀ n, fedBy s n r.source = false) : survey d s = s := by
  have cleared : clearBlocked d s = s := by
    rw [clearBlocked, modDelivery_eq _ slot, none_listed, List.filter_nil, ← none_listed, setDelivery_same slot]
  rw [survey_refused slot refused, cleared]
  exact List.foldl_fixed' (fun n => requestUnload_stays slot (by rw [unfed, Bool.false_and])) _

/-! ### The arming survey of a cold delivery -/

/-- R10, R92: the state that the arming survey finds: the delivery waits, and its source is reserved for it. -/
def reserved (d : SlotNo) (i : SourceNo) (r : Delivery) (s : State) : State :=
  setSource i { s.source i with reservation := some d } (setDelivery d (some { r with state := .waitingUnload }) s)

section
variable {s : State} {d : SlotNo} {i : SourceNo} {r : Delivery} (source : r.source = i)

theorem reserved_delivery : (reserved d i r s).delivery d = some { r with state := .waitingUnload } := by
  simp [reserved]

include source

theorem survey_reserved_granted (armed : r.state = .armed) (untimed : r.surveyTimer = none)
    (resting : (s.source i).state = .stopped ∨ (s.source i).state = .running) (unclaimed : (s.source i).claim = none)
    (clear : ∀ m x, (s.input m x).source = some i → (s.input m x).aux = false) :
    survey d (reserved d i r s) =
      setSource i { s.source i with reservation := some d, state := .refuel } (setDelivery d (some r) s) := by
  subst source
  have granted : refuelGranted (reserved d r.source r s) r.source = true := by
    simpa [refuelGranted_iff, reserved, unclaimed, resting] using clear
  rw [survey_granted reserved_delivery granted, reserved]
  simp only [setSource_twice, setDelivery_setSource, setDelivery_twice, setSource_source, if_true, ← armed, ← untimed]

theorem survey_reserved_unfed (none_listed : r.unloads = [])
    (held : (s.source i).claim ≠ none ∨ ∃ m x, (s.input m x).source = some i ∧ (s.input m x).aux = true)
    (unfed : ∀ m x, (s.supply m).closed = some x → (s.input m x).source = some i →
      (s.supply m).state ≠ .live ∧ (s.supply m).state ≠ .tripped) :
    survey d (reserved d i r s) = reserved d i r s := by
  subst source
  refine survey_unfed reserved_delivery none_listed ?_ fun m => ?_
  · rw [← Bool.not_eq_true, refuelGranted_iff]
    rintro ⟨-, unclaimed, -, clear⟩
    rcases held with claimed | ⟨m, x, assigned, closed⟩
    · exact claimed (by simpa [reserved] using unclaimed)
    · exact absurd (clear m x assigned) (by simpa [reserved] using closed)
  · rw [← Bool.not_eq_true, fedBy_iff]
    rintro ⟨state, x, closed, assigned⟩
    obtain ⟨live, tripped⟩ := unfed m x closed assigned
    exact state.elim live tripped

end

section
variable {s u : State} {i : SourceNo} {d : SlotNo} {q : Delivery}
  (surveyed : u = survey d (setSource i { s.source i with reservation := some d } s)) (slot : u.delivery d = some q)
include surveyed slot

theorem startCold_moved (moved : q.state ≠ .waitingUnload) : startCold d i s = u := by
  simp [startCold, modSource, ← surveyed, slot, moved]

theorem startCold_waits (waits : q.state = .waitingUnload) :
    startCold d i s = setDelivery d (some { q with surveyTimer := some (u.now / 1000 + 10000) }) u := by
  simp [startCold, modSource, ← surveyed, slot, waits, startSurveyTimer_eq slot]

end

section
variable {s : State} {d : SlotNo} {f : ArmFields} {h : Hire} (hired : (s.source f.source).hire = some h)
include hired

theorem armedDelivery_cold : (armedDelivery d f s).cold = !h.hot := by rw [armedDelivery, hireOf_hired hired]

theorem arm_hot (hot : h.hot = true) : arm d f s =
    logAppend .deliveryArmed (num f.source) (some f.reference) (some f.expected)
      (setDelivery d (some (armedDelivery d f s)) s) := by
  simp [arm, armedDelivery_cold hired, hot]

theorem arm_cold (cold : h.hot = false) : arm d f s =
    logAppend .deliveryArmed (num f.source) (some f.reference) (some f.expected)
      (startCold d f.source (setDelivery d (some (armedDelivery d f s)) s)) := by
  simp [arm, armedDelivery_cold hired, cold]

end

theorem room_booked {k : Tank} {capacity book : Nat} (set : k.set = true) (holds : k.capacity = some capacity)
    (booked : k.book = some book) : room k = capacity - (book - k.acc / 3600) := by
  rw [room, holds, levelNow_set set booked]
  rfl

/-! ## The owner -/

section
variable {m : StationNo} {st : Station} {s : State} {f : ArmFields}

theorem ownerArmDelivery_refused {e : Status} (refused : armSlot f s = .error e) :
    ownerArmDelivery (some f) m st s = refuse e s := by
  rw [ownerArmDelivery, refused]

theorem ownerArmDelivery_armed {u : State} {d : SlotNo} {q : Delivery} {left : Nat} (slot : armSlot f s = .ok d)
    (made : arm d f s = u) (start : u.delivery d = some q) (hleft : room (s.tank f.source) = left) :
    ownerArmDelivery (some f) m st s = ⟨u, .ok, .armed d q.state left (decide (left < f.expected))⟩ := by
  simp only [ownerArmDelivery, slot, made, stateIn, start, hleft]

end

/-- Settles O52: each answer by the check that gives it, and each starting state by what the arming survey makes of the
delivery. -/
theorem deliveriesAreArmed : Obligations.DeliveriesAreArmed := by
  intro rq n st s reference expected register expiryGiven finishGiven toleranceGiven expiry finish tolerance taken
    hexpiry hfinish htolerance
  refine ⟨fun outside k => ?range, fun i expectedOk expiryLow expiryHigh finishLow finishHigh toleranceOk => ?inRange⟩
  case range =>
    refine request_anyObject taken ?_
    rw [armFields_eq hexpiry hfinish htolerance, if_neg (by omega)]
    rfl
  case inRange =>
    let f : ArmFields := ⟨i, reference, expected, register, expiry, finish, tolerance⟩
    have fields :
        armFields (numberOf i) reference expected register expiryGiven finishGiven toleranceGiven = some f := by
      rw [armFields_eq hexpiry hfinish htolerance,
        if_pos ⟨expectedOk, expiryLow, expiryHigh, finishLow, finishHigh, toleranceOk⟩, number?_numberOf]
      rfl
    have refused {e : Status} (check : armSlot f (heard rq n s) = .error e) :
        exec (.armDelivery rq (numberOf i) reference expected register expiryGiven finishGiven toleranceGiven) s =
          replied rq kindArmDelivery n e .empty (heard rq n s) := by
      refine request_anyObject taken ?_
      rw [fields, ownerArmDelivery_refused check]
      rfl
    refine ⟨fun active => refused (armSlot_busy ((activeOn_isSome_iff (heard rq n s) i).mpr active)),
      fun noDelivery => ?_⟩
    have idle : activeOn (heard rq n s) i = none := (activeOn_eq_none_iff (heard rq n s) i).mpr noDelivery
    refine ⟨fun unfit => refused (armSlot_state idle ?_), fun state set unused => ?_⟩
    · rwa [activeReference_isSome_iff]
    have fresh : activeReference (heard rq n s) reference = none := (activeReference_eq_none_iff _ _).mpr unused
    refine ⟨fun full => refused (armSlot_full idle state set fresh (freeSlot_none full)), ?_⟩
    intro d h capacity book left r made free below hired holds booked hleft hr hmade
    have slot := armSlot_free (f := f) idle state set fresh (freeSlot_of_lowest free below)
    have hroom : room ((heard rq n s).tank i) = left := (room_booked set holds booked).trans hleft.symm
    have hired' : ((heard rq n s).source f.source).hire = some h := hired
    have source : r.source = i := by rw [hr]
    have armedNow : r.state = .armed := by rw [hr]
    have answers {u : State} {q : Delivery} {st : DeliveryState} (harm : arm d f (heard rq n s) = made u)
        (start : u.delivery d = some q) (state : q.state = st) :
        exec (.armDelivery rq (numberOf i) reference expected register expiryGiven finishGiven toleranceGiven) s =
          replied rq kindArmDelivery n .ok (.armed d st left (decide (left < expected))) (made u) := by
      subst state
      refine request_done _ _ _ _ _ _ _ taken (fun _ => rfl) _ _ _ ?_
      rw [fields]
      exact ownerArmDelivery_armed slot harm (by rw [hmade, logAppend_delivery_at, start]) hroom
    have starts (cold : h.hot = false) : arm d f (heard rq n s) =
        made (startCold d i (setDelivery d (some { r with state := .waitingUnload }) (heard rq n s))) := by
      have record : armedDelivery d f (heard rq n s) = { r with state := .waitingUnload } := by
        rw [armedDelivery, hireOf_hired hired', hr, cold]
        rfl
      rw [arm_cold hired' cold, record, hmade]
    have moves (cold : h.hot = false) {u : State} {q : Delivery} (hu : u = survey d (reserved d i r (heard rq n s)))
        (here : u.delivery d = some q) (moved : q.state ≠ .waitingUnload) :=
      answers ((starts cold).trans (congrArg made (startCold_moved hu here moved))) here rfl
    have waits (cold : h.hot = false) {u : State} {q : Delivery} (hu : u = survey d (reserved d i r (heard rq n s)))
        (here : u.delivery d = some q) (waiting : q.state = .waitingUnload) :=
      answers (q := { q with surveyTimer := some (u.now / 1000 + 10000) })
        ((starts cold).trans (congrArg made (startCold_waits hu here waiting))) (by simp) waiting
    refine ⟨fun hot => ?hot, fun cold unclaimed clear => ?granted, fun cold held unfed => ?unfed,
      fun cold u q hu here => ⟨moves cold hu here, waits cold hu here⟩⟩
    case hot =>
      have record : armedDelivery d f (heard rq n s) = r := by
        rw [armedDelivery, hireOf_hired hired', hr, hot]
        rfl
      refine answers ?_ (by simp) armedNow
      rw [arm_hot hired' hot, record, hmade]
    case granted =>
      rw [← armedNow]
      have granted := survey_reserved_granted (s := heard rq n s) (d := d) source armedNow (by rw [hr]) state
        unclaimed clear
      refine moves cold granted.symm (by simp) ?_
      simp [armedNow]
    case unfed =>
      have asleep := survey_reserved_unfed (s := heard rq n s) (d := d) source (by rw [hr]) held unfed
      refine (waits cold asleep.symm reserved_delivery rfl).trans ?_
      simp only [reserved, setDelivery_setSource, setDelivery_twice]
      rfl

end Sys2Proof.Machine
end

section
/-! The fill points (R90, R96, R97, R107), and a set taken out of REFUEL by hand (R98). -/

namespace Sys2Proof.Machine

section
variable (t : Nat) (i : SourceNo) (a b : Bool) (s : State)

theorem setFill_twice : setFill i b (setFill i a s) = setFill i b s := by simp [setFill]

theorem advanceTo_setFill : advanceTo t (setFill i b s) = setFill i b (advanceTo t s) := rfl

theorem raise_setDelivery (e : Detail) (who : StationNo → Station → Bool) (d : SlotNo) (r : Option Delivery) :
    raise e who (setDelivery d r s) = setDelivery d r (raise e who s) := rfl

theorem advanceTo_setFillUnread : advanceTo t (setFillUnread i b s) = setFillUnread i b (advanceTo t s) := rfl

end

theorem startSurveyTimer_setDelivery (d : SlotNo) (q : Delivery) (s : State) :
    startSurveyTimer d (setDelivery d (some q) s) =
      setDelivery d (some { q with surveyTimer := some (s.now / 1000 + 10000) }) s := by
  have slot : (setDelivery d (some q) s).delivery d = some q := by simp
  rw [startSurveyTimer_eq slot, setDelivery_twice]
  rfl

theorem activeOn_of_only {s : State} {i : SourceNo} {d : SlotNo} {r : Delivery} (slot : s.delivery d = some r)
    (source : r.source = i) (only : ∀ e p, s.delivery e = some p → p.source = i → e = d) : activeOn s i = some d :=
  activeOn_of_lowest slot source fun e p here fed => (only e p here fed).ge

/-- The same deliveries, sources, tanks and site time: what a delivery's figures are read from. A change of a fill line,
of the timers or of a station leaves them as they are. -/
structure SameFuel (s v : State) : Prop where
  slots : v.dlv.slots = s.dlv.slots
  src : v.src = s.src
  tnk : v.tnk = s.tnk
  stl : v.stl = s.stl

theorem sameFuel_setFill (s : State) (i : SourceNo) (b : Bool) (t : Nat) : SameFuel s (setFill i b (advanceTo t s)) :=
  ⟨rfl, rfl, rfl, rfl⟩

/-- R107: the level found after a warm restart has been taken. -/
theorem sameFuel_found (s : State) (i : SourceNo) (b : Bool) (t : Nat) :
    SameFuel s (setFill i b (setFillUnread i false (advanceTo t s))) := ⟨rfl, rfl, rfl, rfl⟩

theorem sameFuel_advanceTo (s : State) (t : Nat) : SameFuel s (advanceTo t s) := ⟨rfl, rfl, rfl, rfl⟩

theorem sameFuel_heard (rq : Request) (n : StationNo) (s : State) : SameFuel s (heard rq n s) := ⟨rfl, rfl, rfl, rfl⟩

section
variable {s v : State} (same : SameFuel s v)
include same

theorem SameFuel.slot {d : SlotNo} {r : Delivery} (slot : s.delivery d = some r) : v.delivery d = some r := by
  rw [State.delivery, same.slots, ← slot, State.delivery]

theorem SameFuel.activeOn (i : SourceNo) : activeOn v i = activeOn s i := by
  simp only [Machine.activeOn, State.delivery, same.slots]

theorem SameFuel.tank (i : SourceNo) : v.tank i = s.tank i := by rw [State.tank, same.tnk, State.tank]

theorem SameFuel.source (i : SourceNo) : v.source i = s.source i := by rw [State.source, same.src, State.source]

theorem SameFuel.gauge (i : SourceNo) : gaugeForDelivery v i = gaugeForDelivery s i := by
  rw [gaugeForDelivery, same.source, same.tank, gaugeForDelivery]

theorem SameFuel.openRec (r : Delivery) : openRec v r = openRec s r := by
  simp only [Machine.openRec, same.gauge, same.tank, State.clock, same.stl]

end

/-! ## The figures taken at the close (R97, R101) -/

section
variable {s : State} {r : Delivery}

theorem closeFigures_read {atOpen atClose : Nat} (opened : r.gaugeAtOpen = some (some atOpen))
    (closed : gaugeForDelivery s r.source = some atClose) : closeFigures s r = { r with
      gaugeAtClose := some (some atClose), markAtClose := some (s.tank r.source).mark,
      burnDuring := some (burnBetween r (s.tank r.source).mark), gaugeRise := some ((atClose : Int) - atOpen) } := by
  simp only [closeFigures, opened, closed, Option.join_some]

theorem closeFigures_unread (unread : r.gaugeAtOpen = some none ∨ gaugeForDelivery s r.source = none) :
    closeFigures s r = { r with
      gaugeAtClose := some (gaugeForDelivery s r.source), markAtClose := some (s.tank r.source).mark,
      burnDuring := some (burnBetween r (s.tank r.source).mark), unchecked := true } := by
  unfold closeFigures
  dsimp only
  split
  · rename_i atOpen atClose opened closed
    rcases unread with absent | absent
    · simp [absent] at opened
    · simp [absent] at closed
  · rfl

theorem burnBetween_eq {start : Nat} (opened : r.markAtOpen = some start) (mark : Nat) :
    burnBetween r mark = (mark - start) / 3600 := by
  rw [burnBetween, opened, Option.getD_some]

end

/-! ## A close, by the delivery on the source (R96) -/

section
variable {s : State} {i : SourceNo} {d : SlotNo} {r : Delivery}

section
variable (active : activeOn s i = some d) (slot : s.delivery d = some r)
include active slot

theorem fillClosed_armed (armed : r.state = .armed) : fillClosed i s =
    logAppend .deliveryOpen (num r.source) r.reference (gaugeForDelivery s r.source)
      (setDelivery d (some (openRec s r)) s) := by
  simp only [fillClosed, active, slot, armed, openDelivery, modDelivery_eq _ slot, Bool.or_false]
  rfl

/-- R96: a fill begun while the unload waits is a loaded one. -/
theorem fillClosed_waits (waits : r.state = .waitingUnload) : fillClosed i s =
    raise (.delivery r.source r.reference .loadedFill) toFuelAndConsole
      (logAppend .deliveryOpen (num r.source) r.reference (gaugeForDelivery s r.source)
        (setDelivery d (some { openRec s r with fillWhileLoaded := true }) s)) := by
  simp only [fillClosed, active, slot, waits, openDelivery, modDelivery_eq _ slot, Bool.or_true, if_true, raiseLoaded,
    logAppend_delivery_at, setDelivery_delivery]
  rfl

theorem fillClosed_filled (filled : r.state = .filled) :
    fillClosed i s = setDelivery d (some { r with state := .opened, finishTimer := none }) s := by
  simp only [fillClosed, active, slot, filled, reopen, modDelivery_eq _ slot]

/-! ## An open (R97) -/

theorem fillOpened_stays (shut : r.state ≠ .opened) : fillOpened i s = s := by simp [fillOpened, active, slot, shut]

theorem fillOpened_fills (opened : r.state = .opened) (armed : r.unarmed = false) :
    fillOpened i s = setDelivery d (some (fillDelivery s r)) s := by
  simp [fillOpened, active, slot, opened, armed, modDelivery_eq _ slot]

theorem fillOpened_ends (opened : r.state = .opened) (unarmed : r.unarmed = true) :
    fillOpened i s = endUnarmed d r s := by
  simp [fillOpened, active, slot, opened, unarmed]

/-! ## The level found after a warm restart (R107) -/

theorem compareFill_closes (shut : r.state ≠ .opened) : compareFill i true s = fillClosed i s := by
  simp [compareFill, active, stateIn, slot, shut]

theorem compareFill_stands (opened : r.state = .opened) : compareFill i true s = s := by
  simp [compareFill, active, stateIn, slot, opened]

omit slot in
theorem compareFill_opens : compareFill i false s = fillOpened i s := by simp [compareFill, active]

/-! ## A set taken out of REFUEL by hand (R98) -/

theorem loadedByHand_armed (armed : r.state = .armed) : loadedByHand i s = survey d (setDelivery d
    (some { r with state := .waitingUnload, surveyTimer := some (s.now / 1000 + 10000) }) s) := by
  simp [loadedByHand, active, slot, armed, modDelivery_eq _ slot, startSurveyTimer_setDelivery]

theorem loadedByHand_opened (opened : r.state = .opened) : loadedByHand i s = survey d (setDelivery d
    (some { r with fillWhileLoaded := true, surveyTimer := some (s.now / 1000 + 10000) })
    (raise (.delivery r.source r.reference .loadedFill) toFuelAndConsole s)) := by
  simp [loadedByHand, active, slot, opened, modDelivery_eq _ slot, raiseLoaded, raise_setDelivery,
    startSurveyTimer_setDelivery]

theorem loadedByHand_stays (rests : r.state = .filled ∨ r.state = .waitingUnload) : loadedByHand i s = s := by
  rcases rests with rests | rests <;> simp [loadedByHand, active, slot, rests]

end

/-! ## A source with no delivery (R96, R97, R107) -/

section
variable (idle : activeOn s i = none)
include idle

theorem compareFill_idle (closed : Bool) : compareFill i closed s = s := by simp [compareFill, idle]

theorem fillOpened_idle : fillOpened i s = s := by simp [fillOpened, idle]

theorem loadedByHand_idle : loadedByHand i s = s := by simp [loadedByHand, idle]

theorem fillClosed_idle : fillClosed i s = closeUnarmed i s := by simp [fillClosed, idle]

end

theorem closeUnarmed_makes (resting : (s.source i).state = .stopped ∨ (s.source i).state = .running)
    (free : freeSlot s = some d) : closeUnarmed i s = unarmedFill d i s := by
  rcases resting with h | h <;> simp [closeUnarmed, h, free]

theorem closeUnarmed_reports (unable : (s.source i).state = .offHire ∨
    ((s.source i).state = .stopped ∨ (s.source i).state = .running) ∧ freeSlot s = none) :
    closeUnarmed i s = reportUnarmed i none s := by
  rcases unable with h | ⟨h | h, full⟩
  · simp [closeUnarmed, h]
  · simp [closeUnarmed, h, full]
  · simp [closeUnarmed, h, full]

theorem closeUnarmed_unlisted (unlisted : (s.source i).state = .unlisted) : closeUnarmed i s = s := by
  simp [closeUnarmed, unlisted]

/-! ## The rows (R90, R107) -/

variable {t : Nat}

theorem exec_fillPointClose (fill : look s.dlv.fill i = false) (compared : look s.dlv.fillUnread i = false) :
    exec (.fillPointClose i t) s = .next (fillClosed i (setFill i true (advanceTo t s))) := by
  have row : exec (.fillPointClose i t) s = .next (fillPointClose i (advanceTo t s)) := rfl
  rw [row, fillPointClose, advanceTo_dlv, fill, compared]
  rfl

theorem exec_fillPointOpen (fill : look s.dlv.fill i = true) (compared : look s.dlv.fillUnread i = false) :
    exec (.fillPointOpen i t) s = .next (fillOpened i (setFill i false (advanceTo t s))) := by
  have row : exec (.fillPointOpen i t) s = .next (fillPointOpen i (advanceTo t s)) := rfl
  rw [row, fillPointOpen, advanceTo_dlv, fill, compared]
  rfl

theorem exec_fillPointRestartCheck (unread : look s.dlv.fillUnread i = true) (closed : Bool) :
    exec (.fillPointRestartCheck i closed t) s =
      .next (compareFill i closed (setFill i closed (setFillUnread i false (advanceTo t s)))) := by
  have row : exec (.fillPointRestartCheck i closed t) s = .next (fillRestartCheck i closed (advanceTo t s)) := rfl
  rw [row, fillRestartCheck, advanceTo_dlv, unread]
  rfl

end

/-- R97: the end of an unarmed fill, on both gauges or UNCHECKED. -/
theorem endUnarmed_read {s : State} {d : SlotNo} {r : Delivery} {atOpen atClose start : Nat}
    (opened : r.gaugeAtOpen = some (some atOpen)) (marked : r.markAtOpen = some start)
    (closed : gaugeForDelivery s r.source = some atClose) : endUnarmed d r s =
      endDelivery d .closedUnarmed
        (((atClose : Int) - atOpen) + (((s.tank r.source).mark - start) / 3600 : Nat)).toNat
        (setDelivery d (some { r with
          gaugeAtClose := some (some atClose), markAtClose := some (s.tank r.source).mark,
          burnDuring := some (((s.tank r.source).mark - start) / 3600),
          gaugeRise := some ((atClose : Int) - atOpen) }) s) := by
  rw [endUnarmed, closeFigures_read opened closed, burnBetween_eq marked]
  rfl

theorem endUnarmed_unread {s : State} {d : SlotNo} {r : Delivery} {start : Nat}
    (unread : r.gaugeAtOpen = some none ∨ gaugeForDelivery s r.source = none) (marked : r.markAtOpen = some start)
    (unrisen : r.gaugeRise = none) : endUnarmed d r s =
      endDelivery d .closedUnarmed 0 (setDelivery d (some { r with
        gaugeAtClose := some (gaugeForDelivery s r.source), markAtClose := some (s.tank r.source).mark,
        burnDuring := some (((s.tank r.source).mark - start) / 3600), unchecked := true }) s) := by
  rw [endUnarmed, closeFigures_unread unread, burnBetween_eq marked]
  simp only [unarmedCredit, unrisen]

/-- Settles O53: each row by what the line's history lets it take, and each change by the state of the delivery that the
source has, or by the source where it has none. -/
theorem fillPointsMoveDeliveries : Obligations.FillPointsMoveDeliveries := by
  refine ⟨?delivery, fun s i t idle => ?none, fun s i => ⟨fun idle => ?_, fun d r slot source only => ?byHand⟩⟩
  case delivery =>
    rintro s u w i d r q t gauge slot rfl only hgauge hq
    have active {v : State} (same : SameFuel s v) : activeOn v r.source = some d :=
      (same.activeOn _).trans (activeOn_of_only slot rfl only)
    have reads : gaugeForDelivery s r.source = gauge := hgauge.symm
    have opens : openRec s r = q := by
      rw [hq, openRec, reads]
      rfl
    refine ⟨fun fill compared hu => ?close, fun fill compared hu opened armed => ?fills,
      fun fill compared hu => ⟨fun shut => ?stays, fun start burn closed opened unarmed marked unrisen => ?ends⟩,
      fun unread found hfound => ⟨fun shut => ?found, fun opened => ?foundOpen⟩,
      fun unread hw => ?foundClosed⟩
    case close =>
      have same : SameFuel s u := hu ▸ sameFuel_setFill s _ _ t
      rw [exec_fillPointClose fill compared, ← hu]
      refine ⟨fun armed => ?_, fun waits => ?_, fun filled => ?_⟩
      · rw [fillClosed_armed (active same) (same.slot slot) armed, same.openRec, same.gauge, opens, reads]
      · rw [fillClosed_waits (active same) (same.slot slot) waits, same.openRec, same.gauge, opens, reads]
      · rw [fillClosed_filled (active same) (same.slot slot) filled]
    case fills =>
      have same : SameFuel s u := hu ▸ sameFuel_setFill s _ _ t
      rw [exec_fillPointOpen fill compared, ← hu, fillOpened_fills (active same) (same.slot slot) opened armed, hu]
      rfl
    case stays =>
      have same : SameFuel s u := hu ▸ sameFuel_setFill s _ _ t
      rw [exec_fillPointOpen fill compared, ← hu, fillOpened_stays (active same) (same.slot slot) shut]
    case ends =>
      intro hburn hclosed
      have same : SameFuel s u := hu ▸ sameFuel_setFill s _ _ t
      rw [exec_fillPointOpen fill compared, ← hu, fillOpened_ends (active same) (same.slot slot) opened unarmed]
      refine ⟨fun atOpen atClose gaugeOpen gaugeClose rise hrise => ?_, fun absent => ?_⟩
      · rw [endUnarmed_read gaugeOpen marked ((same.gauge _).trans (reads.trans gaugeClose)), same.tank, ← hburn,
          ← hrise, hclosed, gaugeClose]
      · rw [endUnarmed_unread (absent.imp_right fun h => (same.gauge _).trans (reads.trans h)) marked unrisen,
          same.gauge, same.tank, reads, ← hburn, hclosed]
    case found =>
      have notOpened : r.state ≠ .opened := by rcases shut with h | h | h <;> simp [h]
      have same (b : Bool) := sameFuel_found s r.source b t
      refine ⟨?_, ?_⟩
      · rw [exec_fillPointRestartCheck unread,
          compareFill_closes (active (same true)) ((same true).slot slot) notOpened, hfound,
          exec_fillPointClose (by simp) (by simp), advanceTo_setFill, advanceTo_setFillUnread, setFill_twice]
      · rw [exec_fillPointRestartCheck unread, compareFill_opens (active (same false)),
          fillOpened_stays (active (same false)) ((same false).slot slot) notOpened]
    case foundOpen =>
      have same := sameFuel_found s r.source false t
      rw [exec_fillPointRestartCheck unread, compareFill_opens (active same), hfound,
        exec_fillPointOpen (by simp) (by simp), advanceTo_setFill, advanceTo_setFillUnread, setFill_twice]
    case foundClosed =>
      have same : SameFuel s w := hw ▸ sameFuel_found s _ _ t
      rw [exec_fillPointRestartCheck unread, ← hw]
      refine ⟨fun opened => ?_, fun armed => ?_⟩
      · rw [compareFill_stands (active same) (same.slot slot) opened]
      · rw [compareFill_closes (active same) (same.slot slot) (by simp [armed]),
          fillClosed_armed (active same) (same.slot slot) armed, same.openRec, same.gauge, opens, reads]
  case none =>
    have none_active := (activeOn_eq_none_iff s i).mpr idle
    refine ⟨fun unread closed => ?_, fun fill compared => ?close, fun fill compared => ?_⟩
    · have same := sameFuel_found s i closed t
      rw [exec_fillPointRestartCheck unread, compareFill_idle ((same.activeOn i).trans none_active)]
    case close =>
      have same := sameFuel_setFill s i true t
      rw [exec_fillPointClose fill compared, fillClosed_idle ((same.activeOn i).trans none_active)]
      refine ⟨fun d gauge resting free below hgauge r hr => ?_, fun unable gauge hgauge => ?_, fun unlisted => ?_⟩
      · subst hgauge hr
        rw [closeUnarmed_makes (s := setFill i true (advanceTo t s)) resting (freeSlot_of_lowest free below)]
        rfl
      · subst hgauge
        rw [closeUnarmed_reports (s := setFill i true (advanceTo t s))
          (unable.imp_right (And.imp_right freeSlot_none))]
        rfl
      · rw [closeUnarmed_unlisted (s := setFill i true (advanceTo t s)) unlisted]
    · have same := sameFuel_setFill s i false t
      rw [exec_fillPointOpen fill compared, fillOpened_idle ((same.activeOn i).trans none_active)]
  case byHand =>
    subst source
    have active : activeOn s r.source = some d := activeOn_of_only slot rfl only
    exact ⟨loadedByHand_armed active slot, loadedByHand_opened active slot, loadedByHand_stays active slot⟩
  · exact loadedByHand_idle ((activeOn_eq_none_iff s i).mpr idle)

end Sys2Proof.Machine
end

section
/-! Readings, reconciliation, cancelling and expiry (R99 to R102), the end of a delivery (R103, R83, R12) and the
returns that it makes (R104). -/

namespace Sys2Proof.Machine

/-! ## The delivery that a reference names (R99) -/

section
variable {s : State} {reference : Nat}

theorem activeReference_of_only {d : SlotNo} {r : Delivery} (slot : s.delivery d = some r)
    (carries : r.reference = some reference)
    (only : ∀ e p, s.delivery e = some p → p.reference = some reference → e = d) :
    activeReference s reference = some d := by
  refine find?_indices_of_lowest (by simp [slot, carries]) fun e fits => ?_
  cases here : s.delivery e with
  | none => simp [here] at fits
  | some p => exact (only e p here (by simpa [here] using fits)).ge

theorem named_active {d : SlotNo} (active : activeReference s reference = some d) : named reference s = .ok d := by
  rw [named, active]

/-- R99: LATE where a last-ended record carries the reference, and UNKNOWN where none does. -/
theorem named_inactive {e : Status} (inactive : activeReference s reference = none)
    (answer : (∃ i r, s.lastEnded i = some r ∧ r.reference = some reference) ∧ e = .late ∨
      (∀ i r, s.lastEnded i = some r → r.reference ≠ some reference) ∧ e = .unknown) :
    named reference s = .error e := by
  unfold named
  simp only [inactive]
  rcases answer with ⟨⟨i, r, ended, carries⟩, rfl⟩ | ⟨nobody, rfl⟩
  · rw [if_pos (List.any_eq_true.mpr ⟨i, mem_indices i, by simp [ended, carries]⟩)]
  · rw [if_neg]
    rw [Bool.not_eq_true, List.any_eq_false]
    intro i _
    cases ended : s.lastEnded i with
    | none => simp
    | some r => simpa using nobody i r ended

end

/-! ## The owners (R99, R100, R102) -/

section
variable {m : StationNo} {st : Station} {s : State} {reference register : Nat}

section
variable {e : Status} (unnamed : named reference s = .error e)
include unnamed

theorem ownerMeterReading_unnamed : ownerMeterReading reference register m st s = refuse e s := by
  rw [ownerMeterReading, unnamed]

theorem ownerCloseDelivery_unnamed : ownerCloseDelivery reference register m st s = refuse e s := by
  rw [ownerCloseDelivery, unnamed]

theorem ownerCancel_unnamed : ownerCancel reference m st s = refuse e s := by rw [ownerCancel, unnamed]

end

section
variable {d : SlotNo} {r : Delivery} (names : named reference s = .ok d) (slot : s.delivery d = some r)
include names slot

theorem ownerMeterReading_writes (fills : r.state = .opened ∨ r.state = .filled) :
    ownerMeterReading reference register m st s =
      ⟨setDelivery d (some { r with latestRegister := register }) s, .ok,
        .metered ((register + 4294967296 - r.registerAtArm) % 4294967296)⟩ := by
  have open_ : (r.state == .opened || r.state == .filled) = true := by simpa using fills
  simp only [ownerMeterReading, names, slot, open_, if_true]
  rfl

theorem ownerMeterReading_early (waits : r.state = .armed ∨ r.state = .waitingUnload) :
    ownerMeterReading reference register m st s = refuse .state s := by
  rcases waits with h | h <;> simp [ownerMeterReading, names, slot, h]

theorem ownerCloseDelivery_closes (filled : r.state = .filled) : ownerCloseDelivery reference register m st s =
    ⟨closeFilled d { r with latestRegister := register } s, .ok,
      closedBody (closeFilled d { r with latestRegister := register } s) r.source⟩ := by
  simp [ownerCloseDelivery, names, slot, filled, withRegister]

theorem ownerCloseDelivery_unfilled (unfilled : r.state ≠ .filled) :
    ownerCloseDelivery reference register m st s = refuse .state s := by
  simp [ownerCloseDelivery, names, slot, unfilled]

theorem ownerCancel_cancels (waits : r.state = .armed ∨ r.state = .waitingUnload) :
    ownerCancel reference m st s = ⟨endDelivery d .cancelled 0 s, .ok, .empty⟩ := by
  rcases waits with h | h <;> simp [ownerCancel, names, slot, waitingToOpen, h]

theorem ownerCancel_late (fills : r.state = .opened ∨ r.state = .filled) :
    ownerCancel reference m st s = refuse .state s := by
  rcases fills with h | h <;> simp [ownerCancel, names, slot, waitingToOpen, h]

end

end

/-! ## Reconciliation (R101) -/

section
variable {s : State} {d : SlotNo} {r : Delivery} {start capacity : Nat} (marked : r.markAtOpen = some start)
  (holds : (s.tank r.source).capacity = some capacity)
include marked holds

/-- R101: both gauges read, the end state goes by the variance, and DISPUTED stands for a metered quantity held. -/
theorem closeFilled_read {atOpen atClose m burn tol : Nat} {rise v : Int}
    (opened : r.gaugeAtOpen = some (some atOpen)) (closed : gaugeForDelivery s r.source = some atClose)
    (hm : m = min capacity (meteredOf r)) (hburn : burn = ((s.tank r.source).mark - start) / 3600)
    (hrise : rise = (atClose : Int) - atOpen) (hv : v = rise - ((m : Int) - burn))
    (htol : tol = 20 + m * r.tolerancePm / 1000) :
    closeFilled d r s = endDelivery d (if capacity < meteredOf r ∨ tol < v.natAbs then .disputed else .closed) m
      (setDelivery d (some { r with
        gaugeAtClose := some (some atClose), markAtClose := some (s.tank r.source).mark, burnDuring := some burn,
        gaugeRise := some rise, metered := some m, variance := some v, tolerance := some tol }) s) := by
  have judged : reconcile s r = ({ r with
      gaugeAtClose := some (some atClose), markAtClose := some (s.tank r.source).mark, burnDuring := some burn,
      gaugeRise := some rise, metered := some m, variance := some v, tolerance := some tol },
      if capacity < meteredOf r ∨ tol < v.natAbs then .disputed else .closed) := by
    subst hv htol hrise hburn
    simp only [reconcile, holds, Option.getD_some, closeFigures_read opened closed, burnBetween_eq marked, ← hm,
      withVariance, judgeDelivery, decide_eq_true_eq]
    by_cases held : capacity < meteredOf r
    · simp [held]
    · simp only [held, if_false, false_or, ← not_le, ite_not]
  rw [closeFilled, judged]
  rfl

/-- R101: a gauge unread leaves the delivery UNCHECKED, and only a held quantity DISPUTED. -/
theorem closeFilled_unread {m : Nat} (unread : r.gaugeAtOpen = some none ∨ gaugeForDelivery s r.source = none)
    (unrisen : r.gaugeRise = none) (unvaried : r.variance = none) (hm : m = min capacity (meteredOf r)) :
    closeFilled d r s = endDelivery d (if capacity < meteredOf r then .disputed else .closed) m
      (setDelivery d (some { r with
        unchecked := true, gaugeAtClose := some (gaugeForDelivery s r.source),
        markAtClose := some (s.tank r.source).mark,
        burnDuring := some (((s.tank r.source).mark - start) / 3600), metered := some m }) s) := by
  have judged : reconcile s r = ({ r with
      unchecked := true, gaugeAtClose := some (gaugeForDelivery s r.source),
      markAtClose := some (s.tank r.source).mark,
      burnDuring := some (((s.tank r.source).mark - start) / 3600), metered := some m },
      if capacity < meteredOf r then .disputed else .closed) := by
    simp only [reconcile, holds, Option.getD_some, closeFigures_unread unread, burnBetween_eq marked, ← hm,
      withVariance, unrisen, judgeDelivery, unvaried, decide_eq_true_eq]
  rw [closeFilled, judged]
  rfl

end

/-! ## The end of a delivery (R103) -/

section
variable {s : State} {i : SourceNo} {credit : Nat}

theorem tankCredit_nothing (nothing : (s.tank i).set = false ∨ credit = 0) : tankCredit i credit s = s := by
  have none_taken : ((s.tank i).set && credit != 0) = false := by
    rcases nothing with h | h <;> simp [h]
  simp [tankCredit, none_taken]

theorem tankCredit_eq {capacity book : Nat} (set : (s.tank i).set = true) (some_credit : credit ≠ 0)
    (holds : (s.tank i).capacity = some capacity) (booked : (s.tank i).book = some book) :
    tankCredit i credit s = setTankRec i { s.tank i with
      book := some (min capacity (book + credit)),
      overfill := (s.tank i).overfill || decide (capacity < book + credit) } s := by
  have taken : ((s.tank i).set && credit != 0) = true := by simp [set, some_credit]
  simp [tankCredit, taken, holds, booked]

theorem credits_iff {fin : DeliveryState} :
    credits fin = true ↔ fin = .closed ∨ fin = .disputed ∨ fin = .closedUnarmed := by
  simp [credits, or_assoc]

theorem tankCredit_if {pays : Prop} [Decidable pays] {capacity book : Nat} (set : (s.tank i).set = true)
    (holds : (s.tank i).capacity = some capacity) (booked : (s.tank i).book = some book) :
    (if pays then tankCredit i credit s else s) = if pays ∧ credit ≠ 0 then setTankRec i { s.tank i with
      book := some (min capacity (book + credit)),
      overfill := (s.tank i).overfill || decide (capacity < book + credit) } s else s := by
  by_cases nothing : credit = 0
  · rw [tankCredit_nothing (.inr nothing), ite_self, if_neg (by simp [nothing])]
  · rw [tankCredit_eq set nothing holds booked]
    simp only [ne_eq, nothing, not_false_eq_true, and_true]

theorem makeReturn_stays {d : SlotNo} {e : MovedEntry} (stays : (s.supply e.supply).returnHome = false) :
    makeReturn i d s e = s := by
  simp [makeReturn, stays]

theorem foldl_makeReturn_stays {d : SlotNo} {moved : List MovedEntry}
    (stays : ∀ e ∈ moved, (s.supply e.supply).returnHome = false) : moved.foldl (makeReturn i d) s = s :=
  List.foldlRecOn moved (makeReturn i d) (motive := (· = s)) rfl fun _ unmoved e listed => by
    rw [unmoved, makeReturn_stays (stays e listed)]

end

theorem leaveRefuelAtEnd_eq (p : Source) : leaveRefuelAtEnd p = { p with
    state := if p.state = .refuel then (if runningBit p then .running else .stopped) else p.state,
    reservation := none } := by
  simp only [leaveRefuelAtEnd, afterRefuel, beq_iff_eq]

/-- R103, step by step. -/
theorem endDelivery_steps {s u v : State} {d : SlotNo} {r q : Delivery} {fin : DeliveryState} {credit : Nat}
    (slot : s.delivery d = some r)
    (hq : q = { r with state := fin, credit := some credit, endTime := some s.stl.clock.time, armTimer := none,
                       finishTimer := none, surveyTimer := none })
    (hu : u = if fin = .closed ∨ fin = .disputed ∨ fin = .closedUnarmed
      then tankCredit r.source credit (setDelivery d (some q) s) else setDelivery d (some q) s)
    (hv : v = if r.cold then changeSource r.source leaveRefuelAtEnd u else u) :
    endDelivery d fin credit s =
      raise (.delivery r.source r.reference (.ended fin)) toFuelAndConsole
        (logAppend .deliveryEnd (num r.source) (some (deliveryEndCode q)) (some credit)
          (setDelivery d none (setLastEnded r.source (some q) (r.moved.foldl (makeReturn r.source d) v)))) := by
  subst hq hu hv
  simp only [endDelivery, slot, credits_iff]
  rfl

/-- R103: the end of a delivery whose moved supplies stay where they are, with no supply waiting for a restore. -/
theorem endDelivery_unmoved {s u v : State} {d : SlotNo} {r q : Delivery} {fin : DeliveryState}
    {credit capacity book : Nat} (slot : s.delivery d = some r)
    (stays : ∀ m, m ∈ r.moved → (s.supply m.supply).returnHome = false) (set : (s.tank r.source).set = true)
    (holds : (s.tank r.source).capacity = some capacity) (booked : (s.tank r.source).book = some book)
    (hq : q = { r with state := fin, credit := some credit, endTime := some s.stl.clock.time, armTimer := none,
                       finishTimer := none, surveyTimer := none })
    (hu : u = if (fin = .closed ∨ fin = .disputed ∨ fin = .closedUnarmed) ∧ credit ≠ 0 then
        setTankRec r.source { s.tank r.source with
          book := some (min capacity (book + credit)),
          overfill := (s.tank r.source).overfill || decide (capacity < book + credit) } s
      else s)
    (hv : v = if r.cold then setSource r.source (leaveRefuelAtEnd (s.source r.source)) u else u)
    (unawaited : r.cold = true → ∀ m, (s.supply m).restoreWaiting = false) :
    endDelivery d fin credit s =
      raise (.delivery r.source r.reference (.ended fin)) toFuelAndConsole
        (logAppend .deliveryEnd (num r.source) (some (deliveryEndCode q)) (some credit)
          (setDelivery d none (setLastEnded r.source (some q) v))) := by
  have credited : (if fin = .closed ∨ fin = .disputed ∨ fin = .closedUnarmed
      then tankCredit r.source credit (setDelivery d (some q) s) else setDelivery d (some q) s) =
      setDelivery d (some q) u := by
    rw [tankCredit_if (s := setDelivery d (some q) s) set holds booked, hu]
    split <;> rfl
  have supply (m : SupplyNo) : u.supply m = s.supply m := by
    rw [hu]
    split <;> rfl
  have source (i : SourceNo) : u.source i = s.source i := by
    rw [hu]
    split <;> rfl
  have left : (if r.cold then changeSource r.source leaveRefuelAtEnd (setDelivery d (some q) u)
      else setDelivery d (some q) u) = setDelivery d (some q) v := by
    rw [hv]
    cases cold : r.cold with
    | false => rfl
    | true =>
      have nobody (m : SupplyNo) : ((setDelivery d (some q) u).supply m).restoreWaiting = false := by
        rw [setDelivery_supply_at, supply, unawaited cold]
      rw [if_pos rfl, if_pos rfl, changeSource_unawaited _ nobody, setDelivery_source_at, source]
      rfl
  have unmoved : r.moved.foldl (makeReturn r.source d) (setDelivery d (some q) v) = setDelivery d (some q) v := by
    refine foldl_makeReturn_stays fun m listed => ?_
    have home : (setDelivery d (some q) v).supply m.supply = s.supply m.supply := by
      rw [setDelivery_supply_at, hv]
      split <;> simp [supply]
    rw [home, stays m listed]
  rw [endDelivery_steps slot hq rfl rfl, credited, left, unmoved]
  have freed : setDelivery d none (setLastEnded r.source (some q) (setDelivery d (some q) v)) =
      setDelivery d none (setLastEnded r.source (some q) v) :=
    setDelivery_twice (setLastEnded r.source (some q) v) d (some q) none
  rw [freed]

/-! ## The rows -/

/-- R100, R101: CLOSE DELIVERY and the finish timer reconcile a FILLED delivery alike, from its record with the latest
register and the way it closed. -/
theorem filled_closes {rq : Request} {n : StationNo} {st : Station} {s : State} {d : SlotNo} {r q : Delivery}
    {ref register latest m : Nat} {auto : Bool} {fin : DeliveryState} (slot : s.delivery d = some r)
    (active : activeReference s ref = some d) (filled : r.state = .filled)
    (closes : ∀ v, SameFuel s v → closeFilled d { r with latestRegister := latest, autoClosed := auto } v =
      endDelivery d fin m (setDelivery d (some q) v)) :
    (Taken rq kindCloseDelivery n st s → latest = register → auto = r.autoClosed →
      exec (.closeDelivery rq ref register) s =
        replied rq kindCloseDelivery n .ok
          (closedBody (endDelivery d fin m (setDelivery d (some q) (heard rq n s))) r.source)
          (endDelivery d fin m (setDelivery d (some q) (heard rq n s)))) ∧
    (∀ due, r.finishTimer = some due → latest = r.latestRegister → auto = true →
      exec (.finishTimerExpiry d) s =
        .next (endDelivery d fin m (setDelivery d (some q) (advanceTo (due * 1000) s)))) := by
  refine ⟨fun taken hlatest hauto => ?_, fun due timer hlatest hauto => ?_⟩
  · subst hlatest hauto
    rw [← closes (heard rq n s) (sameFuel_heard rq n s)]
    have names : named ref (heard rq n s) = .ok d := named_active active
    exact request_done _ _ _ _ _ _ _ taken (fun _ => rfl) _ _ _ (ownerCloseDelivery_closes names slot filled)
  · subst hlatest hauto
    have row : exec (.finishTimerExpiry d) s = .next (finishExpiry d s) := rfl
    rw [← closes (advanceTo (due * 1000) s) (sameFuel_advanceTo s _), row]
    simp [finishExpiry, slot, timer, filled, advanceToMs]

theorem armExpiry_expires {s : State} {d : SlotNo} {r : Delivery} {due : Nat} (slot : s.delivery d = some r)
    (timer : r.armTimer = some due) (waits : r.state = .armed ∨ r.state = .waitingUnload) :
    armExpiry d s = endDelivery d .expired 0 (advanceTo (due * 1000) s) := by
  rcases waits with h | h <;> simp [armExpiry, slot, timer, waitingToOpen, h, advanceToMs]

/-- Settles O54: each request by the delivery that its reference names, the two closes by what reconciliation makes of
the record, and the end of a delivery step by step. -/
theorem deliveriesAreReconciled : Obligations.DeliveriesAreReconciled := by
  refine ⟨?named, ?unmoved, ?unnamed, ?steps, fun s i d m => ⟨makeReturn_stays, fun home => if_pos home⟩,
    fun s i credit => ⟨tankCredit_nothing, fun capacity book => tankCredit_eq⟩⟩
  case named =>
    intro rq n st s d r ref register slot carries only
    have active := activeReference_of_only slot carries only
    have names : named ref (heard rq n s) = .ok d := named_active active
    refine ⟨fun taken => ⟨fun fills => ?_, fun waits => ?_⟩, ?read, ?unread, fun taken unfilled => ?_,
      fun taken => ⟨fun waits => ?_, fun fills => ?_⟩, fun due timer waits => ?_⟩
    · exact request_done _ _ _ _ _ _ _ taken (fun _ => rfl) _ _ _ (ownerMeterReading_writes names slot fills)
    · exact request_anyObject taken (ownerMeterReading_early names slot waits)
    case read =>
      intro atOpen atClose start auto latest m0 capacity m burn rise v tol q filled opened marked fresh gauge holds hm0
        hm hburn hrise hv htol hq fin hfin
      refine filled_closes slot active filled fun w same => ?_
      have closed : gaugeForDelivery w r.source = some atClose := by
        rw [same.gauge, gaugeForDelivery, fresh, gauge]
        rfl
      rw [← same.tank] at holds hburn hq
      subst hm0 hq hfin
      exact closeFilled_read (r := { r with latestRegister := latest, autoClosed := auto }) marked holds opened closed
        hm hburn hrise hv htol
    case unread =>
      intro start gauge auto latest m0 capacity m q filled marked unrisen unvaried _ hgauge unread holds hm0 hm hq fin
        hfin
      refine filled_closes slot active filled fun w same => ?_
      have reads : gaugeForDelivery w r.source = gauge := (same.gauge r.source).trans hgauge.symm
      rw [← same.tank] at holds hq
      rw [← reads] at unread hq
      subst hm0 hq hfin
      exact closeFilled_unread (r := { r with latestRegister := latest, autoClosed := auto }) marked holds unread.symm
        unrisen unvaried hm
    · exact request_anyObject taken (ownerCloseDelivery_unfilled names slot unfilled)
    · exact request_done _ _ _ _ _ _ _ taken (fun _ => rfl) _ _ _ (ownerCancel_cancels names slot waits)
    · exact request_anyObject taken (ownerCancel_late names slot fills)
    · exact congrArg Host.Outcome.next (armExpiry_expires slot timer waits)
  case unmoved =>
    intro s u v d r q fin credit capacity book slot stays set holds booked hq hu hv unawaited
    rw [endDelivery_unmoved (v := v) slot stays set holds booked hq hu (by rw [hv, leaveRefuelAtEnd_eq]) unawaited, hq]
    rfl
  case unnamed =>
    intro rq n st s ref register e inactive answer
    have unnamed : named ref (heard rq n s) = .error e :=
      named_inactive ((activeReference_eq_none_iff s ref).mpr inactive) answer
    exact ⟨fun taken => request_anyObject taken (ownerMeterReading_unnamed unnamed),
      fun taken => request_anyObject taken (ownerCloseDelivery_unnamed unnamed),
      fun taken => request_anyObject taken (ownerCancel_unnamed unnamed)⟩
  case steps =>
    intro s u v d r q fin credit slot hq hu hv
    rw [endDelivery_steps (v := v) slot hq hu (by rw [hv, funext leaveRefuelAtEnd_eq]), hq]
    rfl

end Sys2Proof.Machine
end

section
/-! DEFINE CHANNEL (R109, R110): the fields that a request carries, the objects it names, and the three answers of its
owner. -/

namespace Sys2Proof.Machine

/-- R109 check 1: a supply, or none, as it is carried. -/
theorem optionalNumber_carried {n : Nat} (m : Option (Fin n)) :
    optionalNumber (number? n) (m.map numberOf) = some m := by
  cases m <;> simp [optionalNumber]

/-- R109 check 1: fields within their ranges, the width by default where none is carried. -/
theorem channelFields_carried (m : Option SupplyNo) (a : AccountNo) {wh width : Nat} {q : Option Nat}
    (selects : width = q.getD 20) (wh1 : 1 ≤ wh) (wh1000 : wh ≤ 1000) (width5 : 5 ≤ width) (width100 : width ≤ 100) :
    channelFields (m.map numberOf) a.1 wh q = some { supply := m, account := a, wh := wh, width := width } := by
  subst selects
  simp only [channelFields, optionalNumber_carried, index?_val]
  exact if_pos ⟨wh1, wh1000, width5, width100⟩

/-- R109 checks 2 and 3. -/
theorem channelObjects_eq_true_iff (f : ChanFields) (s : State) : channelObjects f s = true ↔
    (s.account f.account).defined = true ∧ ∀ x, f.supply = some x → (s.supply x).defined = true := by
  unfold channelObjects
  cases f.supply <;> simp

theorem channelObjects_eq_false_iff (f : ChanFields) (s : State) : channelObjects f s = false ↔
    (s.account f.account).defined = false ∨ ∃ x, f.supply = some x ∧ (s.supply x).defined = false := by
  rw [← Bool.not_eq_true, channelObjects_eq_true_iff]
  simp [imp_iff_not_or]

/-- R110: the bins stand where a defined channel keeps its wh per pulse. -/
theorem definedChan_eq (ms : Nat) (f : ChanFields) (c : Chan) : definedChan ms f c = { c with
    defined := true, supply := f.supply, account := some f.account, wh := f.wh, width := f.width,
    bins := if c.defined = true ∧ c.wh = f.wh then c.bins else List.replicate 60 0,
    noise := false, saturated := false, discarded := 0, pulseStart := none, discardMark := false,
    lastFall := if c.line then none else some ms } := by
  have same : (if !c.defined || c.wh != f.wh then List.replicate 60 0 else c.bins) =
      if c.defined = true ∧ c.wh = f.wh then c.bins else List.replicate 60 0 := by
    cases c.defined <;> simp [bne_iff_ne, ite_not]
  rw [definedChan, same]

theorem channelWritten_eq (k : ChannelNo) (g : Chan → Chan) (s : State) :
    channelWritten k g s = ⟨setChan k (g (s.chan k)) s, .ok, .channelSet (g (s.chan k))⟩ := by
  simp [channelWritten, modChan]

section
variable (k : ChannelNo) (a : AccountNo) (n : StationNo) (st : Station) (s : State)
  {supply : Option Nat} {wh : Nat} {width : Option Nat} {f : ChanFields}

theorem ownerDefineChannel_undefines :
    ownerDefineChannel k.1 supply none wh width n st s = channelWritten k undefinedChan s := by
  simp [ownerDefineChannel]

theorem ownerDefineChannel_defines (fields : channelFields supply a.1 wh width = some f)
    (objects : channelObjects f s = true) :
    ownerDefineChannel k.1 supply (some a.1) wh width n st s = channelWritten k (definedChan s.ms f) s := by
  simp [ownerDefineChannel, fields, objects]

theorem ownerDefineChannel_unknown (fields : channelFields supply a.1 wh width = some f)
    (objects : channelObjects f s = false) :
    ownerDefineChannel k.1 supply (some a.1) wh width n st s = refuse .unknown s := by
  simp [ownerDefineChannel, fields, objects]

end

/-- Settles O56: with an account, the fields are read as they were carried and the objects they name decide the answer;
without one, the channel is undefined. -/
theorem channelsAreDefined : Obligations.ChannelsAreDefined := by
  intro rq n st s k taken
  have written {supply account : Option Nat} {wh : Nat} {width : Option Nat} {g : Chan → Chan} {r : Chan}
      (hr : r = g (s.chan k))
      (owner : ownerDefineChannel k.1 supply account wh width n (requester rq st s) (heard rq n s) =
        channelWritten k g (heard rq n s)) :
      exec (.defineChannel rq k.1 supply account wh width) s =
        replied rq kindDefineChannel n .ok (.channelSet r) (setChan k r (heard rq n s)) := by
    subst hr
    exact request_done _ _ _ _ _ _ _ taken (fun _ => rfl) _ _ _ (owner.trans (channelWritten_eq k g _))
  refine ⟨fun m a wh width q wh1 wh1000 selects width5 width100 => ?given, fun m wh width r hr => ?none⟩
  case given =>
    have fields := channelFields_carried m a selects wh1 wh1000 width5 width100
    refine ⟨fun account supply r hr => ?defines, fun missing => ?unknown⟩
    case defines =>
      have objects := (channelObjects_eq_true_iff ⟨m, a, wh, width⟩ (heard rq n s)).mpr ⟨account, supply⟩
      exact written (hr.trans (definedChan_eq _ ⟨m, a, wh, width⟩ (s.chan k)).symm)
        (ownerDefineChannel_defines k a n _ _ fields objects)
    case unknown =>
      have objects := (channelObjects_eq_false_iff ⟨m, a, wh, width⟩ (heard rq n s)).mpr missing
      exact request_anyObject taken (ownerDefineChannel_unknown k a n _ _ fields objects)
  case none => exact written hr (ownerDefineChannel_undefines k n _ _)

end Sys2Proof.Machine
end

section
/-! The edges of a meter line (R111, R112, R115): what a rise starts, how a fall is judged, and what a counted pulse
adds. -/

namespace Sys2Proof.Machine

/-! ## A rise -/

section
variable {ms f : Nat} {c : Chan}

theorem riseChan_of_long_low (fell : c.lastFall = some f) (long : f + c.width ≤ ms) :
    riseChan ms c = { c with line := true, pulseStart := some ms } := by
  simp only [riseChan, fell]
  exact if_pos (by omega)

theorem riseChan_of_short_low (fell : c.lastFall = some f) (past : f ≤ ms) (short : ms < f + c.width) :
    riseChan ms c = { c with line := true, pulseStart := none, discardMark := true } := by
  simp only [riseChan, fell]
  exact if_neg (by omega)

theorem riseChan_of_no_fall (fell : c.lastFall = none) :
    riseChan ms c = { c with line := true, pulseStart := none } := by
  simp only [riseChan, fell]

end

/-! ## The judgement of a fall -/

section
variable {ms p : Nat} {c : Chan}

theorem judgePulse_of_start (start : c.pulseStart = some p) :
    judgePulse ms c = if c.width ≤ ms - p ∧ ms - p ≤ 1000 then .counted else .discarded := by
  simp [judgePulse, start, Config.longestPulseMs]

theorem judgePulse_counted (start : c.pulseStart = some p) (long : p + c.width ≤ ms) (short : ms ≤ p + 1000) :
    judgePulse ms c = .counted :=
  (judgePulse_of_start start).trans (if_pos (by omega))

theorem judgePulse_discarded
    (h : (∃ p, c.pulseStart = some p ∧ p ≤ ms ∧ (ms < p + c.width ∨ p + 1000 < ms)) ∨
      (c.pulseStart = none ∧ c.discardMark = true)) : judgePulse ms c = .discarded := by
  rcases h with ⟨p, start, past, wrong⟩ | ⟨start, marked⟩
  · exact (judgePulse_of_start start).trans (if_neg (by omega))
  · simp [judgePulse, start, marked]

theorem judgePulse_nothing (start : c.pulseStart = none) (unmarked : c.discardMark = false) :
    judgePulse ms c = .nothing := by
  simp [judgePulse, start, unmarked]

end

/-! ## What a counted pulse adds -/

/-- R112 step 1: the newest bin takes the pulse. -/
theorem countChan_of_bins {c : Chan} {b : Nat} {rest : List Nat} (bins : c.bins = b :: rest) (old : Nat) :
    countChan old c = { c with
      bins := min 65535 (b + 1) :: rest, energy := min (c.energy + c.wh) 4294967295,
      saturated := c.saturated || decide (4294967295 < c.energy + c.wh) || decide (4294967295 < old + c.wh) } := by
  rw [countChan, bins]
  rfl

/-- R112 step 3: the column is that of the source of record of the channel's supply, or UNSOURCED. -/
theorem columnOf_eq {s : State} {c : Chan} {col : Fin 17}
    (sourced : ∀ m i, c.supply = some m → (s.supply m).record = some i → col.1 = i.1)
    (unsourced : (∀ m i, c.supply = some m → (s.supply m).record ≠ some i) → col.1 = 16) : columnOf s c = col := by
  apply Fin.ext
  unfold columnOf
  cases source : c.supply.bind fun n => (s.supply n).record with
  | none =>
    refine (unsourced fun m i named holds => ?_).symm
    simp [named, holds] at source
  | some i =>
    obtain ⟨m, named, holds⟩ := Option.bind_eq_some_iff.mp source
    exact (sourced m i named holds).symm

/-! ## The edges -/

section
variable {k : ChannelNo} {t : Nat} {s u : State}

theorem exec_meterRisingEdge (rises : risingEdge k (advanceTo t s) = u) : exec (.meterRisingEdge k t) s = .next u :=
  congrArg Host.Outcome.next rises

theorem exec_meterFallingEdge (falls : fallingEdge k (advanceTo t s) = u) : exec (.meterFallingEdge k t) s = .next u :=
  congrArg Host.Outcome.next falls

theorem risingEdge_defined (low : (s.chan k).line = false) (defined : (s.chan k).defined = true) :
    risingEdge k s = setChan k (riseChan s.ms (s.chan k)) s := by
  simp [risingEdge, modChan, low, defined]

theorem risingEdge_undefined (low : (s.chan k).line = false) (undefined : (s.chan k).defined = false) :
    risingEdge k s = setChan k { s.chan k with line := true } s := by
  simp [risingEdge, modChan, low, undefined]

theorem fallingEdge_undefined (high : (s.chan k).line = true) (undefined : (s.chan k).defined = false) :
    fallingEdge k s = setChan k { s.chan k with line := false } s := by
  simp [fallingEdge, modChan, high, undefined]

section
variable (high : (s.chan k).line = true) (defined : (s.chan k).defined = true)
include high defined

theorem fallingEdge_counted {a : AccountNo} (owned : (s.chan k).account = some a)
    (judged : judgePulse s.ms (s.chan k) = .counted) :
    fallingEdge k s = countPulse k a (setChan k (fallChan s.ms (s.chan k)) s) := by
  simp [fallingEdge, fallDefined, modChan, high, defined, judged, owned]

theorem fallingEdge_discarded (judged : judgePulse s.ms (s.chan k) = .discarded) :
    fallingEdge k s = setChan k (discardChan (fallChan s.ms (s.chan k))) s := by
  simp [fallingEdge, fallDefined, modChan, high, defined, judged]

theorem fallingEdge_nothing (judged : judgePulse s.ms (s.chan k) = .nothing) :
    fallingEdge k s = setChan k (fallChan s.ms (s.chan k)) s := by
  simp [fallingEdge, fallDefined, modChan, high, defined, judged]

end

/-- R112: a pulse counted on a channel whose record has just been written. -/
theorem countPulse_setChan {a : AccountNo} {c : Chan} {col : Fin 17} (column : columnOf s c = col) :
    countPulse k a (setChan k c s) =
      setMatrix (addCell s.mtr.matrix a col c.wh) (setChan k (countChan (cell s.mtr.matrix a col) c) s) := by
  subst column
  simp [countPulse, modChan, columnOf]

end

/-- Settles O57: a rise by the low before it, a fall by the judgement of its pulse, and a counted pulse by the column of
the source of record. -/
theorem pulsesAreCounted : Obligations.PulsesAreCounted := by
  intro s k t ms hms
  subst hms
  refine ⟨fun low defined => ?rise, fun high defined a owned r hr => ?fall, fun undefined => ?unowned⟩
  case rise =>
    have rises {c : Chan} (e : riseChan (advanceTo t s).ms (s.chan k) = c) :
        exec (.meterRisingEdge k t) s = .next (setChan k c (advanceTo t s)) :=
      e ▸ exec_meterRisingEdge (risingEdge_defined low defined)
    exact ⟨fun f fell _ long => rises (riseChan_of_long_low fell long),
      fun f fell past short => rises (riseChan_of_short_low fell past short),
      fun fell => rises (riseChan_of_no_fall fell)⟩
  case fall =>
    subst hr
    refine ⟨fun p start long short b rest col old bins column hold => ?counted, fun wrong => ?discarded,
      fun start unmarked => ?nothing⟩
    case counted =>
      subst hold
      obtain ⟨sourced, unsourced⟩ := column
      have fallen : (fallChan (advanceTo t s).ms (s.chan k)).bins = b :: rest := bins
      have added := countPulse_setChan (k := k) (a := a) (s := advanceTo t s)
        (c := fallChan (advanceTo t s).ms (s.chan k)) (columnOf_eq sourced unsourced)
      rw [countChan_of_bins fallen] at added
      exact exec_meterFallingEdge
        ((fallingEdge_counted (s := advanceTo t s) high defined owned (judgePulse_counted start long short)).trans added)
    case discarded => exact exec_meterFallingEdge (fallingEdge_discarded high defined (judgePulse_discarded wrong))
    case nothing =>
      exact exec_meterFallingEdge (fallingEdge_nothing high defined (judgePulse_nothing start unmarked))
  case unowned =>
    exact ⟨fun low => exec_meterRisingEdge (risingEdge_undefined low undefined),
      fun high => exec_meterFallingEdge (fallingEdge_undefined high undefined)⟩

end Sys2Proof.Machine
end

section
/-! The end of an interval (R120): what each block hands over and carries (R17, R31, R82, R116), the record that holds
it (R123), and SET TIME (R121, R153). -/

namespace Sys2Proof.Machine

/-! ## One record -/

theorem closeHireRec_eq (r : Source) :
    closeHireRec r = { r with hireAcc := r.hireAcc % 3600, lastClosed := r.hireAcc / 3600 } := by
  have carry : r.hireAcc - 3600 * (r.hireAcc / 3600) = r.hireAcc % 3600 := by omega
  rw [closeHireRec, carry]

/-- R82: what a closing leaves in a tank, but for the book and DRY. -/
theorem closeBurnRec_eq (k : Tank) : closeBurnRec k =
    { k with acc := k.acc % 3600, closedBurn := k.acc / 3600, lastEstimated := k.estimated, estimated := false,
             book := (closeBurnRec k).book, dry := (closeBurnRec k).dry } := by
  have carry : k.acc - 3600 * (k.acc / 3600) = k.acc % 3600 := by omega
  unfold closeBurnRec
  dsimp only
  rw [carry]
  split <;> rfl

theorem closeBurnRec_figures (k : Tank) : (closeBurnRec k).acc = k.acc % 3600 ∧
    (closeBurnRec k).closedBurn = k.acc / 3600 ∧ (closeBurnRec k).lastEstimated = k.estimated ∧
    (closeBurnRec k).estimated = false := by
  rw [closeBurnRec_eq]
  exact ⟨rfl, rfl, rfl, rfl⟩

/-- R82: the book of a set tank falls by the closed burn, held at 0 with DRY. -/
theorem closeBurnRec_book {k : Tank} {b : Nat} (set : k.set = true) (book : k.book = some b) :
    (closeBurnRec k).book = some (b - k.acc / 3600) ∧
      (closeBurnRec k).dry = (k.dry || decide (b < k.acc / 3600)) := by
  simp [closeBurnRec, set, book]

theorem closeBurnRec_unset {k : Tank} (h : k.set = false ∨ k.book = none) :
    (closeBurnRec k).book = k.book ∧ (closeBurnRec k).dry = k.dry := by
  unfold closeBurnRec
  dsimp only
  split
  case h_1 b set book => rcases h with h | h <;> simp_all
  case h_2 => exact ⟨rfl, rfl⟩

/-! ## DRY raised (R82) -/

theorem raise_frame (d : Detail) (who : StationNo → Station → Bool) (s : State) :
    raise d who s = { s with stn := (raise d who s).stn } := by
  simp only [raise, eachStation]

/-- The raises of a closing change STN alone. -/
theorem foldl_raiseDry_frame (before : State) (l : List SourceNo) (s : State) :
    ∃ stn, l.foldl (raiseDry before) s = { s with stn := stn } := by
  refine kept_foldl (P := fun v => ∃ stn, v = { s with stn := stn }) _ ?_ l s ⟨_, rfl⟩
  rintro _ i ⟨stn, rfl⟩
  unfold raiseDry
  split
  · exact ⟨_, raise_frame ..⟩
  · exact ⟨_, rfl⟩

/-- R82: with the tanks as they are closed, DRY is raised source by source where it is newly set. -/
theorem foldl_raiseDry_eq (before : State) (tanks : Vector Tank 16) (l : List SourceNo) (s : State)
    (closed : ∀ i, s.tank i = look tanks i) :
    l.foldl (raiseDry before) s = l.foldl (fun v i => if (before.tank i).dry = false ∧ (look tanks i).dry = true
      then raise (.sourceAlert i .dry) toFuelAndConsole v else v) s := by
  induction l generalizing s with
  | nil => rfl
  | cons i l ih =>
    have first : raiseDry before s i = if (before.tank i).dry = false ∧ (look tanks i).dry = true
        then raise (.sourceAlert i .dry) toFuelAndConsole s else s := by
      simp [raiseDry, closed]
    rw [List.foldl_cons, List.foldl_cons, first]
    apply ih
    intro j
    split <;> simp [closed]

/-! ## The four figure sets (R17, R31, R82, R116) -/

section
variable (serial : Nat) (s : State)

/-- R123: a figure set filed in the records of its serial. -/
theorem fileInto_eq (g : SettleRec → SettleRec) : fileInto serial g s =
    { s with stl := { s.stl with records := s.stl.records.map fun r => if r.serial = serial then g r else r } } := by
  simp [fileInto, setRecords]

theorem announceHire_eq : announceHire serial s = { s with
    src := tab fun i => { s.source i with hireAcc := (s.source i).hireAcc % 3600,
                                          lastClosed := (s.source i).hireAcc / 3600 },
    stl := { s.stl with records := s.stl.records.map fun r => if r.serial = serial then
      { r with hire := some (tab fun i => (s.source i).hireAcc / 3600) } else r } } := by
  simp only [announceHire, closeHire, fileInto_eq, closeHireRec_eq]

theorem announceBurn_eq : announceBurn serial s = fileInto serial
    (fun r => { r with burn := some (tab fun i => (s.tank i).acc / 3600) })
    ((indices 16).foldl (raiseDry s) { s with tnk := { s.tnk with tanks := tab fun i => closeBurnRec (s.tank i) } }) :=
  rfl

theorem announceBurn_frame : ∃ stn, announceBurn serial s = { s with
    stn := stn, tnk := { s.tnk with tanks := tab fun i => closeBurnRec (s.tank i) },
    stl := { s.stl with records := s.stl.records.map fun r => if r.serial = serial then
      { r with burn := some (tab fun i => (s.tank i).acc / 3600) } else r } } := by
  obtain ⟨stn, raised⟩ := foldl_raiseDry_frame s (indices 16)
    { s with tnk := { s.tnk with tanks := tab fun i => closeBurnRec (s.tank i) } }
  refine ⟨stn, ?_⟩
  rw [announceBurn_eq, raised, fileInto_eq]

theorem announceMatrix_eq : announceMatrix serial s = { s with
    mtr := { channels := tab fun k => { s.chan k with energy := 0, lastEnergy := (s.chan k).energy },
             matrix := Vector.replicate 48 (Vector.replicate 17 0) },
    stl := { s.stl with records := s.stl.records.map fun r => if r.serial = serial then
      { r with matrix := some s.mtr.matrix } else r } } := by
  simp only [announceMatrix, closeMatrix, fileInto_eq]

theorem announceDark_eq : announceDark serial s = { s with
    sup := tab fun n => { s.supply n with dark := 0 },
    stl := { s.stl with records := s.stl.records.map fun r => if r.serial = serial then
      { r with dark := some (tab fun n => if (s.supply n).defined then (s.supply n).dark else 0) } else r } } := by
  simp only [announceDark, closeDark, fileInto_eq]

/-- R123: the four sets filed one after the other are filed at once. -/
theorem map_filed_sets (h b : Vector Nat 16) (m : Matrix) (d : Vector Nat 12) (l : List SettleRec) :
    (((l.map fun r => if r.serial = serial then { r with hire := some h } else r).map
      fun r => if r.serial = serial then { r with burn := some b } else r).map
      fun r => if r.serial = serial then { r with matrix := some m } else r).map
      (fun r => if r.serial = serial then { r with dark := some d } else r) =
    l.map fun r => if r.serial = serial then
      { r with hire := some h, burn := some b, matrix := some m, dark := some d } else r := by
  simp only [List.map_map]
  refine List.map_congr_left fun r _ => ?_
  by_cases own : r.serial = serial <;> simp [own]

/-- The records of every block closed (R17, R31, R82, R116), with STN's and STL's records as they come to stand. -/
def closedBlocks (stn : Stn) (records : List SettleRec) (s : State) : State :=
  { s with
    stn := stn,
    src := tab fun i => { s.source i with hireAcc := (s.source i).hireAcc % 3600,
                                          lastClosed := (s.source i).hireAcc / 3600 },
    tnk := { s.tnk with tanks := tab fun i => closeBurnRec (s.tank i) },
    mtr := { channels := tab fun k => { s.chan k with energy := 0, lastEnergy := (s.chan k).energy },
             matrix := Vector.replicate 48 (Vector.replicate 17 0) },
    sup := tab fun n => { s.supply n with dark := 0 },
    stl := { s.stl with records := records } }

theorem closedBlocks_source (stn : Stn) (records : List SettleRec) (i : SourceNo) :
    (closedBlocks stn records s).source i =
      { s.source i with hireAcc := (s.source i).hireAcc % 3600, lastClosed := (s.source i).hireAcc / 3600 } :=
  look_tab _ i

theorem closedBlocks_tank (stn : Stn) (records : List SettleRec) (i : SourceNo) :
    (closedBlocks stn records s).tank i = closeBurnRec (s.tank i) := look_tab _ i

theorem closedBlocks_supply (stn : Stn) (records : List SettleRec) (n : SupplyNo) :
    (closedBlocks stn records s).supply n = { s.supply n with dark := 0 } := look_tab _ n

theorem closedBlocks_chan (stn : Stn) (records : List SettleRec) (k : ChannelNo) :
    (closedBlocks stn records s).chan k = { s.chan k with energy := 0, lastEnergy := (s.chan k).energy } :=
  look_tab _ k

theorem closedBlocks_cell (stn : Stn) (records : List SettleRec) (a : AccountNo) (col : Fin 17) :
    cell (closedBlocks stn records s).mtr.matrix a col = 0 := by
  simp only [cell, closedBlocks, look_replicate]

/-- R123: a record with the figure sets that a state hands in. -/
def withSets (s : State) (r : SettleRec) : SettleRec :=
  { r with hire := some (tab fun i => (s.source i).hireAcc / 3600)
           burn := some (tab fun i => (s.tank i).acc / 3600), matrix := some s.mtr.matrix
           dark := some (tab fun n => if (s.supply n).defined then (s.supply n).dark else 0) }

/-- R120 step 4: the four blocks close, and the records of the serial hold all four sets. -/
theorem announce_frame : ∃ stn, announce serial s =
    closedBlocks stn (s.stl.records.map fun r => if r.serial = serial then withSets s r else r) s := by
  obtain ⟨stn, burned⟩ := announceBurn_frame serial (announceHire serial s)
  refine ⟨stn, ?_⟩
  rw [announce, burned, announceHire_eq, announceMatrix_eq, announceDark_eq]
  exact congrArg (fun l => closedBlocks stn l s) (map_filed_sets serial _ _ _ _ s.stl.records)

end

/-! ## The boundary (R120) -/

/-- R119, R120 steps 2 and 3: the next interval, its serial below the last value. -/
theorem nextInterval_low {c : Clock} (low : c.serial < 4294967295) : nextInterval c =
    { c with minutes := c.pendingMinutes.getD c.minutes, pendingMinutes := none,
             index := c.time / (c.pendingMinutes.getD c.minutes * 60), serial := c.serial + 1, start := c.time,
             ticks := 0, nextBoundary := (c.time / (c.pendingMinutes.getD c.minutes * 60) + 1) *
               (c.pendingMinutes.getD c.minutes * 60) } := by
  have serial : serialAfter c.serial = c.serial + 1 := if_pos low
  rw [nextInterval, serial]

/-- R120, R123: among records of other serials, the set goes into the new one. -/
theorem map_filed_append {serial : Nat} {l : List SettleRec} {e : SettleRec} (g : SettleRec → SettleRec)
    (fresh : ∀ r ∈ l, r.serial ≠ serial) (own : e.serial = serial) :
    (l ++ [e]).map (fun r => if r.serial = serial then g r else r) = l ++ [g e] := by
  have others : l.map (fun r => if r.serial = serial then g r else r) = l :=
    (List.map_congr_left fun r h => if_neg (fresh r h)).trans (List.map_id' l)
  rw [List.map_append, others, List.map_singleton, if_pos own]

/-- R120: a boundary of a serial that no open record bears. -/
theorem takeBoundary_frame {endTime : Nat} {s : State} (fresh : ∀ r ∈ s.stl.records, r.serial ≠ s.stl.clock.serial) :
    ∃ stn, takeBoundary endTime s = closedBlocks stn (s.stl.records ++ [withSets s (endingRecord s.stl.clock endTime)])
      (setClock (nextInterval s.stl.clock) s) := by
  obtain ⟨stn, announced⟩ := announce_frame s.stl.clock.serial
    (setClock (nextInterval s.stl.clock) (setRecords (s.stl.records ++ [endingRecord s.stl.clock endTime]) s))
  rw [setClock_records, setRecords_records, map_filed_append _ fresh (by rfl)] at announced
  exact ⟨stn, announced⟩

/-- R119: the tick that brings the clock to the next boundary takes it after the blocks' accrual. -/
theorem tickBlocks_boundary {order : TickOrder} {s : State} (low : s.stl.clock.time < 4294967295)
    (next : s.stl.clock.nextBoundary = s.stl.clock.time + 1) :
    tickBlocks order s = takeBoundary (s.stl.clock.time + 1) (tickOwners order (tickClock s)) := by
  have clock : (tickOwners order (tickClock s)).stl.clock = tickClockRec s.stl.clock := by
    rw [tickOwners_frame]
    rfl
  rw [tickBlocks]
  simp only [clock, tickClockRec_eq low, next, if_true]

theorem takeBoundary_watches {endTime : Nat} {s : State} : (takeBoundary endTime s).wch = s.wch := by
  obtain ⟨stn, announced⟩ := announce_frame s.stl.clock.serial
    (setClock (nextInterval s.stl.clock) (setRecords (s.stl.records ++ [endingRecord s.stl.clock endTime]) s))
  rw [takeBoundary, announced]
  rfl

/-- R119, R120, R140: with no entry armed, the tick of a boundary is the blocks' own. -/
theorem secondTick_boundary {order : TickOrder} {s : State} (disarmed : ∀ w, (s.watch w).armed = false)
    (low : s.stl.clock.time < 4294967295) (next : s.stl.clock.nextBoundary = s.stl.clock.time + 1) :
    secondTick order s = takeBoundary (s.stl.clock.time + 1) (tickOwners order (tickClock s)) := by
  have watches (w : WatchNo) : (takeBoundary (s.stl.clock.time + 1) (tickOwners order (tickClock s))).watch w =
      s.watch w := by
    rw [State.watch, takeBoundary_watches, tickOwners_frame]
    rfl
  unfold secondTick
  split
  · rw [sampleAll_of_disarmed disarmed, tickBlocks_boundary low next]
  · rw [tickBlocks_boundary low next, sampleAll_of_disarmed fun w => by rw [watches, disarmed w]]

/-- Settles O27: the frame of the boundary gives its records field by field, the tick reaches the boundary after the
blocks have accrued, and each block's set is filed as its own equation says. -/
theorem boundaryClosesTheInterval : Obligations.BoundaryClosesTheInterval := by
  refine ⟨fun endTime s u fresh low taken => ?boundary, fun order t s disarmed low next => ?tick,
    fun serial s files filed => ⟨?hire, ?burn, ?matrix, ?dark⟩⟩
  case boundary =>
    obtain ⟨stn, frame⟩ := takeBoundary_frame (endTime := endTime) fresh
    rw [← taken] at frame
    subst frame
    refine ⟨?clock, rfl, closedBlocks_source _ stn _, closedBlocks_supply _ stn _, fun i => ?tanks,
      closedBlocks_chan _ stn _, closedBlocks_cell _ stn _, rfl, rfl, rfl, rfl⟩
    case clock =>
      rintro len rfl
      exact nextInterval_low low
    case tanks =>
      rw [closedBlocks_tank]
      obtain ⟨acc, closed, last, estimated⟩ := closeBurnRec_figures (s.tank i)
      exact ⟨acc, closed, last, estimated, fun b => closeBurnRec_book, fun unset => closeBurnRec_unset (.inl unset)⟩
  case tick =>
    have ticked := secondTick_boundary (order := order) (s := advanceTo t s) disarmed low next
    rw [tickClock, advanceTo_stl, tickClockRec_eq low] at ticked
    exact congrArg Host.Outcome.next ticked
  case hire => rw [announceHire_eq, filed]
  case burn =>
    refine ⟨tab fun i => closeBurnRec (s.tank i), _, fun i => ?kept, fun i b set book => ?book, fun i unset => ?unset,
      rfl, ?raised⟩
    case kept =>
      rw [look_tab]
      exact closeBurnRec_eq _
    case book =>
      rw [look_tab]
      exact closeBurnRec_book set book
    case unset =>
      rw [look_tab]
      exact closeBurnRec_unset unset
    case raised =>
      obtain ⟨stn, raised⟩ := foldl_raiseDry_frame s (indices 16)
        { s with tnk := { s.tnk with tanks := tab fun i => closeBurnRec (s.tank i) } }
      have eachDry := foldl_raiseDry_eq s (tab fun i => closeBurnRec (s.tank i)) (indices 16)
        { s with tnk := { s.tnk with tanks := tab fun i => closeBurnRec (s.tank i) } } fun _ => rfl
      rw [announceBurn_eq, fileInto_eq, ← eachDry, raised, filed]
  case matrix => rw [announceMatrix_eq, filed]
  case dark => rw [announceDark_eq, filed]

/-! ## SET TIME (R121, R153) -/

theorem takeTime_before {time : Nat} {s : State} (h : time < s.stl.clock.nextBoundary) : takeTime time s =
    logAppend .timeSet none (some s.stl.clock.time) (some time) (setClock (movedClock time s.stl.clock) s) := by
  rw [takeTime, if_neg (by omega)]

theorem takeTime_past {time : Nat} {s : State} (h : s.stl.clock.nextBoundary ≤ time) : takeTime time s =
    logAppend .timeSet none (some s.stl.clock.time) (some time)
      (takeBoundary s.stl.clock.time (setClock { s.stl.clock with time := time } s)) := by
  rw [takeTime, if_pos h]

theorem ownerSetTime_before (time : Nat) (n : StationNo) (st : Station) (s : State)
    (h : time < s.stl.clock.nextBoundary) : ownerSetTime time n st s =
    ⟨logAppend .timeSet none (some s.stl.clock.time) (some time) (setClock (movedClock time s.stl.clock) s), .ok,
      .time s.stl.clock.time time false s.stl.clock.index
        ((time / (s.stl.clock.minutes * 60) + 1) * (s.stl.clock.minutes * 60))⟩ := by
  have early : decide (s.stl.clock.nextBoundary ≤ time) = false := decide_eq_false (by omega)
  rw [ownerSetTime, takeTime_before h, early]
  simp only [logAppend_stl, setClock_clock, movedClock]
  rfl

theorem ownerSetTime_past (time : Nat) (n : StationNo) (st : Station) (s : State)
    (h : s.stl.clock.nextBoundary ≤ time) {u : State}
    (hu : u = takeBoundary s.stl.clock.time (setClock { s.stl.clock with time := time } s)) :
    ownerSetTime time n st s = ⟨logAppend .timeSet none (some s.stl.clock.time) (some time) u, .ok,
      .time s.stl.clock.time time true u.stl.clock.index u.stl.clock.nextBoundary⟩ := by
  subst hu
  rw [ownerSetTime, takeTime_past h, decide_eq_true h]
  simp only [logAppend_stl]
  rfl

/-- Settles O28: STL answers by which side of the next boundary the time falls; a broadcast has the same effect. -/
theorem setTimeMovesTheClock : Obligations.SetTimeMovesTheClock := by
  intro rq n st s time c
  refine ⟨fun taken => ⟨fun early => ?before, fun late u hu => ?past⟩, fun h console length _ => ?broadcast⟩
  case before =>
    exact request_done rq kindSetTime anyObject _ n st s taken (fun _ => rfl) _ _ _
      (ownerSetTime_before time n _ (heard rq n s) early)
  case past =>
    exact request_done rq kindSetTime anyObject _ n st s taken (fun _ => rfl) _ _ _
      (ownerSetTime_past time n _ (heard rq n s) late hu)
  case broadcast =>
    have effect := broadcast_heard (k := kindSetTime) (takeTime time) h console length
    refine ⟨fun early => congrArg Host.Outcome.next (effect.trans ?_),
      fun late => congrArg Host.Outcome.next (effect.trans ?_)⟩
    · exact takeTime_before (s := heard rq n s) early
    · exact takeTime_past (s := heard rq n s) late

end Sys2Proof.Machine
end

section
/-! The banks of a period and account 0 (R130, R124): a law of STL's records, which a settlement, a close, a release and
the account requests keep, and no other block can touch. -/

namespace Sys2Proof.Machine

/-- R130, R124: what `BankLaw` and `OverheadLaw` say, as a law of STL's records. -/
def BillingLaw (l : Stl) : Prop :=
  ((l.bankA.state = .active ∧ l.bankB.state ≠ .active) ∨ (l.bankB.state = .active ∧ l.bankA.state ≠ .active)) ∧
    (look l.accounts 0).defined = true

theorem billingLaw_iff (s : State) : BillingLaw s.stl ↔ BankLaw s ∧ OverheadLaw s := Iff.rfl

/-! ## What leaves STL's records alone -/

theorem stl_of_still {s t : State} (same : t.still = s.still) : t.stl = s.stl := congrArg Still.stl same

section
variable (s : State)

@[simp] theorem stl_modPort (p : PortNo) (f : Port → Port) : (modPort p f s).stl = s.stl := rfl
@[simp] theorem stl_modStation (n : StationNo) (f : Station → Station) : (modStation n f s).stl = s.stl := rfl
@[simp] theorem stl_modChan (k : ChannelNo) (f : Chan → Chan) : (modChan k f s).stl = s.stl := rfl
@[simp] theorem stl_advanceToMs (due : Nat) : (advanceToMs due s).stl = s.stl := rfl
@[simp] theorem stl_touch (n : StationNo) : (touch n s).stl = s.stl := rfl
@[simp] theorem stl_setRx (p : PortNo) (rx : Rx) : (setRx p rx s).stl = s.stl := rfl
@[simp] theorem stl_refuse (e : Status) : (refuse e s).state.stl = s.stl := rfl

@[simp] theorem stl_setPortFlag (p : PortNo) (f : PortFlag) : (setPortFlag p f s).stl = s.stl := by
  unfold setPortFlag
  split <;> simp

/-! ### LNK -/

@[simp] theorem stl_characterGap (p : PortNo) : (characterGap p s).stl = s.stl := by
  unfold characterGap discardFrame
  (repeat' split) <;> simp

@[simp] theorem stl_lineQuiet (p : PortNo) : (lineQuiet p s).stl = s.stl := by
  unfold lineQuiet
  split <;> simp

@[simp] theorem stl_replySent (p : PortNo) : (replySent p s).stl = s.stl := by
  have waiting (waits : Bool) (u : State) : (takeWaiting p waits u).stl = u.stl := by
    unfold takeWaiting
    split <;> simp
  have named (q : Option PortNo) (u : State) : (takeNamed q u).stl = u.stl := by
    unfold takeNamed restartNamed
    (repeat' split) <;> simp
  simp only [replySent]
  split <;> simp [named, waiting]

@[simp] theorem stl_badKind (rq : Request) (kind : Nat) : (badKind rq kind s).stl = s.stl := by
  unfold badKind
  dsimp only
  (repeat' split) <;> simp

@[simp] theorem stl_huntChar (p : PortNo) (c : RxChar) : (huntChar p c s).stl = s.stl := by
  unfold huntChar
  split <;> simp

/-! ### STN -/

@[simp] theorem stl_holdLapse : (holdLapse s).stl = s.stl := by
  unfold holdLapse
  dsimp only
  (repeat' split) <;> simp

@[simp] theorem stl_freeHoldOf (m : StationNo) : (freeHoldOf m s).stl = s.stl := by
  unfold freeHoldOf
  split <;> simp

/-! ### MTR -/

@[simp] theorem stl_risingEdge (k : ChannelNo) : (risingEdge k s).stl = s.stl := by
  unfold risingEdge
  split <;> simp

@[simp] theorem stl_fallingEdge (k : ChannelNo) : (fallingEdge k s).stl = s.stl := by
  unfold fallingEdge fallDefined countPulse
  dsimp only
  (repeat' split) <;> simp

/-! ### The answers of LNK, STN, LOG, SYN, TNK and MTR -/

variable (n : StationNo) (st : Station)

@[simp] theorem stl_ownerTakeHold : (ownerTakeHold n st s).state.stl = s.stl := by
  unfold ownerTakeHold
  (repeat' split) <;> simp

@[simp] theorem stl_ownerReleaseHold : (ownerReleaseHold n st s).state.stl = s.stl := by
  unfold ownerReleaseHold
  split <;> simp

@[simp] theorem stl_ownerForceRelease : (ownerForceRelease n st s).state.stl = s.stl := by
  unfold ownerForceRelease
  split <;> simp

@[simp] theorem stl_ownerEnrol (port address role : Nat) (supply : Option Nat) :
    (ownerEnrol port address role supply n st s).state.stl = s.stl := by
  unfold ownerEnrol
  (repeat' split) <;> simp

@[simp] theorem stl_ownerRemove (station : Nat) : (ownerRemove station n st s).state.stl = s.stl := by
  unfold ownerRemove
  (repeat' split) <;> simp [markGoneAll]

@[simp] theorem stl_ownerQuery : (ownerQuery n st s).state.stl = s.stl := by
  unfold ownerQuery
  split <;> simp

@[simp] theorem stl_ownerReadLog (count : Nat) : (ownerReadLog count n st s).state.stl = s.stl := by
  unfold ownerReadLog
  split <;> simp

@[simp] theorem stl_ownerSeekLog (position : Nat) : (ownerSeekLog position n st s).state.stl = s.stl := by
  unfold ownerSeekLog
  split <;> simp

@[simp] theorem stl_ownerSetPort (port : Nat) (fields : Option PortSettings) :
    (ownerSetPort port fields n st s).state.stl = s.stl := by
  unfold ownerSetPort
  (repeat' split) <;> simp

@[simp] theorem stl_ownerRestartPort (arrived : PortNo) (port : Nat) :
    (ownerRestartPort arrived port n st s).state.stl = s.stl := by
  unfold ownerRestartPort
  split <;> simp

@[simp] theorem stl_ownerReadPort (port : Nat) : (ownerReadPort port n st s).state.stl = s.stl := by
  unfold ownerReadPort
  split <;> simp

@[simp] theorem stl_ownerSetLimits (slip phase volts timeout : Option Nat) :
    (ownerSetLimits slip phase volts timeout n st s).state.stl = s.stl := by
  unfold ownerSetLimits resetRuns
  dsimp only
  (repeat' split) <;> simp

@[simp] theorem stl_ownerSetPrice (price : Nat) : (ownerSetPrice price n st s).state.stl = s.stl := by
  unfold ownerSetPrice
  split <;> simp

@[simp] theorem stl_ownerDefineChannel (channel : Nat) (supply account : Option Nat) (wh : Nat) (width : Option Nat) :
    (ownerDefineChannel channel supply account wh width n st s).state.stl = s.stl := by
  unfold ownerDefineChannel channelWritten
  (repeat' split) <;> simp

@[simp] theorem stl_ownerReadChannel (channel : Nat) : (ownerReadChannel channel n st s).state.stl = s.stl := by
  unfold ownerReadChannel
  split <;> simp

@[simp] theorem stl_ownerReadAccount (account bank : Nat) :
    (ownerReadAccount account bank n st s).state.stl = s.stl := by
  unfold ownerReadAccount
  (repeat' split) <;> simp

end

/-! ## STL's own work -/

section
variable (s : State)

/-- R120: a boundary leaves the accounts and the banks alone. -/
theorem billing_announce (serial : Nat) (h : BillingLaw s.stl) : BillingLaw (announce serial s).stl := by
  obtain ⟨stn, closed⟩ := announce_frame serial s
  rw [closed]
  exact h

theorem billing_takeBoundary (endTime : Nat) (h : BillingLaw s.stl) : BillingLaw (takeBoundary endTime s).stl :=
  billing_announce _ _ h

theorem billing_tickBlocks (order : TickOrder) (h : BillingLaw s.stl) : BillingLaw (tickBlocks order s).stl := by
  have ticked : BillingLaw (tickOwners order (tickClock s)).stl := by
    rw [tickOwners_frame]
    exact h
  unfold tickBlocks
  dsimp only
  split
  · exact billing_takeBoundary _ _ ticked
  · exact ticked

theorem billing_secondTick (order : TickOrder) (h : BillingLaw s.stl) : BillingLaw (secondTick order s).stl := by
  unfold secondTick
  split
  · exact billing_tickBlocks _ order (by rwa [stl_of_still (still_sampleAll s)])
  · rw [stl_of_still (still_sampleAll _)]
    exact billing_tickBlocks _ order h

theorem billing_takeTime (time : Nat) (h : BillingLaw s.stl) : BillingLaw (takeTime time s).stl := by
  rcases lt_or_ge time s.stl.clock.nextBoundary with early | late
  · rw [takeTime_before early, logAppend_stl]
    exact h
  · rw [takeTime_past late, logAppend_stl]
    exact billing_takeBoundary _ _ h

/-- R129: a settlement defines and undefines no account. -/
theorem settleAccount_defined (m : Matrix) (costs : SourceNo → Nat) (dark : Vector Nat 12) (a : AccountNo) :
    (settleAccount s m costs dark a).defined = (s.account a).defined := by
  unfold settleAccount setBank
  dsimp only
  (repeat' split) <;> rfl

/-- R130, R131: the close freezes the ACTIVE bank and makes the other one ACTIVE. -/
theorem billing_takeClose (endTime : Nat) (h : BillingLaw s.stl) : BillingLaw (takeClose endTime s).stl := by
  obtain ⟨banks, overhead⟩ := h
  unfold takeClose
  split
  · dsimp only
    rw [raise_stl, logAppend_stl]
    cases activeBank s
    · exact ⟨.inr ⟨rfl, nofun⟩, overhead⟩
    · exact ⟨.inl ⟨rfl, nofun⟩, overhead⟩
  · exact ⟨banks, overhead⟩

theorem billing_settle (h : BillingLaw s.stl) : BillingLaw (settle s).stl := by
  obtain ⟨banks, overhead⟩ := h
  have settled (c : Complete) : BillingLaw (settleRecord c s).stl := by
    unfold settleRecord
    rw [logAppend_stl]
    refine ⟨banks, ?_⟩
    rw [look_tab, settleAccount_defined]
    exact overhead
  unfold settle
  split
  · split
    · exact billing_takeClose _ _ (settled _)
    · exact ⟨banks, overhead⟩
  · exact ⟨banks, overhead⟩

theorem billing_setAccount (a : AccountNo) (r : Account) (h : BillingLaw s.stl) (kept : a = 0 → r.defined = true) :
    BillingLaw (setAccount a r s).stl := by
  obtain ⟨banks, overhead⟩ := h
  refine ⟨banks, ?_⟩
  have written := setAccount_account s a r 0
  rw [State.account] at written
  rw [written]
  split
  · exact kept ‹_›
  · exact overhead

/-- R132: the FROZEN bank is not the ACTIVE one. -/
theorem billing_releaseBank {k : Bank} (h : BillingLaw s.stl) (frozen : frozenBank s = some k) :
    BillingLaw (releaseBank k s).stl := by
  obtain ⟨banks, overhead⟩ := h
  have defined : (look (tab fun a => setBank k BankRec.zero (s.account a)) 0).defined = true := by
    rw [look_tab]
    cases k <;> exact overhead
  unfold releaseBank
  dsimp only
  rw [logAppend_stl]
  rw [frozenBank_eq] at frozen
  split at frozen
  case isTrue a =>
    cases frozen
    have b : s.stl.bankB.state = .active := by simpa [a] using banks
    exact ⟨.inr ⟨b, nofun⟩, defined⟩
  case isFalse =>
    split at frozen
    case isTrue b =>
      cases frozen
      have a : s.stl.bankA.state = .active := by simpa [b] using banks
      exact ⟨.inl ⟨a, nofun⟩, defined⟩
    case isFalse => cases frozen

variable (n : StationNo) (st : Station)

theorem billing_ownerDefineAccount (account present reference : Nat) (h : BillingLaw s.stl) :
    BillingLaw (ownerDefineAccount account present reference n st s).state.stl := by
  unfold ownerDefineAccount
  split
  · refine billing_setAccount s _ _ h fun _ => ?_
    unfold defineAccountRec
    split
    · assumption
    · rfl
  · exact h

/-- R126: account 0 is never removed. -/
theorem billing_ownerRemoveAccount (account : Nat) (h : BillingLaw s.stl) :
    BillingLaw (ownerRemoveAccount account n st s).state.stl := by
  unfold ownerRemoveAccount
  (repeat' split)
  case h_2.isFalse.isFalse.isFalse.isFalse other _ _ _ => exact billing_setAccount s _ _ h fun zero => absurd zero other
  all_goals exact h

theorem billing_ownerSetInterval (minutes : Nat) (h : BillingLaw s.stl) :
    BillingLaw (ownerSetInterval minutes n st s).state.stl := by
  unfold ownerSetInterval
  dsimp only
  split <;> exact h

theorem billing_ownerClosePeriod (h : BillingLaw s.stl) : BillingLaw (ownerClosePeriod n st s).state.stl := by
  unfold ownerClosePeriod
  split <;> exact h

theorem billing_ownerReleasePeriod (h : BillingLaw s.stl) : BillingLaw (ownerReleasePeriod n st s).state.stl := by
  unfold ownerReleasePeriod
  split
  · exact h
  · exact billing_releaseBank s h ‹_›

end

/-! ## Requests and broadcasts -/

section
variable {s : State} (h : BillingLaw s.stl)
include h

theorem billing_of_stl {t : State} (same : t.stl = s.stl) : BillingLaw t.stl := same ▸ h

theorem billing_request (rq : Request) (kind : Kind) (scope : Station → State → Bool)
    (owner : StationNo → Station → State → Done)
    (keeps : ∀ n st u, BillingLaw u.stl → BillingLaw (owner n st u).state.stl) :
    BillingLaw (request rq kind scope owner s).stl := by
  have owned (n : StationNo) (st : Station) (u : State) (same : u.stl = s.stl) : BillingLaw (owner n st u).state.stl :=
    keeps n st u (billing_of_stl h same)
  unfold request judged
  dsimp only
  (repeat' split)
  case h_2 =>
    rw [answer_stl]
    exact owned _ _ _ rfl
  all_goals exact billing_of_stl h (by simp)

theorem billing_broadcast (rq : Request) (kind : Kind) (fits : Bool) (effect : State → State)
    (keeps : ∀ u, BillingLaw u.stl → BillingLaw (effect u).stl) : BillingLaw (broadcast rq kind fits effect s).stl := by
  unfold broadcast
  dsimp only
  (repeat' split)
  case h_1.isTrue => exact keeps _ h
  all_goals exact billing_of_stl h (by simp)

/-- R153: the broadcast that a frame carries. -/
theorem billing_takeBroadcast (port : PortNo) (f : Frame) : BillingLaw (takeBroadcast port f s).stl := by
  unfold takeBroadcast
  dsimp only
  split
  · exact billing_broadcast h _ _ _ _ fun u => billing_takeTime u _
  · exact billing_broadcast h _ _ _ _ fun u k => billing_of_stl k (stl_of_still (still_showHoldAll true u))
  · exact billing_broadcast h _ _ _ _ fun _ k => k

/-! ## The requests of chapter 12 -/

theorem billing_servePassed (c : Instr) : OnNext (fun u => BillingLaw u.stl) (servePassed c s) := by
  have asked (rq : Request) (kind : Kind) (scope : Station → State → Bool)
      (owner : StationNo → Station → State → Done)
      (keeps : ∀ n st u, BillingLaw u.stl → BillingLaw (owner n st u).state.stl) :
      OnNext (fun u => BillingLaw u.stl) (.next (request rq kind scope owner s)) :=
    onNext_iff.mpr (billing_request h rq kind scope owner keeps)
  cases c
  case defineAccount => exact asked _ _ _ _ fun n st u => billing_ownerDefineAccount u n st _ _ _
  case removeAccount => exact asked _ _ _ _ fun n st u => billing_ownerRemoveAccount u n st _
  case setInterval => exact asked _ _ _ _ fun n st u => billing_ownerSetInterval u n st _
  case closePeriod => exact asked _ _ _ _ fun n st u => billing_ownerClosePeriod u n st
  case releasePeriod => exact asked _ _ _ _ fun n st u => billing_ownerReleasePeriod u n st
  case setTime rq isBroadcast time =>
    refine onNext_iff.mpr ?_
    split
    · exact billing_broadcast h _ _ _ _ fun u => billing_takeTime u _
    · exact billing_request h _ _ _ _ fun _ _ u => billing_takeTime u _
  case setShowHold rq isBroadcast supply =>
    refine onNext_iff.mpr ?_
    split
    · exact billing_broadcast h _ _ _ _ fun u k => billing_of_stl k (stl_of_still (still_showHoldAll true u))
    · exact billing_request h _ _ _ _ fun _ _ u k => billing_of_stl k (stl_of_still (by simp))
  case unlistedKind rq kind =>
    refine onNext_iff.mpr ?_
    split
    · exact h
    · exact billing_of_stl h (by simp)
  case setEnables | clearEnables | clearCauses | ping | readSettlement => exact asked _ _ _ _ fun _ _ _ k => k
  case takeHold | releaseHold | forceRelease | enrolStation | removeStation | queryAttention | readLog | seekLog |
      setPort | restartPort | readPort | setSyncLimits | setFuelPrice | defineChannel | readChannel | readAccount =>
    exact asked _ _ _ _ fun _ _ _ k => billing_of_stl k (by simp)
  case hireSource | offHireSource | sourceReport | readSource | defineSupply | clearFault | clearShowHold | readSupply |
      transfer | abortTransfer | readTransfer | setTank | readTank | armDelivery | meterReading | closeDelivery |
      cancelDelivery | readDelivery | defineWatch | armWatches | disarmWatches | readWatch =>
    exact asked _ _ _ _ fun _ _ _ k => billing_of_stl k (stl_of_still (by simp))
  all_goals exact onNext_iff.mpr h

/-! ## Frames (R151 to R153) -/

theorem billing_soundFrame (port : PortNo) (f : Frame) :
    OnNext (fun u => BillingLaw u.stl) (soundFrame port f s) := by
  unfold soundFrame takeRequest
  (repeat' split)
  case isFalse.isFalse.isTrue.isFalse => exact billing_servePassed (billing_of_stl h (stl_modPort ..)) _
  case isFalse.isTrue => exact onNext_iff.mpr (billing_takeBroadcast h port f)
  all_goals exact onNext_iff.mpr (billing_of_stl h (by simp))

theorem billing_receiveChar (port : PortNo) (c : RxChar) :
    OnNext (fun u => BillingLaw u.stl) (receiveChar port c s) := by
  unfold receiveChar frameChar assembled discardFrame
  (repeat' split)
  case h_4 => exact billing_soundFrame (billing_of_stl h (stl_setRx ..)) port _
  all_goals exact onNext_iff.mpr (billing_of_stl h (by simp))

end

theorem billing_receiveChars (port : PortNo) (cs : List RxChar) (s : State) (h : BillingLaw s.stl) :
    OnNext (fun u => BillingLaw u.stl) (receiveChars port cs s) := by
  induction cs generalizing s with
  | nil => exact onNext_iff.mpr h
  | cons c cs ih =>
    intro t run
    simp only [receiveChars] at run
    split at run
    · rename_i u taken
      exact ih u (billing_receiveChar h port c u taken) t run
    · rename_i stops
      exact absurd run (stops t)

/-! ## The fill points (R90, R107) -/

theorem stl_fillPointClose (i : SourceNo) (s : State) : (fillPointClose i s).stl = s.stl := by
  unfold fillPointClose
  split
  · rfl
  · exact (stl_of_still (still_fillClosed i _)).trans (setFill_stl ..)

theorem stl_fillPointOpen (i : SourceNo) (s : State) : (fillPointOpen i s).stl = s.stl := by
  unfold fillPointOpen
  split
  · exact (stl_of_still (still_fillOpened i _)).trans (setFill_stl ..)
  · rfl

theorem stl_fillRestartCheck (i : SourceNo) (closed : Bool) (s : State) :
    (fillRestartCheck i closed s).stl = s.stl := by
  unfold fillRestartCheck
  split
  · exact (stl_of_still (still_compareFill i closed _)).trans (by simp)
  · rfl

/-! ## The warm restart (R136) -/

theorem stl_interrupt (s : State) (n : SupplyNo) : (interrupt s n).stl = s.stl := by
  unfold interrupt
  split
  · exact stl_of_still (by simp)
  · rfl

theorem stl_warmSupply (s : State) (n : SupplyNo) : (warmSupply s n).stl = s.stl := by
  unfold warmSupply restartOpen
  (repeat' split)
  case isFalse => rfl
  all_goals exact stl_of_still (by simp)

theorem stl_warmSurvey (s : State) (d : SlotNo) : (warmSurvey s d).stl = s.stl := by
  unfold warmSurvey
  (repeat' split)
  case h_1.isTrue => exact stl_of_still (by simp)
  all_goals rfl

theorem stl_foldl {α : Type} (f : State → α → State) (h : ∀ s a, (f s a).stl = s.stl) (l : List α) (s : State) :
    (l.foldl f s).stl = s.stl :=
  kept_foldl (P := fun u => u.stl = s.stl) f (fun u a k => (h u a).trans k) l s rfl

theorem stl_warmPanels (found : Found) (s : State) : (warmPanels found s).stl = s.stl := by
  have lines (u : State) : (warmLines found u).stl = u.stl := by rw [warmLines_frame]
  rw [warmPanels, stl_foldl _ stl_warmSurvey, stl_foldl _ stl_warmSupply, lines, stl_foldl _ stl_interrupt]

theorem billing_reannounce (s : State) (r : SettleRec) (h : BillingLaw s.stl) : BillingLaw (reannounce s r).stl := by
  have hire (u : State) (k : BillingLaw u.stl) : BillingLaw (announceHire r.serial u).stl := by
    rw [announceHire_eq]
    exact k
  have burn (u : State) (k : BillingLaw u.stl) : BillingLaw (announceBurn r.serial u).stl := by
    obtain ⟨stn, closed⟩ := announceBurn_frame r.serial u
    rw [closed]
    exact k
  have matrix (u : State) (k : BillingLaw u.stl) : BillingLaw (announceMatrix r.serial u).stl := by
    rw [announceMatrix_eq]
    exact k
  have dark (u : State) (k : BillingLaw u.stl) : BillingLaw (announceDark r.serial u).stl := by
    rw [announceDark_eq]
    exact k
  have given (f : State → State) (keeps : ∀ u, BillingLaw u.stl → BillingLaw (f u).stl) (b : Bool) (u : State)
      (k : BillingLaw u.stl) : BillingLaw (if b then f u else u).stl := by
    cases b
    · exact k
    · exact keeps u k
  exact given _ dark _ _ (given _ matrix _ _ (given _ burn _ _ (given _ hire _ _ h)))

theorem billing_warmSettlement (s : State) (h : BillingLaw s.stl) : BillingLaw (warmSettlement s).stl := by
  have announced := kept_foldl (P := fun u => BillingLaw u.stl) reannounce billing_reannounce s.stl.records s h
  unfold warmSettlement warmBoundary
  split
  · exact billing_takeBoundary _ _ announced
  · exact announced

theorem billing_warmRestart (elapsed : Nat) (found : Found) (s : State) (h : BillingLaw s.stl) :
    BillingLaw (warmRestart elapsed found s).stl := by
  refine billing_warmSettlement _ ?_
  rw [stl_warmPanels, stl_warmRecords, logAppend_stl, told_eq]
  exact h

/-! ## The commands -/

/-- R130, R124: every command keeps the law. -/
theorem billing_exec (c : Instr) (s : State) (h : BillingLaw s.stl) :
    OnNext (fun u => BillingLaw u.stl) (exec c s) := by
  by_cases request : exec c s = servePassed c s
  · rw [request]
    exact billing_servePassed h c
  · cases c
    case coldStart cause t found =>
      refine onNext_iff.mpr ?_
      split
      · exact ⟨.inl ⟨rfl, nofun⟩, by rw [← State.account, cold_account]; rfl⟩
      · exact h
    case warmRestart cause t elapsed found =>
      refine onNext_iff.mpr ?_
      split
      · exact billing_warmRestart elapsed found _ h
      · exact h
    case frameReceived port t chars => exact billing_receiveChars port chars _ h
    case secondTick order t => exact onNext_iff.mpr (billing_secondTick (advanceTo t s) order h)
    case settlement => exact onNext_iff.mpr (billing_settle s h)
    case fillPointClose i t => exact onNext_iff.mpr (billing_of_stl h (stl_fillPointClose ..))
    case fillPointOpen i t => exact onNext_iff.mpr (billing_of_stl h (stl_fillPointOpen ..))
    case fillPointRestartCheck i closed t => exact onNext_iff.mpr (billing_of_stl h (stl_fillRestartCheck ..))
    case characterGapTimeout | lineQuiet | replySent | holdLapsed | meterRisingEdge | meterFallingEdge =>
      exact onNext_iff.mpr (billing_of_stl h (by simp))
    case sourceStale | senseCrossing | voltageLossTimeout | supplyTrip | auxChange | confirmTimeout | pulseEnd |
        channelGrant | inStepReport | syncTimeout | tripReport | overlapExpiry | deadTimeExpiry | settleTimeExpiry |
        unloadSurveyTimer | finishTimerExpiry | armExpiry | returnAttemptTimer | returnWindowExpiry =>
      exact onNext_iff.mpr (billing_of_stl h (stl_of_still (by simp)))
    all_goals exact absurd rfl request

/-- Settles O5: the two laws are one of STL's records, which every command keeps. -/
theorem bankLawKept : Obligations.BankLawKept := by
  intro s t banks overhead run
  have law : BillingLaw s.stl := (billingLaw_iff s).mpr ⟨banks, overhead⟩
  refine (billingLaw_iff t).mp ?_
  unfold step at run
  split at run
  · cases run
    exact law
  · rename_i c rest _
    exact billing_exec c { s with pending := rest } law t run

end Sys2Proof.Machine
end

section
/-! The state right after reset (R3, R40, R124, R130, R150, R156, R159, R162). -/

namespace Sys2Proof.Machine

theorem reset_station {n : StationNo} {st : Station} (h : State.reset.station n = some st) :
    n = 0 ∧ st = Station.cold 0 := by
  rw [State.reset, cold_station] at h
  split at h
  · exact ⟨‹_›, (Option.some.inj h).symm⟩
  · cases h

/-- R162: record 1 stands alone in the ring. -/
theorem ringSound_reset : RingSound State.reset.log := by
  refine ⟨by decide, fun k h => ?_, fun _ => rfl⟩
  obtain rfl : k = 0 := Nat.lt_one_iff.mp h
  rfl

/-- Settles O9: one bank is ACTIVE, account 0 is defined, station 0 alone is listed, and no transfer is in flight. -/
theorem resetKeepsTheLaws : Obligations.ResetKeepsTheLaws := by
  refine ⟨.inl ⟨rfl, nofun⟩, ?overhead, nofun, ringSound_reset, ?cursor, ?address, ?quiet, tickets_cold _ _ _⟩
  case overhead =>
    rw [OverheadLaw, State.reset, cold_account]
    rfl
  case cursor =>
    intro n st listed
    obtain ⟨rfl, rfl⟩ := reset_station listed
    exact (by decide : 1 ≤ 2)
  case address =>
    intro n m a b first second _ _
    exact (reset_station first).1.trans (reset_station second).1.symm
  case quiet =>
    intro p _
    rw [State.reset, cold_port]
    rfl

end Sys2Proof.Machine
end

section
/-! Charges (R127 to R129): the parts of a cost, the residue that rounding leaves, and the sums in which both are found
again. -/

namespace Sys2Proof.Machine

theorem total_eq_finset {n : Nat} (f : Fin n → Nat) : total f = ∑ i, f i := by
  rw [total_eq_sum, Fin.sum_univ_def, indices]

/-! ## Rounding down (R128 steps 4 and 5) -/

section
variable {α : Type} (x : α → Nat) (cost energy : Nat)

theorem sum_parts_mul_le (l : List α) : (l.map fun a => cost * x a / energy).sum * energy ≤ cost * (l.map x).sum := by
  induction l with
  | nil => simp
  | cons a l ih =>
    have part := Nat.div_mul_le_self (cost * x a) energy
    simp only [List.map_cons, List.sum_cons, Nat.add_mul, Nat.mul_add]
    omega

/-- R128: the parts of a cost come to no more than the cost. -/
theorem sum_parts_le {l : List α} (drawn : (l.map x).sum ≠ 0) :
    (l.map fun a => cost * x a / (l.map x).sum).sum ≤ cost :=
  Nat.le_of_mul_le_mul_right (sum_parts_mul_le x cost _ l) (Nat.pos_of_ne_zero drawn)

/-- Each part falls short of its exact share by less than one, and those that drew nothing by nothing. -/
theorem mul_sum_add_length_le {energy : Nat} (pos : 0 < energy) (l : List α) :
    cost * (l.map x).sum + (l.filter fun a => decide (x a ≠ 0)).length ≤
      energy * ((l.map fun a => cost * x a / energy).sum + (l.filter fun a => decide (x a ≠ 0)).length) := by
  induction l with
  | nil => simp
  | cons a l ih =>
    have short := Nat.lt_mul_div_succ (cost * x a) pos
    by_cases drew : x a = 0
    · simpa [drew] using ih
    · simp only [List.map_cons, List.sum_cons, List.filter_cons, ne_eq, drew, not_false_eq_true, decide_true, if_true,
        List.length_cons, Nat.mul_add] at ih short ⊢
      omega

/-- R128 step 5: the residue is less than the number of the accounts that drew. -/
theorem residue_lt_drawers {l : List α} (drawn : (l.map x).sum ≠ 0) :
    cost - (l.map fun a => cost * x a / (l.map x).sum).sum < (l.filter fun a => decide (x a ≠ 0)).length := by
  have pos : 0 < (l.map x).sum := Nat.pos_of_ne_zero drawn
  have bound := mul_sum_add_length_le x cost pos l
  have some_drew : 0 < (l.filter fun a => decide (x a ≠ 0)).length := by
    obtain ⟨v, mem, nonzero⟩ := List.exists_mem_ne_zero_of_sum_ne_zero drawn
    obtain ⟨a, here, rfl⟩ := List.mem_map.mp mem
    exact List.length_pos_of_mem (List.mem_filter.mpr ⟨here, decide_eq_true nonzero⟩)
  have scaled : (l.map x).sum * cost < (l.map x).sum *
      ((l.map fun a => cost * x a / (l.map x).sum).sum + (l.filter fun a => decide (x a ≠ 0)).length) := by
    rw [Nat.mul_comm _ cost]
    omega
  have := Nat.lt_of_mul_lt_mul_left scaled
  omega

end

/-! ## Folding (R128 step 1) -/

section
variable (defined : AccountNo → Bool) (m : Matrix)

theorem foldedCell_eq (a : AccountNo) (col : Fin 17) : foldedCell defined m a col =
    if a = 0 then
      cell m 0 col + ((indices 48).map fun b => if b ≠ 0 ∧ defined b = false then cell m b col else 0).sum
    else if defined a = true then cell m a col else 0 := by
  simp [foldedCell, total_eq_sum]

theorem foldedCell_undefined {a : AccountNo} (other : a ≠ 0) (undefined : defined a = false) (col : Fin 17) :
    foldedCell defined m a col = 0 := by
  simp [foldedCell, other, undefined]

/-- R128 step 1: a cell but for those folded away, with all of these for account 0. -/
theorem foldedCell_split (a : AccountNo) (col : Fin 17) : foldedCell defined m a col =
    (if a ≠ 0 ∧ defined a = false then 0 else cell m a col) +
      if a = 0 then ∑ b, (if b ≠ 0 ∧ defined b = false then cell m b col else 0) else 0 := by
  by_cases zero : a = 0
  · simp [foldedCell, total_eq_finset, zero]
  · cases d : defined a <;> simp [foldedCell, zero, d]

/-- R129: folding loses nothing of a column. -/
theorem total_foldedCell (col : Fin 17) :
    (total fun a : AccountNo => foldedCell defined m a col) = total fun a : AccountNo => cell m a col := by
  simp only [total_eq_finset, foldedCell_split]
  rw [Finset.sum_add_distrib, Finset.sum_ite_eq', if_pos (Finset.mem_univ _), ← Finset.sum_add_distrib]
  refine Finset.sum_congr rfl fun a _ => ?_
  split
  · exact Nat.zero_add _
  · exact Nat.add_zero _

/-! ## What an account receives (R128) -/

theorem residue_eq (cost : Nat) (i : SourceNo) : residue defined m cost i =
    if sourceEnergy defined m i = 0 then 0
    else cost - ((indices 48).map fun a =>
      cost * foldedCell defined m a (sourceColumn i) / sourceEnergy defined m i).sum := by
  unfold residue share
  rw [total_eq_sum]
  split <;> rfl

theorem receives_undrawn {i : SourceNo} (h : sourceEnergy defined m i = 0) (cost : Nat) (a : AccountNo) :
    receives defined m cost i a = if a = 0 then cost else 0 := by
  simp [receives, h]

theorem receives_drawn {i : SourceNo} (h : sourceEnergy defined m i ≠ 0) (cost : Nat) (a : AccountNo) :
    receives defined m cost i a =
      cost * foldedCell defined m a (sourceColumn i) / sourceEnergy defined m i +
        if a = 0 then residue defined m cost i else 0 := by
  simp [receives, share, h]

/-- R129: an undefined account other than 0 receives nothing. -/
theorem receives_undefined {a : AccountNo} (other : a ≠ 0) (undefined : defined a = false) (cost : Nat) (i : SourceNo) :
    receives defined m cost i a = 0 := by
  by_cases h : sourceEnergy defined m i = 0
  · rw [receives_undrawn defined m h, if_neg other]
  · rw [receives_drawn defined m h, foldedCell_undefined defined m other undefined, if_neg other]
    simp

/-- R128: of each source's cost, all is received. -/
theorem total_receives (cost : Nat) (i : SourceNo) : (total fun a => receives defined m cost i a) = cost := by
  by_cases h : sourceEnergy defined m i = 0
  · simp only [receives_undrawn defined m h, total_eq_finset, Finset.sum_ite_eq', Finset.mem_univ, if_true]
  · have parts : ((indices 48).map fun a =>
        cost * foldedCell defined m a (sourceColumn i) / sourceEnergy defined m i).sum ≤ cost := by
      rw [sourceEnergy, total_eq_sum] at h ⊢
      exact sum_parts_le _ cost h
    have rest := residue_eq defined m cost i
    rw [if_neg h] at rest
    simp only [receives_drawn defined m h, total_eq_finset, Finset.sum_add_distrib, Finset.sum_ite_eq', Finset.mem_univ,
      if_true]
    rw [← total_eq_finset, total_eq_sum, rest]
    exact Nat.add_sub_of_le parts

/-- R128: the charges of a settlement sum to the costs. -/
theorem total_intervalCharge (costs : SourceNo → Nat) :
    (total fun a : AccountNo => intervalCharge defined m costs a) = total costs := by
  have each (i : SourceNo) : ∑ a, receives defined m (costs i) i a = costs i := by
    rw [← total_eq_finset, total_receives]
  simp only [intervalCharge, total_eq_finset]
  rw [Finset.sum_comm]
  exact Finset.sum_congr rfl fun i _ => each i

end

/-! ## Dark seconds (R129) -/

theorem intervalDark_eq (s : State) (dark : Vector Nat 12) (a : AccountNo) : intervalDark s dark a =
    ((indices 12).map fun n =>
      if ∃ c, (s.chan c).defined = true ∧ (s.chan c).account = some a ∧ (s.chan c).supply = some n then look dark n
      else 0).sum := by
  simp [intervalDark, total_eq_sum, and_assoc]

/-- Settles O29: each figure by its equation, the bounds by what rounding down loses, and the sums by exchanging the
order of accounts and sources. -/
theorem chargesSumToCosts : Obligations.ChargesSumToCosts := by
  refine ⟨?parts, total_intervalCharge, fun defined m costs overhead => ⟨fun a undefined => ?nothing,
    total_foldedCell defined m⟩, intervalDark_eq⟩
  case parts =>
    intro defined m costs folded energy part left got
    have cells (a : AccountNo) (col : Fin 17) : foldedCell defined m a col = folded a col :=
      foldedCell_eq defined m a col
    have energies (i : SourceNo) : sourceEnergy defined m i = energy i := by
      simp only [sourceEnergy, total_eq_sum, cells]
      rfl
    have lefts (i : SourceNo) : residue defined m (costs i) i = left i := by
      simp only [residue_eq, energies, cells]
      rfl
    refine ⟨cells, fun i => ⟨energies i, lefts i⟩, fun i drawn => ⟨sum_parts_le _ _ drawn, ?_⟩,
      fun a => ⟨?_, ?_, cells a 16⟩⟩
    · have below := residue_lt_drawers (fun a => folded a i.castSucc) (costs i) drawn
      exact (if_neg drawn).trans_lt below
    · have received (i : SourceNo) : receives defined m (costs i) i a = got i a := by
        by_cases undrawn : energy i = 0
        · rw [receives_undrawn defined m ((energies i).trans undrawn)]
          exact (if_pos undrawn).symm
        · have drawn : sourceEnergy defined m i ≠ 0 := (energies i).trans_ne undrawn
          rw [receives_drawn defined m drawn, energies, cells, lefts]
          refine Eq.trans ?_ (if_neg undrawn).symm
          split <;> rfl
      simp only [intervalCharge, total_eq_sum, received]
    · simp only [intervalEnergy, total_eq_sum, cells]
      rfl
  case nothing =>
    have other : a ≠ 0 := by
      rintro rfl
      rw [overhead] at undefined
      cases undefined
    refine ⟨?_, ?_, foldedCell_undefined defined m other undefined _⟩
    · simp [intervalCharge, total_eq_sum, receives_undefined defined m other undefined]
    · simp [intervalEnergy, total_eq_sum, foldedCell_undefined defined m other undefined]

end Sys2Proof.Machine
end

section
/-! Settlement (R123, R127 to R129) and the close of a billing period (R131). -/

namespace Sys2Proof.Machine

/-! ## The additions (R129) -/

theorem addToBank_eq (energy unsourced charge dark : Nat) (b : BankRec) : addToBank energy unsourced charge dark b =
    { energy := min (b.energy + energy) 4294967295, unsourced := min (b.unsourced + unsourced) 4294967295,
      charge := min (b.charge + charge) 4294967295, dark := min (b.dark + dark) 4294967295,
      count := if b.count < 4294967295 then b.count + 1 else Config.countAfterLast b.count,
      saturated := b.saturated || decide (4294967295 < b.energy + energy ∨ 4294967295 < b.unsourced + unsourced ∨
        4294967295 < b.charge + charge ∨ 4294967295 < b.dark + dark) } := by
  simp only [addToBank, Bool.decide_or, Bool.or_assoc]
  rfl

section
variable {s : State} (m : Matrix) (costs : SourceNo → Nat) (dark : Vector Nat 12) {a : AccountNo}

theorem settleAccount_undefined (h : (s.account a).defined = false) : settleAccount s m costs dark a = s.account a := by
  simp [settleAccount, h]

/-- R129: a defined account's figures, and its share of the ACTIVE bank. -/
theorem settleAccount_eq (h : (s.account a).defined = true) : settleAccount s m costs dark a =
    setBank (activeBank s)
      (addToBank (intervalEnergy (fun b => (s.account b).defined) m a)
        (intervalUnsourced (fun b => (s.account b).defined) m a)
        (intervalCharge (fun b => (s.account b).defined) m costs a) (intervalDark s dark a)
        (bankOf (s.account a) (activeBank s)))
      { s.account a with
        lastEnergy := intervalEnergy (fun b => (s.account b).defined) m a
        lastUnsourced := intervalUnsourced (fun b => (s.account b).defined) m a
        lastCharge := intervalCharge (fun b => (s.account b).defined) m costs a
        lastDark := intervalDark s dark a } := by
  simp [settleAccount, h]

end

/-! ## The record (R123, R127) -/

theorem complete_eq {r : SettleRec} {h b : Vector Nat 16} {m : Matrix} {d : Vector Nat 12} (hire : r.hire = some h)
    (burn : r.burn = some b) (matrix : r.matrix = some m) (dark : r.dark = some d) :
    complete r = some ⟨r, h, b, m, d⟩ := by
  simp only [complete, hire, burn, matrix, dark]

theorem settle_complete {s : State} {r : SettleRec} {rest : List SettleRec} {c : Complete}
    (records : s.stl.records = r :: rest) (sets : complete r = some c) :
    settle s = takeClose r.endTime (settleRecord c s) := by
  simp only [settle, records, sets]

/-- R127: the cost of a source, held at 2^32 - 1. -/
theorem costOf_eq (s : State) (c : Complete) (i : SourceNo) :
    costOf s c i = min (look c.burn i * s.tnk.price + look c.hire i) 4294967295 := rfl

/-- R171: COST_SATURATED is marked where a cost was held. -/
theorem settledMark_eq (s : State) (c : Complete) : settledMark s c =
    if ∃ i, 4294967295 < look c.burn i * s.tnk.price + look c.hire i then 2147483648 else 0 := by
  refine if_congr (List.any_eq_true.trans ⟨fun ⟨i, _, held⟩ => ?_, fun ⟨i, held⟩ => ?_⟩) rfl rfl
  · exact ⟨i, of_decide_eq_true held⟩
  · exact ⟨i, mem_indices i, decide_eq_true held⟩

/-! ## The close (R131) -/

section
variable (endTime : Nat) {s : State}

theorem takeClose_none (h : s.stl.closePending = false) : takeClose endTime s = s := by
  simp [takeClose, h]

theorem takeClose_a (h : s.stl.closePending = true) (active : s.stl.bankA.state = .active) : takeClose endTime s =
    raise (.periodClosed .a endTime) toConsole
      (logAppend .periodClosed (some 0) s.stl.bankA.start (some endTime)
        { s with stl := { s.stl with bankA := { s.stl.bankA with state := .frozen, ends := some endTime },
                                     bankB := { state := .active, start := some endTime, ends := none },
                                     closePending := false } }) := by
  rw [takeClose, if_pos h, activeBank_of_active active]
  rfl

theorem takeClose_b (h : s.stl.closePending = true) (other : s.stl.bankA.state ≠ .active) : takeClose endTime s =
    raise (.periodClosed .b endTime) toConsole
      (logAppend .periodClosed (some 1) s.stl.bankB.start (some endTime)
        { s with stl := { s.stl with bankB := { s.stl.bankB with state := .frozen, ends := some endTime },
                                     bankA := { state := .active, start := some endTime, ends := none },
                                     closePending := false } }) := by
  rw [takeClose, if_pos h, activeBank_of_not_active other]
  rfl

end

/-- Settles O30: the settled state account by account, its figures as `settledFigures` gives them, and the close by the
ACTIVE bank. -/
theorem settlementCreditsTheActiveBank : Obligations.SettlementCreditsTheActiveBank := by
  refine ⟨?settle, fun endTime s => ⟨takeClose_none endTime, takeClose_a endTime, takeClose_b endTime⟩⟩
  intro s r rest h b m d costs dfd records hire burn matrix dark cost defined
  obtain rfl : costs = costOf s ⟨r, h, b, m, d⟩ := funext fun i => (cost i).trans (costOf_eq s ⟨r, h, b, m, d⟩ i).symm
  obtain rfl : dfd = fun a => (s.account a).defined := funext defined
  refine ⟨{ s with stl := { s.stl with
    accounts := tab (settleAccount s m (costOf s ⟨r, h, b, m, d⟩) d),
    settled := some (settledFigures s ⟨r, h, b, m, d⟩), records := rest } }, rfl, fun a undefined => ?kept, fun a defined => ?credited, rfl, ?next⟩
  case kept => exact (look_tab _ a).trans (settleAccount_undefined m _ d undefined)
  case credited =>
    rintro _ _ _ _ rfl rfl rfl rfl bank bank' rfl
    refine ⟨?_, ?_⟩
    all_goals
      rintro active rfl
      refine (look_tab _ a).trans ((settleAccount_eq m _ d defined).trans ?_)
      rw [active, addToBank_eq]
      rfl
  case next =>
    refine congrArg Host.Outcome.next ?_
    rw [settle_complete records (complete_eq hire burn matrix dark), settleRecord, settledMark_eq]
    simp only [records, List.drop_one, List.tail_cons]
    rfl

end Sys2Proof.Machine
end

section
/-! SET INTERVAL (R122), the billing periods (R130, R132) and the accounts (R125, R126). -/

namespace Sys2Proof.Machine

section
variable (n : StationNo) (st : Station) {s : State}

/-! ## SET INTERVAL (R122) -/

theorem ownerSetInterval_allowed {minutes : Nat} (allowed : minutes ∈ [5, 10, 15, 20, 30, 60]) {p : Option Nat}
    (hp : p = if minutes = s.stl.clock.minutes then none else some minutes) : ownerSetInterval minutes n st s =
      ⟨setClock { s.stl.clock with pendingMinutes := p } s, .ok, .interval s.stl.clock.minutes p⟩ := by
  subst hp
  exact if_pos (List.contains_iff_mem.mpr allowed)

theorem ownerSetInterval_refused {minutes : Nat} (other : minutes ∉ [5, 10, 15, 20, 30, 60]) :
    ownerSetInterval minutes n st s = refuse .range s :=
  if_neg (mt List.contains_iff_mem.mp other)

/-! ## Billing periods (R130, R132) -/

/-- R130: the bank that is not ACTIVE is the only one that may be FROZEN. -/
theorem otherBank_frozen_iff (law : BankLaw s) : (bankHeader s (otherBank (activeBank s))).state = .frozen ↔
    s.stl.bankA.state = .frozen ∨ s.stl.bankB.state = .frozen := by
  rcases law with ⟨active, -⟩ | ⟨active, other⟩
  · simp [activeBank_of_active active, otherBank, bankHeader, active]
  · simp [activeBank_of_not_active other, otherBank, bankHeader, active]

theorem ownerClosePeriod_full (law : BankLaw s) (frozen : s.stl.bankA.state = .frozen ∨ s.stl.bankB.state = .frozen) :
    ownerClosePeriod n st s = refuse .bankFull s :=
  if_pos (beq_iff_eq.mpr ((otherBank_frozen_iff law).mpr frozen))

theorem ownerClosePeriod_taken (law : BankLaw s) (a : s.stl.bankA.state ≠ .frozen) (b : s.stl.bankB.state ≠ .frozen) :
    ownerClosePeriod n st s = ⟨setClosePending true s, .ok, .period (activeBank s) true⟩ :=
  if_neg fun frozen => ((otherBank_frozen_iff law).mp (beq_iff_eq.mp frozen)).elim a b

theorem activeBank_eq_a_iff : activeBank s = .a ↔ s.stl.bankA.state = .active := by
  simp [activeBank]

theorem ownerReleasePeriod_none (a : s.stl.bankA.state ≠ .frozen) (b : s.stl.bankB.state ≠ .frozen) :
    ownerReleasePeriod n st s = refuse .state s := by
  rw [ownerReleasePeriod, frozenBank_eq, if_neg a, if_neg b]

theorem ownerReleasePeriod_frozen {k : Bank} (frozen : frozenBank s = some k) :
    ownerReleasePeriod n st s = ⟨releaseBank k s, .ok, .empty⟩ := by
  rw [ownerReleasePeriod, frozen]

/-- R132: the release of a bank empties it in every account. -/
theorem releaseBank_a : releaseBank .a s = logAppend .periodReleased (some 0) s.stl.bankA.start s.stl.bankA.ends
    { s with stl := { s.stl with accounts := tab fun a => { s.account a with bankA := BankRec.zero },
                                 bankA := ⟨.released, none, none⟩ } } := by
  simp only [releaseBank, emptyBank, setHeader, setBank, bankHeader, bankCode]

theorem releaseBank_b : releaseBank .b s = logAppend .periodReleased (some 1) s.stl.bankB.start s.stl.bankB.ends
    { s with stl := { s.stl with accounts := tab fun a => { s.account a with bankB := BankRec.zero },
                                 bankB := ⟨.released, none, none⟩ } } := by
  simp only [releaseBank, emptyBank, setHeader, setBank, bankHeader, bankCode]

/-! ## Accounts (R125, R126) -/

theorem referenceOf_present (present : Bool) (reference : Nat) :
    referenceOf (if present then 1 else 0) reference = some (if present then some reference else none) := by
  cases present <;> rfl

theorem defineAccountRec_defined {r : Account} (h : r.defined = true) (ref : Option Nat) :
    defineAccountRec ref r = { r with reference := ref } := if_pos h

theorem defineAccountRec_undefined {r : Account} (h : r.defined = false) (ref : Option Nat) :
    defineAccountRec ref r =
      { r with defined := true, reference := ref, lastEnergy := 0, lastUnsourced := 0, lastCharge := 0,
               lastDark := 0 } :=
  if_neg (Bool.eq_false_iff.mp h)

/-- R125: DEFINE ACCOUNT of an account with the reference that the request carries. -/
theorem ownerDefineAccount_eq (a : AccountNo) (present : Bool) (reference : Nat) :
    ownerDefineAccount a.1 (if present then 1 else 0) reference n st s =
      ⟨setAccount a (defineAccountRec (if present then some reference else none) (s.account a)) s, .ok, .empty⟩ := by
  rw [ownerDefineAccount, index?_val, referenceOf_present]

/-- R126: a defined channel names the account. -/
theorem channelNames_iff {a : AccountNo} :
    channelNames s a = true ↔ ∃ c, (s.chan c).defined = true ∧ (s.chan c).account = some a := by
  simp [channelNames]

theorem ownerRemoveAccount_overhead : ownerRemoveAccount 0 n st s = refuse .state s := rfl

variable {a : AccountNo} (other : a ≠ 0)
include other

theorem ownerRemoveAccount_undefined (h : (s.account a).defined = false) :
    ownerRemoveAccount a.1 n st s = refuse .unknown s := by
  simp [ownerRemoveAccount, other, h]

theorem ownerRemoveAccount_named (h : (s.account a).defined = true)
    (named : ∃ c, (s.chan c).defined = true ∧ (s.chan c).account = some a) :
    ownerRemoveAccount a.1 n st s = refuse .state s := by
  simp [ownerRemoveAccount, other, h, channelNames_iff.mpr named]

theorem ownerRemoveAccount_holding (h : (s.account a).defined = true) (free : channelNames s a = false)
    (holds : bankHolds (s.account a).bankA = true ∨ bankHolds (s.account a).bankB = true) :
    ownerRemoveAccount a.1 n st s = refuse .state s := by
  simp [ownerRemoveAccount, other, h, free, holds]

theorem ownerRemoveAccount_taken (h : (s.account a).defined = true) (free : channelNames s a = false)
    (bankA : bankHolds (s.account a).bankA = false) (bankB : bankHolds (s.account a).bankB = false) :
    ownerRemoveAccount a.1 n st s = ⟨setAccount a (removedAccount (s.account a)) s, .ok, .empty⟩ := by
  simp [ownerRemoveAccount, other, h, free, bankA, bankB]

end

/-- Settles O31: each request is taken, and STL answers by the clock, the banks and the account it names. -/
theorem billingRequests : Obligations.BillingRequests := by
  refine ⟨fun rq n st s => ⟨fun taken m => ?interval, fun taken law => ?close, fun taken law => ?release⟩,
    fun rq n st s a => ⟨fun taken present reference ref href => ?define, fun taken => ?remove⟩⟩
  case interval =>
    exact ⟨fun allowed p hp => request_done _ _ _ _ n st s taken (fun _ => rfl) _ _ _
        (ownerSetInterval_allowed n _ allowed hp),
      fun other => request_anyObject taken (ownerSetInterval_refused n _ other)⟩
  case close =>
    have law' : BankLaw (heard rq n s) := law
    exact ⟨fun frozen => request_anyObject taken (ownerClosePeriod_full n _ law' frozen),
      fun a b => ⟨activeBank s, activeBank_eq_a_iff, request_done _ _ _ _ n st s taken (fun _ => rfl) _ _ _
        (ownerClosePeriod_taken n _ law' a b)⟩⟩
  case release =>
    have released {k : Bank} (frozen : frozenBank (heard rq n s) = some k) :
        exec (.releasePeriod rq) s = replied rq kindReleasePeriod n .ok .empty (releaseBank k (heard rq n s)) :=
      request_done _ _ _ _ n st s taken (fun _ => rfl) _ _ _ (ownerReleasePeriod_frozen n _ frozen)
    refine ⟨fun a b => request_anyObject taken (ownerReleasePeriod_none n _ a b), fun b => ?_, fun a => ?_⟩
    · have a : s.stl.bankA.state ≠ .frozen := by
        rcases law with ⟨active, -⟩ | ⟨active, -⟩
        · simp [active]
        · simp [active] at b
      have taken_b := released ((frozenBank_eq (heard rq n s)).trans ((if_neg a).trans (if_pos b)))
      rw [releaseBank_b] at taken_b
      exact ⟨_, look_tab _, taken_b⟩
    · have taken_a := released ((frozenBank_eq (heard rq n s)).trans (if_pos a))
      rw [releaseBank_a] at taken_a
      exact ⟨_, look_tab _, taken_a⟩
  case define =>
    subst href
    have written := request_done rq kindDefineAccount anyObject _ n st s taken (fun _ => rfl) _ _ _
      (ownerDefineAccount_eq n _ (s := heard rq n s) a present reference)
    refine ⟨fun defined => ?_, fun undefined => ?_⟩
    · rw [heard_account_at, defineAccountRec_defined defined] at written
      exact written
    · rw [heard_account_at, defineAccountRec_undefined undefined] at written
      exact written
  case remove =>
    refine ⟨request_anyObject taken (ownerRemoveAccount_overhead n _),
      fun other undefined => request_anyObject taken (ownerRemoveAccount_undefined n _ other undefined),
      fun other defined named => request_anyObject taken (ownerRemoveAccount_named n _ other defined named),
      fun other defined unnamed => ?_⟩
    have free : channelNames (heard rq n s) a = false := by
      refine Bool.eq_false_iff.mpr fun named => ?_
      obtain ⟨c, on, account⟩ := channelNames_iff.mp named
      exact unnamed c on account
    exact ⟨fun bankA bankB => request_done _ _ _ _ n st s taken (fun _ => rfl) _ _ _
        (ownerRemoveAccount_taken n _ other defined free bankA bankB),
      fun holds => request_anyObject taken (ownerRemoveAccount_holding n _ other defined free holds)⟩

end Sys2Proof.Machine
end

section
/-! READ WATCH (R148) and the values of the operands (R139). -/

namespace Sys2Proof.Machine

/-! ## The operands (R139) -/

section
variable {s : State} {i : SourceNo}

/-- R139: every figure of an UNLISTED source is absent. -/
theorem listedFigure_unlisted (h : (s.source i).state = .unlisted) (v : Option Word) : listedFigure s i v = none := by
  simp [listedFigure, h]

theorem listedFigure_listed (h : (s.source i).state ≠ .unlisted) (v : Option Word) : listedFigure s i v = v := by
  simp [listedFigure, h]

@[simp] theorem listedFigure_absent (s : State) (i : SourceNo) : listedFigure s i none = none := by
  simp [listedFigure]

theorem operandValue_unlisted (h : (s.source i).state = .unlisted) :
    ∀ o ∈ [Operand.sourceLoad i, .sourceFreq i, .sourceStatus i, .minutesToDry i, .tankBook i],
      operandValue s o = none := by
  simp [operandValue, listedFigure_unlisted h]

theorem operandValue_silent (h : (s.source i).telemetry = none) :
    operandValue s (.sourceLoad i) = none ∧ operandValue s (.sourceFreq i) = none ∧
      operandValue s (.tankVariance i) = none := by
  simp [operandValue, h, tankVariance_silent h]

theorem minutesToDry_tankAsRead_unset {k : Tank} (h : k.set = false) (r : Source) :
    minutesToDry (tankAsRead k r) = none := by
  simp [tankAsRead_eq, minutesToDry, h]

theorem operandValue_unset (h : (s.tank i).set = false) :
    operandValue s (.minutesToDry i) = none ∧ operandValue s (.tankBook i) = none ∧
      operandValue s (.tankVariance i) = none := by
  obtain ⟨level, -, variance, -⟩ := tankFigures_unset (r := s.source i) h
  simp [operandValue, level, variance, minutesToDry_tankAsRead_unset h]

theorem operandValue_accountCharge {a : AccountNo} (h : (s.account a).defined = true) :
    operandValue s (.accountCharge a) = some (wordOf (bankOf (s.account a) (activeBank s)).charge) :=
  if_pos h

/-- A request's arrival changes no figure that an operand is taken from. -/
@[simp] theorem operandValue_heard (rq : Request) (n : StationNo) (s : State) (o : Operand) :
    operandValue (heard rq n s) o = operandValue s o := by
  cases o <;> rfl

end

/-! ## READ WATCH (R148) -/

section
variable {rq : Request} {n : StationNo} {st : Station} {s : State}

/-- R157 check 4: a request from a station whose role the kind does not list. -/
theorem request_otherRole {k : Kind} (scope : Station → State → Bool) (owner : StationNo → Station → State → Done)
    (h : Heard rq n st s) (length : rq.len = k.len) (role : st.role ∉ k.roles) :
    (.next (request rq k scope owner s) : Host.Outcome State Fault Refusal) =
      replied rq k n .denied .empty (heard rq n s) := by
  have refusal : requestRefusal rq k scope n (requester rq st s) (heard rq n s) = some (.denied, .empty) := by
    simp [requestRefusal, requester, length, role]
  rw [request_refused rq k scope owner n st s h _ _ refusal, replied]

theorem ownerReadWatch_range {e : Nat} (h : 32 ≤ e) : ownerReadWatch e n st s = refuse .range s := by
  simp [ownerReadWatch, index?_eq_none_iff.mpr h]

theorem ownerReadWatch_defined {w : WatchNo} (h : (s.watch w).defined = true) :
    ownerReadWatch w.1 n st s = ⟨s, .ok, .watch (s.watch w) ((s.watch w).operand.bind (operandValue s))⟩ := by
  simp [ownerReadWatch, h, watchValue]

theorem ownerReadWatch_undefined {w : WatchNo} (h : (s.watch w).defined = false) :
    ownerReadWatch w.1 n st s = ⟨s, .ok, .watch (s.watch w) none⟩ := by
  simp [ownerReadWatch, h]

end

/-- Settles O33: READ WATCH by the role of the station and the entry it names, and the operands kind by kind. -/
theorem readWatchChangesNothing : Obligations.ReadWatchChangesNothing := by
  refine ⟨fun rq n st s hears length => ⟨fun other e => request_otherRole _ _ hears length ?_, fun console => ?read⟩,
    fun s i => ⟨operandValue_unlisted, operandValue_silent, operandValue_unset, fun v variance => ?_,
      fun listed => ?listed⟩, fun s m => ⟨fun h => ?_, fun h => ?_⟩, fun s c => ⟨fun h => ?_, fun h => ?_⟩,
    fun s a => ⟨fun h => ?_, fun h => ?account⟩, fun s => rfl⟩
  · simpa [kindReadWatch] using other
  case read =>
    have taken : Taken rq kindReadWatch n st s :=
      { hears with length := length, role := by simp [kindReadWatch, console], hold := nofun }
    refine ⟨fun e outside => request_anyObject taken (ownerReadWatch_range outside), fun w => ⟨fun h => ?_, fun h => ?_⟩⟩
    · have answered := ownerReadWatch_defined (n := n) (st := requester rq st s) (s := heard rq n s) h
      rw [funext (operandValue_heard rq n s)] at answered
      exact request_anyObject taken answered
    · exact request_anyObject taken (ownerReadWatch_undefined (s := heard rq n s) h)
  · simp [operandValue, variance]
  case listed =>
    simp only [operandValue, listedFigure_listed listed, ← tankAsRead_offHire]
    refine ⟨fun tel telemetry => ?_, trivial, fun v minutes => ?_, fun v level => ?_⟩
    · simp [telemetry, wordOf]
    · simp [minutes, wordOf]
    · simp [level, wordOf]
  · simp [operandValue, h]
  · simp [operandValue, h, wordOf]
  · simp [operandValue, h]
  · simp [operandValue, h, wordOf]
  · simp [operandValue, h]
  case account =>
    rw [operandValue_accountCharge h]
    exact ⟨fun active => by rw [activeBank_of_active active]; rfl,
      fun other => by rw [activeBank_of_not_active other]; rfl⟩

end Sys2Proof.Machine
end

section
/-! DEFINE WATCH, ARM WATCHES and DISARM WATCHES (R138, R147). -/

namespace Sys2Proof.Machine

/-! ## The fields of DEFINE WATCH (R138) -/

section
variable {f : WatchReq} {k : Nat}

theorem watchTransfer_notify (supply priority : Nat) : watchTransfer .notify supply priority = some (none, none) := rfl

theorem watchTransfer_transfer (x : SupplyNo) {priority : Nat} (h : priority ≤ 6) :
    watchTransfer .transfer (numberOf x) priority = some (some x, some priority) := by
  simp [watchTransfer, h]

theorem watchTransfer_range {supply priority : Nat} (h : supply = 0 ∨ 12 < supply ∨ 6 < priority) :
    watchTransfer .transfer supply priority = none := by
  by_cases high : 6 < priority
  · simp [watchTransfer, Nat.not_le.mpr high]
  · have named : supply = 0 ∨ 12 < supply := by omega
    simp [watchTransfer, number?_eq_none_iff.mpr named]

/-- What DEFINE WATCH makes of an entry when every field is in its range. -/
def definedWatch (f : WatchReq) (o : Operand) (c : CondCode) (a : WatchAction) (m : Option SupplyNo) (p : Option Nat)
    (r : Watch) : Watch :=
  { resetWatch r with
    defined := true, operand := some o, cond := c, threshold := f.threshold, hysteresis := f.hysteresis,
    persistence := f.persistence, action := a, supply := m, priority := p, mask := f.mask &&& 15 }

theorem defineFields_inRange {o : Operand} {c : CondCode} {a : WatchAction} {m : Option SupplyNo} {p : Option Nat}
    (operand : operandOf? k f.index = some o) (cond : condOf? f.cond = some c) (action : actionOf? f.action = some a)
    (transfer : watchTransfer a f.supply f.priority = some (m, p)) (persistence : f.persistence ≤ 3600) :
    defineFields k f = some (definedWatch f o c a m p) := by
  simp only [defineFields, operand, cond, action, transfer]
  exact if_pos persistence

/-- Fields that are taken are all in their ranges. -/
theorem inRange_of_defineFields {g : Watch → Watch} (h : defineFields k f = some g) :
    ∃ o c a t, operandOf? k f.index = some o ∧ condOf? f.cond = some c ∧ actionOf? f.action = some a ∧
      watchTransfer a f.supply f.priority = some t ∧ f.persistence ≤ 3600 := by
  unfold defineFields at h
  split at h
  next o c a operand cond action =>
    split at h
    next m p transfer =>
      split at h
      next persistence => exact ⟨o, c, a, (m, p), operand, cond, action, transfer, persistence⟩
      next => cases h
    next => cases h
  next => cases h

theorem defineFields_range (h : operandOf? k f.index = none ∨ condOf? f.cond = none ∨ actionOf? f.action = none ∨
      3600 < f.persistence ∨ (f.action = 1 ∧ (f.supply = 0 ∨ 12 < f.supply ∨ 6 < f.priority))) :
    defineFields k f = none := by
  refine Option.eq_none_iff_forall_ne_some.mpr fun g taken => ?_
  obtain ⟨o, c, a, t, operand, cond, action, transfer, persistence⟩ := inRange_of_defineFields taken
  rcases h with h | h | h | h | ⟨h, outside⟩
  · simp [h] at operand
  · simp [h] at cond
  · simp [h] at action
  · omega
  · obtain rfl : WatchAction.transfer = a := by simpa [h, actionOf?] using action
    simp [watchTransfer_range outside] at transfer

end

/-! ## The owners -/

section
variable {n : StationNo} {st : Station} {s : State}

theorem ownerDefineWatch_taken {w : WatchNo} {f : WatchReq} {g : Watch → Watch} (h : watchChange f = some g) :
    ownerDefineWatch w.1 f n st s = ⟨setWatch w (g (s.watch w)) s, .ok, .empty⟩ := by
  simp [ownerDefineWatch, h, modWatch]

theorem ownerDefineWatch_fields (entry : Nat) {f : WatchReq} (h : watchChange f = none) :
    ownerDefineWatch entry f n st s = refuse .range s := by
  unfold ownerDefineWatch
  rw [h]
  cases index? 32 entry <;> rfl

/-- R147: arming an entry that is defined and not yet armed puts it in IDLE. -/
theorem armWatch_eq (r : Watch) : armWatch r = if r.defined = true ∧ r.armed = false then
    { r with armed := true, state := .idle, counter := 0, refusalReported := false } else r := by
  simp [armWatch, idleWatch]

/-- R147: a bit of the mask of armed entries. -/
theorem armedMask_getLsbD (s : State) (w : WatchNo) : (armedMask s).getLsbD w.1 = (s.watch w).armed := by
  have small : ∀ f ∈ (indices 32).map fun v => (v.1, (s.watch v).armed), f.1 < 32 := by simp
  rw [Bool.eq_iff_iff, armedMask, statusWord_bit small]
  simp [Fin.val_inj]

theorem eachWatch_eq {mask : Word} {f : Watch → Watch} {all : Vector Watch 32}
    (each : ∀ w, look all w = if mask.getLsbD w.1 = true then f (s.watch w) else s.watch w) :
    eachWatch mask f s = { s with wch := all } := by
  have same : (tab fun w : WatchNo => if mask.getLsbD w.1 = true then f (s.watch w) else s.watch w) = all :=
    table_ext fun w => by rw [look_tab, each w]
  rw [eachWatch, same]

/-- R147: an arming or a disarming makes each entry that the mask names what `f` makes of it, and answers the mask of
armed entries. -/
theorem request_eachWatch {rq : Request} {k : Kind} (taken : Taken rq k n st s) {mask : Word} {f : Watch → Watch}
    {entry : WatchNo → Watch}
    (each : ∀ w, entry w = if mask.getLsbD w.1 = true then f (s.watch w) else s.watch w) :
    ∃ (all : Vector Watch 32) (armed : Word), (∀ w, look all w = entry w) ∧
      (∀ w : WatchNo, armed.getLsbD w.1 = (look all w).armed) ∧
      .next (request rq k anyObject (ownerArm mask f) s) =
        replied rq k n .ok (.armedWatches armed) { heard rq n s with wch := all } := by
  refine ⟨tab entry, armedMask { heard rq n s with wch := tab entry }, look_tab entry, armedMask_getLsbD _,
    request_done _ _ _ _ n st s taken (fun _ => rfl) _ _ _ ?_⟩
  have written : eachWatch mask f (heard rq n s) = { heard rq n s with wch := tab entry } :=
    eachWatch_eq fun w => (look_tab entry w).trans (each w)
  rw [ownerArm, written]

end

/-- Settles O58: an entry is written from fields that are all in range, and each arming by what it makes of an entry. -/
theorem watchesAreDefinedAndArmed : Obligations.WatchesAreDefinedAndArmed := by
  refine fun rq n st s => ⟨fun taken w f => ⟨fun undefines => ?undefine, ?define, fun k kind outside => ?range⟩,
    fun taken mask => request_eachWatch taken fun w => ?arm, fun taken mask => request_eachWatch taken fun w => rfl⟩
  case undefine =>
    have change : watchChange f = some undefineWatch := by rw [watchChange, undefines]
    exact request_done _ _ _ _ n st s taken (fun _ => rfl) _ _ _ (ownerDefineWatch_taken change)
  case define =>
    rintro k o c m p kind operand cond persistence r rfl
    have written {a : WatchAction} (action : actionOf? f.action = some a)
        (transfer : watchTransfer a f.supply f.priority = some (m, p)) : exec (.defineWatch rq w.1 f) s =
          replied rq kindDefineWatch n .ok .empty (setWatch w (definedWatch f o c a m p (s.watch w)) (heard rq n s)) := by
      have change : watchChange f = some (definedWatch f o c a m p) := by
        rw [watchChange, kind]
        exact defineFields_inRange operand cond action transfer persistence
      exact request_done _ _ _ _ n st s taken (fun _ => rfl) _ _ _ (ownerDefineWatch_taken change)
    refine ⟨?_, ?_⟩
    · rintro action rfl rfl
      exact written (by rw [action]; rfl) (watchTransfer_notify _ _)
    · rintro x action supply priority rfl rfl
      exact written (by rw [action]; rfl) (by rw [supply, watchTransfer_transfer x priority])
  case range =>
    have change : watchChange f = none := by
      rw [watchChange, kind]
      exact defineFields_range outside
    exact request_anyObject taken (ownerDefineWatch_fields w.1 change)
  case arm => rw [ite_and, armWatch_eq]

end Sys2Proof.Machine
end

section
/-! The condition codes on words (R141), and the release test (R142). -/

namespace Sys2Proof.Machine

/-! ## The flags of a comparison (R141) -/

section
variable (v t : Word)

theorem compare_z_iff_sub : (compare v t).z = true ↔ v - t = 0 := by simp [compare]

theorem compare_z_iff : (compare v t).z = true ↔ v = t := (compare_z_iff_sub v t).trans sub_eq_zero

theorem compare_c_iff : (compare v t).c = true ↔ v.toNat < t.toNat := by simp [compare]

theorem compare_v_iff : (compare v t).v = true ↔
    v.getLsbD 31 ≠ t.getLsbD 31 ∧ (v - t).getLsbD 31 ≠ v.getLsbD 31 := by
  simp [compare, BitVec.msb_eq_getLsbD_last]

/-- The sign of the difference and the overflow agree exactly where the value, read as signed, is not below the
threshold. -/
theorem compare_n_eq_v_iff : (compare v t).n = (compare v t).v ↔ t.toInt ≤ v.toInt := by
  have := v.isLt
  have := t.isLt
  simp only [compare, BitVec.msb_eq_decide, BitVec.toInt_eq_toNat_cond, BitVec.toNat_sub]
  rw [Bool.eq_iff_iff]
  simp only [Bool.and_eq_true, bne_iff_ne, decide_eq_true_eq, ne_eq, decide_eq_decide]
  omega

/-! ## What each code says of the two words -/

theorem condHolds_eq_iff : condHolds .eq v t = true ↔ v = t := compare_z_iff v t

theorem condHolds_ne_iff : condHolds .ne v t = true ↔ v ≠ t := by
  simp [condHolds, ← compare_z_iff]

theorem condHolds_ge_iff : condHolds .ge v t = true ↔ t.toInt ≤ v.toInt := by
  simp [condHolds, compare_n_eq_v_iff]

theorem condHolds_lt_iff : condHolds .lt v t = true ↔ v.toInt < t.toInt := by
  simp [condHolds, compare_n_eq_v_iff]

theorem condHolds_gt_iff : condHolds .gt v t = true ↔ t.toInt < v.toInt := by
  have z : (compare v t).z = false ↔ v.toInt ≠ t.toInt := by
    rw [← Bool.not_eq_true, compare_z_iff, ne_eq, BitVec.toInt_inj]
  simp only [condHolds, Bool.and_eq_true, Bool.not_eq_true', beq_iff_eq, z, compare_n_eq_v_iff]
  omega

theorem condHolds_le_iff : condHolds .le v t = true ↔ v.toInt ≤ t.toInt := by
  have opposite : condHolds .le v t = !condHolds .gt v t := by simp [condHolds, bne]
  rw [opposite, Bool.not_eq_true', ← Bool.not_eq_true, condHolds_gt_iff, not_lt]

theorem condHolds_below_iff : condHolds .below v t = true ↔ v.toNat < t.toNat := compare_c_iff v t

theorem condHolds_atOrAbove_iff : condHolds .atOrAbove v t = true ↔ t.toNat ≤ v.toNat := by
  simp [condHolds, ← Bool.not_eq_true, compare_c_iff]

theorem condHolds_atOrBelow_iff : condHolds .atOrBelow v t = true ↔ v.toNat ≤ t.toNat := by
  simp only [condHolds, Bool.or_eq_true, compare_c_iff, compare_z_iff, ← BitVec.toNat_inj]
  omega

theorem condHolds_above_iff : condHolds .above v t = true ↔ t.toNat < v.toNat := by
  have opposite : condHolds .above v t = !condHolds .atOrBelow v t := by simp [condHolds]
  rw [opposite, Bool.not_eq_true', ← Bool.not_eq_true, condHolds_atOrBelow_iff, not_le]

theorem condHolds_neg_iff : condHolds .neg v t = true ↔ v.getLsbD 31 = true := by
  rw [condHolds, BitVec.msb_eq_getLsbD_last]

theorem condHolds_bitClr_iff : condHolds .bitClr v t = true ↔ v.getLsbD (t.toNat % 32) = false := by
  simp [condHolds]

end

/-! ## The release test (R142) -/

section
variable {w : Watch} (v : Word)

theorem released_always (h : w.cond = .always) (x : Option Word) : released w x = false := by simp [released, h]

theorem released_absent (h : w.cond ≠ .always) : released w none = true := by simp [released, h]

theorem released_iff {c : CondCode} (h : w.cond = c) (other : c ≠ .always) : released w (some v) = true ↔
    ¬ condHolds c v (releaseThreshold c w.threshold w.hysteresis) = true := by
  simp [released, h, other]

/-- R142: the threshold of a signed code that holds above it is lowered, and held at the lowest signed word. -/
theorem releaseThreshold_signed_lowered {c : CondCode} (code : c = .gt ∨ c = .ge) (t : Word) (h : Nat) :
    (releaseThreshold c t h).toInt = max (-2147483648) (t.toInt - h) := by
  have high : t.toInt < 2147483648 := BitVec.toInt_lt
  rcases code with rfl | rfl <;> exact BitVec.toInt_ofInt_eq_self (by decide) (by omega) (by omega)

/-- R142: the threshold of a signed code that holds below it is raised, and held at the highest signed word. -/
theorem releaseThreshold_signed_raised {c : CondCode} (code : c = .lt ∨ c = .le) (t : Word) (h : Nat) :
    (releaseThreshold c t h).toInt = min 2147483647 (t.toInt + h) := by
  have low : -2147483648 ≤ t.toInt := BitVec.le_toInt t
  rcases code with rfl | rfl <;> exact BitVec.toInt_ofInt_eq_self (by decide) (by omega) (by omega)

/-- R142: the threshold of an unsigned code that holds above it is lowered, and held at 0. -/
theorem releaseThreshold_unsigned_lowered {c : CondCode} (code : c = .above ∨ c = .atOrAbove) (t : Word) (h : Nat) :
    (releaseThreshold c t h).toNat = t.toNat - h := by
  have fits : t.toNat - h < 2 ^ 32 := by omega
  rcases code with rfl | rfl <;> exact Nat.mod_eq_of_lt fits

/-- R142: the threshold of an unsigned code that holds below it is raised, and held at the highest word. -/
theorem releaseThreshold_unsigned_raised {c : CondCode} (code : c = .below ∨ c = .atOrBelow) (t : Word) (h : Nat) :
    (releaseThreshold c t h).toNat = min 4294967295 (t.toNat + h) := by
  have fits : min 4294967295 (t.toNat + h) < 2 ^ 32 := by omega
  rcases code with rfl | rfl <;> exact Nat.mod_eq_of_lt fits

/-- R142: a code without an order is released where it does not hold, whatever the hysteresis. -/
theorem released_unordered (h : w.cond = .eq ∨ w.cond = .ne ∨ w.cond = .neg ∨ w.cond = .bitSet ∨ w.cond = .bitClr) :
    released w (some v) = true ↔ condHolds w.cond v w.threshold = false := by
  rcases h with h | h | h | h | h <;> simp [released, h, releaseThreshold]

end

/-- Settles O59: the flags by their definitions, each code by the order of the words it reads, and each release test by
its code against the release threshold. -/
theorem conditionsAndReleaseTests : Obligations.ConditionsAndReleaseTests := by
  refine ⟨?conditions, fun w v => ⟨fun h => ?gt, fun h => ?ge, fun h => ?lt, fun h => ?le, fun h => ?above,
    fun h => ?atOrAbove, fun h => ?below, fun h => ?atOrBelow, released_unordered v, released_absent, released_always⟩⟩
  case conditions =>
    rintro v t f rfl
    have sign : (compare v t).n = true ↔ (v - t).getLsbD 31 = true := by rw [← BitVec.msb_eq_getLsbD_last]; rfl
    exact ⟨compare_z_iff_sub v t, sign, compare_c_iff v t, compare_v_iff v t, rfl, rfl, rfl, rfl, rfl, rfl, rfl, rfl,
      rfl, rfl, condHolds_eq_iff v t, condHolds_ne_iff v t, condHolds_gt_iff v t, condHolds_ge_iff v t,
      condHolds_lt_iff v t, condHolds_le_iff v t, condHolds_above_iff v t, condHolds_atOrAbove_iff v t,
      condHolds_below_iff v t, condHolds_atOrBelow_iff v t, condHolds_neg_iff v t, Iff.rfl, condHolds_bitClr_iff v t,
      rfl⟩
  case gt => rw [released_iff v h nofun, condHolds_gt_iff, releaseThreshold_signed_lowered (.inl rfl), not_lt]
  case ge => rw [released_iff v h nofun, condHolds_ge_iff, releaseThreshold_signed_lowered (.inr rfl), not_le]
  case lt => rw [released_iff v h nofun, condHolds_lt_iff, releaseThreshold_signed_raised (.inl rfl), not_lt]
  case le => rw [released_iff v h nofun, condHolds_le_iff, releaseThreshold_signed_raised (.inr rfl), not_le]
  case above => rw [released_iff v h nofun, condHolds_above_iff, releaseThreshold_unsigned_lowered (.inl rfl), not_lt]
  case atOrAbove =>
    rw [released_iff v h nofun, condHolds_atOrAbove_iff, releaseThreshold_unsigned_lowered (.inr rfl), not_le]
  case below => rw [released_iff v h nofun, condHolds_below_iff, releaseThreshold_unsigned_raised (.inl rfl), not_lt]
  case atOrBelow =>
    rw [released_iff v h nofun, condHolds_atOrBelow_iff, releaseThreshold_unsigned_raised (.inr rfl), not_le]

end Sys2Proof.Machine
end

section
/-! The sample of a watch entry (R140, R143 to R145). -/

namespace Sys2Proof.Machine

section
variable {w : WatchNo} {s u t : State} {q r : Watch} {v : Option Word} {x : Word}

theorem modWatch_eq (here : u.watch w = q) (f : Watch → Watch) : modWatch w f u = setWatch w (f q) u := by
  rw [modWatch, here]

theorem setWatch_here (w : WatchNo) (q : Watch) (s : State) : (setWatch w q s).watch w = q := by simp

/-! ## A firing (R144, R145) -/

/-- R144: the raise and the record of a NOTIFY entry. -/
theorem fire_notify (here : u.watch w = q) (action : q.action = .notify) : fire w x u =
    setWatch w { q with state := .fired } (logAppend .watchFired (some w.1) (some x.toNat) (some q.threshold.toNat)
      (raise (.watchFired w x .ok) (toMask q.mask) u)) := by
  have kept : (logWatchFired w x q.threshold.toNat (raise (.watchFired w x .ok) (toMask q.mask) u)).watch w = q := by
    simp [logWatchFired, here]
  have fired : fire w x u = fireNotify w x u := by simp [fire, here, action]
  rw [fired, fireNotify, here, modWatch_eq kept, logWatchFired]

theorem fire_transfer (here : u.watch w = q) (action : q.action = .transfer) : fire w x u = askTransfer w x false u := by
  simp [fire, here, action]

section
variable {n : SupplyNo} {p : Nat} (here : u.watch w = q) (supply : q.supply = some n) (priority : q.priority = some p)
include here supply priority

/-- R145: the request is accepted. -/
theorem askTransfer_accepted {k : Nat} {y : Input} {m : ModeEff} (retry : Bool)
    (asked : admitOrPreempt (watchAsk w n p) u = ⟨t, .accepted k y m⟩) (kept : t.watch w = q) :
    askTransfer w x retry u = setWatch w
      { q with ticket := some k, lastStatus := some (.status .accepted), state := .fired,
               counter := if retry then 0 else q.counter }
      (logAppend .watchFired (some w.1) (some x.toNat) (some (statusCode .accepted)) t) := by
  have same : (logAppend .watchFired (some w.1) (some x.toNat) (some (statusCode .accepted)) t).watch w = q := by
    simp [kept]
  have taken : askTransfer w x retry u = modWatch w (fun r =>
      { r with ticket := some k, lastStatus := some (.status .accepted), state := .fired,
               counter := if retry then 0 else r.counter })
      (logAppend .watchFired (some w.1) (some x.toNat) (some (statusCode .accepted)) t) := by
    simp only [askTransfer, here, supply, priority, asked, logWatchFired]
  rw [taken, modWatch_eq same]

/-- R145: the request is refused, which is raised once a firing. -/
theorem askTransfer_refused {e : Status} (retry : Bool)
    (asked : admitOrPreempt (watchAsk w n p) u = ⟨t, .refused e⟩) (kept : t.watch w = q) {l : State}
    (logged : l = logAppend .watchFired (some w.1) (some x.toNat) (some (statusCode e)) t) :
    askTransfer w x retry u = setWatch w
      { q with lastStatus := some (.status e), state := .retry, counter := 0, refusalReported := true }
      (if q.refusalReported then l else raise (.watchFired w x e) (toMask q.mask) l) := by
  have same : l.watch w = q := by simp [logged, kept]
  have told : (if q.refusalReported then l else raise (.watchFired w x e) (toMask q.mask) l).watch w = q := by
    split <;> simp [same]
  have refused : askTransfer w x retry u = watchRefused w x e l := by
    simp only [askTransfer, here, supply, priority, asked, logWatchFired, ← logged]
  rw [refused, watchRefused, same, modWatch_eq told]

end

/-! ## The moves (R143) -/

section
variable (here : u.watch w = q)
include here

theorem moveWatch_idles (state : q.state = .idle ∨ q.state = .pending) (fails : q.lastCond = false) :
    moveWatch w v u = setWatch w { q with state := .idle, counter := 0 } u := by
  rcases state with state | state <;> simp [moveWatch, here, state, fails, modWatch]

theorem moveWatch_releases (state : q.state = .fired ∨ q.state = .retry) (free : released q v = true) :
    moveWatch w v u = setWatch w { q with state := .idle, counter := 0, refusalReported := false } u := by
  rcases state with state | state <;> simp [moveWatch, here, state, free, modWatch, idleWatch]

theorem moveWatch_stays (state : q.state = .fired) (bound : released q v = false) : moveWatch w v u = u := by
  simp [moveWatch, here, state, bound]

/-- A true sample in IDLE or PENDING brings the counter to `count`. -/
theorem moveWatch_counts {count : Nat} (holds : q.lastCond = true)
    (counted : q.state = .idle ∧ count = 1 ∨ q.state = .pending ∧ count = q.counter + 1) :
    moveWatch w (some x) u =
      if q.persistence ≤ count then fire w x (setWatch w { q with state := .pending, counter := count } u)
      else setWatch w { q with state := .pending, counter := count } u := by
  rcases counted with ⟨state, rfl⟩ | ⟨state, rfl⟩ <;> simp [moveWatch, here, state, holds, countTrue, modWatch]

/-- A sample in RETRY that is not released, and at which the entry does not ask again. -/
theorem moveWatch_waits {count : Nat} (state : q.state = .retry) (bound : released q v = false)
    (counted : count = min 10 (q.counter + 1)) (quiet : count < 10 ∨ q.lastCond = false) :
    moveWatch w v u = setWatch w { q with counter := count } u := by
  have unasked : ¬ (decide (count = 10) && q.lastCond) = true := by
    rcases quiet with short | fails
    · simp [short.ne]
    · simp [fails]
  have retried : moveWatch w v u = countRetry w v u := by simp [moveWatch, here, state, bound]
  cases v with
  | none => simp [retried, countRetry, modWatch_eq here, counted]
  | some x =>
    simp only [retried, countRetry, modWatch_eq here, setWatch_here, ← counted]
    exact if_neg unasked

/-- A true sample in RETRY that is not released, with the counter at 9 or 10. -/
theorem moveWatch_asksAgain (state : q.state = .retry) (bound : released q (some x) = false) (full : 9 ≤ q.counter)
    (holds : q.lastCond = true) :
    moveWatch w (some x) u = askTransfer w x true (setWatch w { q with counter := 10 } u) := by
  have ten : min 10 (q.counter + 1) = 10 := by omega
  simp [moveWatch, here, state, bound, countRetry, modWatch, ten, holds]

end

/-! ## The sample (R140) -/

theorem sampleWatch_disarmed (h : (s.watch w).armed = false) : sampleWatch s w = s := by simp [sampleWatch, h]

theorem sampleWatch_armed (h : (s.watch w).armed = true) (hr : r = s.watch w) (hv : v = r.operand.bind (operandValue s)) :
    sampleWatch s w = moveWatch w v (setWatch w { r with lastValue := v, lastCond := condition r v } s) := by
  subst hr hv
  simp [sampleWatch, h, modWatch, watchValue]

end

/-- Settles O60: an armed entry is moved by its state, and a firing or a retry by what XFR answers. -/
theorem watchSamplesMoveTheEntry : Obligations.WatchSamplesMoveTheEntry := by
  refine ⟨fun order t s => rfl, fun s u w r q v hr hv hq hu => ⟨fun disarmed => sampleWatch_disarmed (hr ▸ disarmed),
    fun armed => ?_⟩⟩
  have sample : sampleWatch s w = moveWatch w v u := by
    rw [hu, hq]
    exact sampleWatch_armed (hr ▸ armed) hr hv
  have here : u.watch w = q := hu ▸ setWatch_here w q s
  have twice (y : Watch) : setWatch w y u = setWatch w y s := by rw [hu, setWatch_twice]
  clear hr hv hu armed
  simp only [sample, ← twice]
  subst hq
  refine ⟨moveWatch_idles here, moveWatch_releases here, fun state => moveWatch_stays here state,
    fun count => moveWatch_waits here, fun x count hv holds counted => ?counts,
    fun x n p state bound full hv holds supply priority a b t hb ha => ?retries⟩
  case counts =>
    subst hv
    rw [moveWatch_counts here holds counted]
    refine ⟨fun below => if_neg (Nat.not_le.mpr below), fun fires notify => ?notify,
      fun n p fires transfer supply priority a b t hb ha => ?transfer⟩
    case notify => exact (if_pos fires).trans (fire_notify (setWatch_here w _ u) notify)
    case transfer =>
      have asker : b.watch w = _ := hb ▸ setWatch_here w _ u
      rw [if_pos fires, ← hb, fire_transfer asker transfer]
      subst ha
      refine ⟨fun k y m asked kept => askTransfer_accepted asker supply priority false asked (kept.trans asker),
        fun e asked kept first => ?_⟩
      exact (askTransfer_refused asker supply priority false asked (kept.trans asker) rfl).trans
        (congrArg (setWatch w _) (if_neg (by simp [first])))
  case retries =>
    subst hv ha
    have asker : b.watch w = _ := hb ▸ setWatch_here w _ u
    rw [moveWatch_asksAgain here state bound full holds, ← hb]
    exact ⟨fun k y m asked kept => askTransfer_accepted asker supply priority true asked (kept.trans asker),
      fun e l asked kept logged => askTransfer_refused asker supply priority true asked (kept.trans asker) logged⟩

end Sys2Proof.Machine
end

section
/-! What the laws of LNK and STN speak of (R150, R156, R159): for each port whether it is enabled and which flags it
shows, the map hold, and the place of each listed station. What a command can do to these is said once, as moves; each
of the three laws is one that every move keeps. -/

namespace Sys2Proof.Machine

/-! ## The front of a state -/

/-- The enabled mark and the flags of each port, the map hold, and the port and link address of each station. -/
structure Front where
  ports : Vector (Bool × PortFlags) 4
  hold : Option StationNo
  places : Vector (Option (PortNo × Nat)) 32

def Port.face (r : Port) : Bool × PortFlags := (r.current.enabled, r.flags)

def Ident.place (i : Ident) : PortNo × Nat := (i.port, i.addr)

def Station.place (st : Station) : PortNo × Nat := (st.port, st.addr)

def State.front (s : State) : Front :=
  { ports := tab fun p => (s.port p).face, hold := s.stn.hold, places := tab fun n => (s.station n).map Station.place }

/-- R150: a port that is disabled shows no flag. -/
def QuietFace (x : Bool × PortFlags) : Prop := x.1 = false → x.2 = PortFlags.clear

/-- What `State.cold` shows: station 0 alone is listed, and no flag is set. -/
def Front.cold : Front :=
  { ports := tab fun _ => (true, PortFlags.clear), hold := none, places := tab fun n => if n = 0 then some (0, 1) else none }

/-! ## The laws, as laws of the front -/

theorem quietPortLaw_iff (s : State) : QuietPortLaw s ↔ ∀ p, QuietFace (look s.front.ports p) := by
  simp only [State.front, look_tab]
  exact Iff.rfl

theorem holdLaw_iff (s : State) :
    HoldLaw s ↔ ∀ n, s.front.hold = some n → (look s.front.places n).isSome = true := by
  simp only [State.front, look_tab, Option.isSome_map]
  exact Iff.rfl

theorem addressLaw_iff (s : State) :
    AddressLaw s ↔ ∀ n m x, look s.front.places n = some x → look s.front.places m = some x → n = m := by
  simp only [State.front, look_tab, Option.map_eq_some_iff]
  constructor
  · rintro law n m _ ⟨a, first, rfl⟩ ⟨b, second, same⟩
    obtain ⟨port, addr⟩ := Prod.mk.inj same
    exact law n m a b first second port.symm addr.symm
  · intro law n m a b first second port addr
    exact law n m a.place ⟨a, first, rfl⟩ ⟨b, second, (congrArg₂ Prod.mk port addr).symm⟩

/-! ## The moves -/

/-- What a command can do to the front: a port is written that then is enabled or shows no flag; the hold goes to a
listed station or becomes free; a station is listed at a place that no other has; a station is removed, and its hold
becomes free (R158); the part starts cold. -/
inductive Move : Front → Front → Prop
  | ports (f : Front) (v : Vector (Bool × PortFlags) 4) (sound : ∀ p, look v p = look f.ports p ∨ QuietFace (look v p)) :
    Move f { f with ports := v }
  | hold (f : Front) (h : Option StationNo) (listed : ∀ n, h = some n → (look f.places n).isSome = true) :
    Move f { f with hold := h }
  | seat (f : Front) (n : StationNo) (x : PortNo × Nat) (fresh : ∀ m, look f.places m ≠ some x) :
    Move f { f with places := upd f.places n (some x) }
  | unseat (f : Front) (m : StationNo) :
    Move f { f with places := upd f.places m none, hold := if f.hold = some m then none else f.hold }
  | cold (f : Front) : Move f Front.cold

abbrev Moves : Front → Front → Prop := Relation.ReflTransGen Move

theorem Moves.keeps {P : Front → Prop} (keeps : ∀ f g, Move f g → P f → P g) {f g : Front} (moves : Moves f g)
    (h : P f) : P g := by
  induction moves with
  | refl => exact h
  | tail _ move ih => exact keeps _ _ move ih

theorem moves_of_eq {f g : Front} (same : g = f) : Moves f g := same ▸ .refl

/-- R150. -/
theorem Move.keeps_quiet (f g : Front) (move : Move f g) (law : ∀ p, QuietFace (look f.ports p)) (p : PortNo) :
    QuietFace (look g.ports p) := by
  cases move with
  | ports v sound => exact (sound p).elim (fun same => same ▸ law p) id
  | cold => exact fun _ => by rw [Front.cold, look_tab]
  | hold | seat | unseat => exact law p

/-- R159. -/
theorem Move.keeps_hold (f g : Front) (move : Move f g) (law : ∀ n, f.hold = some n → (look f.places n).isSome = true)
    (n : StationNo) (held : g.hold = some n) : (look g.places n).isSome = true := by
  cases move with
  | ports => exact law n held
  | hold h listed => exact listed n held
  | seat k x fresh =>
    rw [look_upd]
    split
    · rfl
    · exact law n held
  | unseat m =>
    dsimp only at held
    split at held
    · cases held
    · have other : m ≠ n := fun same => ‹¬ f.hold = some m› (same ▸ held)
      rw [look_upd, if_neg other]
      exact law n held
  | cold => cases held

/-- R156. -/
theorem Move.keeps_address (f g : Front) (move : Move f g)
    (law : ∀ n m x, look f.places n = some x → look f.places m = some x → n = m) (n m : StationNo) (x : PortNo × Nat)
    (first : look g.places n = some x) (second : look g.places m = some x) : n = m := by
  cases move with
  | ports | hold => exact law n m x first second
  | seat k y fresh =>
    rw [look_upd] at first second
    split at first <;> split at second
    · exact ‹k = n›.symm.trans ‹k = m›
    · exact absurd (second.trans first.symm) (fresh m)
    · exact absurd (first.trans second.symm) (fresh n)
    · exact law n m x first second
  | unseat k =>
    rw [look_upd] at first second
    split at first <;> split at second
    · cases first
    · cases first
    · cases second
    · exact law n m x first second
  | cold =>
    rw [Front.cold, look_tab] at first second
    split at first <;> split at second
    · exact ‹n = 0›.trans ‹m = 0›.symm
    · cases second
    · cases first
    · cases first

/-! ## What leaves the front alone -/

section
variable {s t : State}

theorem front_eq (ports : ∀ p, (t.port p).face = (s.port p).face) (hold : t.stn.hold = s.stn.hold)
    (places : ∀ n, (t.station n).map Station.place = (s.station n).map Station.place) : t.front = s.front := by
  simp only [State.front, ports, hold, places]

/-- A station's place is part of what no raise and no log record changes. -/
theorem front_of_idents (lnk : t.lnk = s.lnk) (hold : t.stn.hold = s.stn.hold) (idents : t.idents = s.idents) :
    t.front = s.front := by
  refine front_eq (fun p => by rw [State.port, lnk, State.port]) hold fun n => ?_
  have ident := congrArg (Option.map Ident.place) (ident_of_idents idents n)
  rwa [Option.map_map, Option.map_map] at ident

theorem front_of_still (same : t.still = s.still) : t.front = s.front := by
  simp only [State.still, Still.mk.injEq] at same
  obtain ⟨-, lnk, hold, idents, -⟩ := same
  exact front_of_idents lnk hold idents

theorem front_of_stands (stands : Stands s t) : t.front = s.front :=
  front_of_idents stands.lnk stands.hold stands.idents

theorem front_of_stn (lnk : t.lnk = s.lnk) (stn : t.stn = s.stn) : t.front = s.front :=
  front_of_idents lnk (by rw [stn]) (by simp only [State.idents, State.station, stn])

end

section
variable (s : State)

@[simp] theorem front_advanceTo (t : Nat) : (advanceTo t s).front = s.front := rfl
@[simp] theorem front_refuse (e : Status) : (refuse e s).state.front = s.front := rfl
@[simp] theorem front_setChan (k : ChannelNo) (r : Chan) : (setChan k r s).front = s.front := rfl
@[simp] theorem front_modChan (k : ChannelNo) (f : Chan → Chan) : (modChan k f s).front = s.front := rfl
@[simp] theorem front_setMatrix (m : Matrix) : (setMatrix m s).front = s.front := rfl
@[simp] theorem front_setClock (c : Clock) : (setClock c s).front = s.front := rfl
@[simp] theorem front_setAccount (a : AccountNo) (r : Account) : (setAccount a r s).front = s.front := rfl
@[simp] theorem front_setPrice (p : Nat) : (setPrice p s).front = s.front := rfl
@[simp] theorem front_setLimits (l : SyncLimits) : (setLimits l s).front = s.front := rfl
@[simp] theorem front_setFill (i : SourceNo) (closed : Bool) : (setFill i closed s).front = s.front := rfl
@[simp] theorem front_setFillUnread (i : SourceNo) (b : Bool) : (setFillUnread i b s).front = s.front := rfl
@[simp] theorem front_setClosePending (k : Bool) : (setClosePending k s).front = s.front := front_of_stn rfl rfl
@[simp] theorem front_emptyBank (k : Bank) : (emptyBank k s).front = s.front :=
  front_of_stn (by simp only [emptyBank]) (by simp only [emptyBank])
@[simp] theorem front_markGoneAll (m : StationNo) : (markGoneAll m s).front = s.front := front_of_stn rfl rfl

@[simp] theorem front_setHeader (k : Bank) (h : BankHeader) : (setHeader k h s).front = s.front := by cases k <;> rfl

@[simp] theorem front_resetRuns : (resetRuns s).front = s.front := front_of_still (by simp)

@[simp] theorem front_raise (d : Detail) (who : StationNo → Station → Bool) : (raise d who s).front = s.front :=
  front_of_still (by simp)

@[simp] theorem front_logAppend (kind : LogKind) (subject v1 v2 : Option Nat) :
    (logAppend kind subject v1 v2 s).front = s.front := front_of_still (by simp)

@[simp] theorem front_takeBoundary (endTime : Nat) : (takeBoundary endTime s).front = s.front :=
  front_of_stands (stands_takeBoundary endTime s)

theorem front_modPort {p : PortNo} {f : Port → Port} (same : (f (s.port p)).face = (s.port p).face) :
    (modPort p f s).front = s.front := by
  refine front_eq (fun q => ?_) rfl fun _ => rfl
  by_cases here : p = q
  · subst here
    simpa [modPort] using same
  · simp [modPort, here]

theorem front_setStation {n : StationNo} {r : Option Station}
    (same : r.map Station.place = (s.station n).map Station.place) : (setStation n r s).front = s.front := by
  refine front_eq (fun _ => rfl) rfl fun m => ?_
  by_cases here : n = m
  · subst here
    simpa using same
  · simp [here]

theorem front_modStation {n : StationNo} {f : Station → Station} (same : ∀ st, (f st).place = st.place) :
    (modStation n f s).front = s.front :=
  front_setStation s (by rw [Option.map_map]; exact congrArg (fun g => (s.station n).map g) (funext same))

@[simp] theorem front_touch (n : StationNo) : (touch n s).front = s.front := front_modStation s fun _ => rfl

@[simp] theorem front_setRx (p : PortNo) (rx : Rx) : (setRx p rx s).front = s.front := front_modPort s rfl

@[simp] theorem front_answer (rq : Request) (code : Nat) (n : Option StationNo) (status : Status) (body : Body) :
    (answer rq code n status body s).front = s.front := front_modPort s rfl

/-! ### LNK, MTR, TNK and STL -/

@[simp] theorem front_lineQuiet (p : PortNo) : (lineQuiet p s).front = s.front := by
  unfold lineQuiet
  split <;> simp

@[simp] theorem front_huntChar (p : PortNo) (c : RxChar) : (huntChar p c s).front = s.front := by
  unfold huntChar
  split <;> simp

@[simp] theorem front_risingEdge (k : ChannelNo) : (risingEdge k s).front = s.front := by
  unfold risingEdge
  split <;> simp

@[simp] theorem front_fallingEdge (k : ChannelNo) : (fallingEdge k s).front = s.front := by
  unfold fallingEdge fallDefined countPulse
  dsimp only
  (repeat' split) <;> simp

@[simp] theorem front_fillPointClose (i : SourceNo) : (fillPointClose i s).front = s.front := by
  unfold fillPointClose
  split
  · rfl
  · exact (front_of_still (still_fillClosed i _)).trans rfl

@[simp] theorem front_fillPointOpen (i : SourceNo) : (fillPointOpen i s).front = s.front := by
  unfold fillPointOpen
  split
  · exact (front_of_still (still_fillOpened i _)).trans rfl
  · rfl

@[simp] theorem front_fillRestartCheck (i : SourceNo) (closed : Bool) :
    (fillRestartCheck i closed s).front = s.front := by
  unfold fillRestartCheck
  split
  · exact (front_of_still (still_compareFill i closed _)).trans rfl
  · rfl

@[simp] theorem front_tickBlocks (order : TickOrder) : (tickBlocks order s).front = s.front := by
  have ticked : (tickOwners order (tickClock s)).front = s.front := by
    rw [tickOwners_frame]
    rfl
  unfold tickBlocks
  dsimp only
  split <;> simp [ticked]

@[simp] theorem front_secondTick (order : TickOrder) : (secondTick order s).front = s.front := by
  have sampled (u : State) : (sampleAll u).front = u.front := front_of_still (still_sampleAll u)
  unfold secondTick
  split <;> simp [sampled]

@[simp] theorem front_takeTime (time : Nat) : (takeTime time s).front = s.front := by
  unfold takeTime
  dsimp only
  split <;> simp

@[simp] theorem front_settle : (settle s).front = s.front := by
  have closed (endTime : Nat) (u : State) : (takeClose endTime u).front = u.front := by
    unfold takeClose
    split
    · dsimp only
      rw [front_raise, front_logAppend]
      exact (front_setHeader _ _ _).trans (front_setHeader _ _ _)
    · rfl
  have settled (c : Complete) : (settleRecord c s).front = s.front := (front_logAppend ..).trans rfl
  unfold settle
  (repeat' split) <;> simp [closed, settled]

/-! ### Answers that concern no port, no hold and no place -/

variable (n : StationNo) (st : Station)

@[simp] theorem front_ownerSetTime (time : Nat) : (ownerSetTime time n st s).state.front = s.front := front_takeTime s time

@[simp] theorem front_ownerSetInterval (minutes : Nat) : (ownerSetInterval minutes n st s).state.front = s.front := by
  unfold ownerSetInterval
  dsimp only
  split <;> simp

@[simp] theorem front_ownerDefineAccount (account present reference : Nat) :
    (ownerDefineAccount account present reference n st s).state.front = s.front := by
  unfold ownerDefineAccount
  split <;> simp

@[simp] theorem front_ownerRemoveAccount (account : Nat) : (ownerRemoveAccount account n st s).state.front = s.front := by
  unfold ownerRemoveAccount
  (repeat' split) <;> simp

@[simp] theorem front_ownerClosePeriod : (ownerClosePeriod n st s).state.front = s.front := by
  unfold ownerClosePeriod
  split <;> simp

@[simp] theorem front_ownerReleasePeriod : (ownerReleasePeriod n st s).state.front = s.front := by
  unfold ownerReleasePeriod releaseBank
  split <;> simp

@[simp] theorem front_ownerReadAccount (account bank : Nat) : (ownerReadAccount account bank n st s).state.front = s.front := by
  unfold ownerReadAccount
  (repeat' split) <;> simp

@[simp] theorem front_ownerReadSettlement : (ownerReadSettlement n st s).state.front = s.front := rfl

@[simp] theorem front_ownerSetLimits (slip phase volts timeout : Option Nat) :
    (ownerSetLimits slip phase volts timeout n st s).state.front = s.front := by
  unfold ownerSetLimits
  dsimp only
  (repeat' split) <;> simp

@[simp] theorem front_ownerSetPrice (price : Nat) : (ownerSetPrice price n st s).state.front = s.front := by
  unfold ownerSetPrice
  split <;> simp

@[simp] theorem front_ownerDefineChannel (channel : Nat) (supply account : Option Nat) (wh : Nat) (width : Option Nat) :
    (ownerDefineChannel channel supply account wh width n st s).state.front = s.front := by
  unfold ownerDefineChannel channelWritten
  (repeat' split) <;> simp

@[simp] theorem front_ownerReadChannel (channel : Nat) : (ownerReadChannel channel n st s).state.front = s.front := by
  unfold ownerReadChannel
  split <;> simp

@[simp] theorem front_ownerEnables (mask : BitVec 16) (value : Bool) :
    (ownerEnables mask value n st s).state.front = s.front := front_modStation s fun _ => rfl

@[simp] theorem front_ownerClearCauses (mask : BitVec 16) : (ownerClearCauses mask n st s).state.front = s.front :=
  front_modStation s fun _ => rfl

@[simp] theorem front_ownerSetPort (port : Nat) (fields : Option PortSettings) :
    (ownerSetPort port fields n st s).state.front = s.front := by
  unfold ownerSetPort
  (repeat' split)
  case h_1.isFalse => exact front_modPort s rfl
  all_goals rfl

@[simp] theorem front_ownerRestartPort (arrived : PortNo) (port : Nat) :
    (ownerRestartPort arrived port n st s).state.front = s.front := by
  unfold ownerRestartPort
  split
  · exact front_modPort s rfl
  · rfl

section
variable {n st s} (listed : s.station n = some st)
include listed

theorem front_ownerQuery : (ownerQuery n st s).state.front = s.front := by
  unfold ownerQuery
  split
  · rfl
  · exact front_setStation s (by rw [listed]; rfl)

theorem front_ownerReadLog (count : Nat) : (ownerReadLog count n st s).state.front = s.front := by
  unfold ownerReadLog
  split
  · rfl
  · exact front_setStation s (by rw [listed]; rfl)

theorem front_ownerSeekLog (position : Nat) : (ownerSeekLog position n st s).state.front = s.front := by
  unfold ownerSeekLog
  split
  · rfl
  · exact front_setStation s (by rw [listed]; rfl)

end

end

/-! ## What moves the front -/

section
variable (s : State)

/-- R150: a port written so that it is enabled or shows no flag. -/
theorem moves_modPort {p : PortNo} {f : Port → Port} (sound : QuietFace (f (s.port p)).face) :
    Moves s.front (modPort p f s).front := by
  refine .single (.ports s.front (modPort p f s).front.ports fun q => ?_)
  simp only [State.front, look_tab]
  by_cases here : p = q
  · subst here
    exact .inr (by simpa [modPort] using sound)
  · exact .inl (by simp [modPort, here])

/-- R151: only an enabled port shows a flag. -/
theorem moves_setPortFlag (p : PortNo) (f : PortFlag) : Moves s.front (setPortFlag p f s).front := by
  unfold setPortFlag
  split
  · exact .refl
  · rename_i newly
    have on : (s.port p).current.enabled = true := by
      rw [Bool.or_eq_true, not_or] at newly
      simpa [enabled] using newly.2
    rw [front_raise, front_logAppend]
    exact moves_modPort s fun off => absurd (on.symm.trans off) nofun

theorem moves_discardFrame (p : PortNo) (f : PortFlag) : Moves s.front (discardFrame p f s).front := by
  have moves := moves_setPortFlag (setRx p .waitingQuiet s) p f
  rwa [front_setRx] at moves

theorem moves_characterGap (p : PortNo) : Moves s.front (characterGap p s).front := by
  unfold characterGap
  (repeat' split)
  case h_1 => exact moves_discardFrame s p .runt
  all_goals exact .refl

/-- R154: a restarted port shows no flag. -/
theorem moves_restart (p : PortNo) : Moves s.front (modPort p restartedPort s).front := moves_modPort s fun _ => rfl

theorem moves_replySent (p : PortNo) : Moves s.front (replySent p s).front := by
  have waiting (waits : Bool) (u : State) : Moves u.front (takeWaiting p waits u).front := by
    unfold takeWaiting
    split
    · exact moves_restart u p
    · exact .refl
  have named (q : Option PortNo) (u : State) : Moves u.front (takeNamed q u).front := by
    unfold takeNamed restartNamed
    (repeat' split)
    · exact moves_of_eq (front_modPort u rfl)
    · exact moves_restart u _
    · exact .refl
  unfold replySent
  dsimp only
  split
  · have served : (modPort p servedPort s).front = s.front := front_modPort s rfl
    have waited := waiting (s.port p).restartWaits (modPort p servedPort s)
    rw [served] at waited
    exact waited.trans (named _ _)
  · exact .refl

/-- R155: the flags of a port that was read are clear. -/
theorem moves_ownerReadPort (port : Nat) (n : StationNo) (st : Station) :
    Moves s.front (ownerReadPort port n st s).state.front := by
  unfold ownerReadPort
  split
  · exact moves_modPort s fun _ => rfl
  · exact .refl

theorem moves_setHold {h : Option StationNo} (listed : ∀ n, h = some n → (s.station n).isSome = true) :
    Moves s.front (setHold h s).front :=
  .single (.hold s.front h fun n held => by
    simpa only [State.front, look_tab, Option.isSome_map] using listed n held)

theorem moves_freed : Moves s.front (setHold none s).front := moves_setHold s nofun

/-- R159: the hold goes to the requester, who is listed. -/
theorem moves_ownerTakeHold {n : StationNo} {st : Station} (listed : s.station n = some st) :
    Moves s.front (ownerTakeHold n st s).state.front := by
  unfold ownerTakeHold
  (repeat' split)
  case h_1 =>
    rw [front_logAppend]
    refine moves_setHold s fun m own => ?_
    cases own
    rw [listed]
    rfl
  all_goals exact .refl

theorem moves_ownerReleaseHold (n : StationNo) (st : Station) :
    Moves s.front (ownerReleaseHold n st s).state.front := by
  unfold ownerReleaseHold
  split
  · rw [front_logAppend]
    exact moves_freed s
  · exact .refl

theorem moves_ownerForceRelease (n : StationNo) (st : Station) :
    Moves s.front (ownerForceRelease n st s).state.front := by
  unfold ownerForceRelease
  split
  · exact .refl
  · rw [front_raise, front_logAppend]
    exact moves_freed s

theorem moves_holdLapse : Moves s.front (holdLapse s).front := by
  unfold holdLapse
  split
  · exact .refl
  · rw [front_raise, front_logAppend]
    split <;> exact moves_freed _

/-- R157 check 1: no station found, none listed there. -/
theorem stationAt_eq_none_iff {p : PortNo} {addr : Nat} : stationAt s p addr = none ↔
    ∀ n st, s.station n = some st → ¬ (st.port = p ∧ st.addr = addr) := by
  refine ⟨fun h n st listed => ?_, stationAt_none s p addr⟩
  have other := List.find?_eq_none.mp h n (mem_indices n)
  simpa [listed] using other

/-- R158: a station listed at a place that no listed station has. -/
theorem moves_seat {m : StationNo} {q : Station} (free : stationAt s q.port q.addr = none) :
    Moves s.front (setStation m (some q) s).front := by
  have fresh (k : StationNo) : look s.front.places k ≠ some q.place := by
    simp only [State.front, look_tab, ne_eq, Option.map_eq_some_iff, not_exists, not_and]
    intro w listed same
    obtain ⟨port, addr⟩ := Prod.mk.inj same
    exact (stationAt_eq_none_iff s).mp free k w listed ⟨port, addr⟩
  have places : tab (fun k => ((setStation m (some q) s).station k).map Station.place) =
      upd s.front.places m (some q.place) := table_ext fun k => by
    by_cases here : m = k <;> simp [here, State.front]
  have seated : (setStation m (some q) s).front = { s.front with places := upd s.front.places m (some q.place) } := by
    simp only [State.front] at places ⊢
    rw [places]
    rfl
  rw [seated]
  exact .single (.seat s.front m _ fresh)

theorem moves_ownerEnrol (port address role : Nat) (supply : Option Nat) (n : StationNo) (st : Station) :
    Moves s.front (ownerEnrol port address role supply n st s).state.front := by
  have seated {p : PortNo} {r : Role} {b : Option SupplyNo} (m : StationNo) (free : ¬ (stationAt s p address).isSome = true) :
      Moves s.front (setStation m (some (newStation p address r b s)) s).front :=
    moves_seat s (Option.not_isSome_iff_eq_none.mp free)
  unfold ownerEnrol
  (repeat' split)
  case h_2 | h_2 => exact seated _ (by assumption)
  all_goals exact .refl

/-- R158: a removed station leaves no hold behind. -/
theorem moves_ownerRemove (station : Nat) (n : StationNo) (st : Station) :
    Moves s.front (ownerRemove station n st s).state.front := by
  have removed (m : StationNo) : (freeHoldOf m (markGoneAll m (setStation m none s))).front =
      { s.front with places := upd s.front.places m none, hold := if s.front.hold = some m then none else s.front.hold } := by
    have places : tab (fun k => ((setStation m none s).station k).map Station.place) = upd s.front.places m none :=
      table_ext fun k => by by_cases here : m = k <;> simp [here, State.front]
    have unseated : (markGoneAll m (setStation m none s)).front = { s.front with places := upd s.front.places m none } := by
      simp only [State.front] at places ⊢
      rw [← places]
      rfl
    unfold freeHoldOf
    have same : (markGoneAll m (setStation m none s)).stn.hold = s.front.hold := rfl
    rw [same]
    split
    · rw [front_logAppend]
      exact congrArg (fun f : Front => { f with hold := none }) unseated
    · exact unseated
  unfold ownerRemove
  (repeat' split)
  case h_2.isFalse => exact removed _ ▸ .single (.unseat s.front _)
  all_goals exact .refl

/-- R152, R157 checks 1 and 2. -/
theorem moves_badKind (rq : Request) (kind : Nat) : Moves s.front (badKind rq kind s).front := by
  unfold badKind
  dsimp only
  (repeat' split)
  case isFalse.isTrue => exact moves_setPortFlag (advanceTo rq.t s) rq.port .overrun
  all_goals exact moves_of_eq (by simp)

/-! ### Requests and broadcasts -/

theorem moves_judged (rq : Request) (kind : Kind) (scope : Station → State → Bool)
    (owner : StationNo → Station → State → Done) (n : StationNo) (st : Station)
    (keeps : Moves s.front (owner n st s).state.front) : Moves s.front (judged rq kind scope owner n st s).front := by
  unfold judged
  split
  · exact moves_of_eq (front_answer ..)
  · rw [front_answer]
    exact keeps

/-- R157: the owner's answer is that to a listed station. -/
theorem moves_request (rq : Request) (kind : Kind) (scope : Station → State → Bool)
    (owner : StationNo → Station → State → Done)
    (keeps : ∀ n st u, u.station n = some st → Moves u.front (owner n st u).state.front) :
    Moves s.front (request rq kind scope owner s).front := by
  unfold request
  dsimp only
  (repeat' split)
  case isFalse.isTrue => exact moves_setPortFlag (advanceTo rq.t s) rq.port .overrun
  case h_2 n _ _ st listed =>
    have moves := moves_judged _ rq kind scope owner n st (keeps n st _ listed)
    rwa [front_touch] at moves
  all_goals exact moves_of_eq (by simp)

theorem moves_broadcast (rq : Request) (kind : Kind) (fits : Bool) (effect : State → State)
    (keeps : ∀ u, (effect u).front = u.front) : Moves s.front (broadcast rq kind fits effect s).front := by
  unfold broadcast
  dsimp only
  (repeat' split)
  case h_1.isTrue => exact moves_of_eq ((keeps _).trans (front_touch ..))
  case isTrue => exact .refl
  all_goals exact moves_setPortFlag (advanceTo rq.t s) rq.port _

theorem front_showHoldAll (value : Bool) : (showHoldAll value s).front = s.front :=
  front_of_still (still_showHoldAll value s)

/-- R153: the broadcast that a frame carries. -/
theorem moves_takeBroadcast (port : PortNo) (f : Frame) : Moves s.front (takeBroadcast port f s).front := by
  unfold takeBroadcast
  dsimp only
  split
  · exact moves_broadcast s _ _ _ _ fun u => front_takeTime u _
  · exact moves_broadcast s _ _ _ _ (front_showHoldAll · true)
  · exact moves_broadcast s _ _ _ _ fun _ => rfl

/-! ### The two starts -/

theorem front_cold (now : Nat) (found : Found) (queue : List Instr) : (State.cold now found queue).front = Front.cold := by
  have places (n : StationNo) : ((State.cold now found queue).station n).map Station.place =
      if n = 0 then some (0, 1) else none := by
    rw [cold_station]
    split <;> rfl
  simp only [State.front, cold_port, places]
  rfl

/-- R150, R156, R159: a warm restart clears the flags of every port and frees the hold, and every station keeps its
place. -/
theorem moves_warmRestart (elapsed : Nat) (found : Found) : Moves s.front (warmRestart elapsed found s).front := by
  have ports (p : PortNo) : ((warmRestart elapsed found s).port p).face = ((s.port p).pending.enabled, PortFlags.clear) := by
    rw [State.port, (resumed_stands elapsed found s).lnk, ← State.port, warmRecords_port, resumed_port]
    rfl
  have places (n : StationNo) : ((warmRestart elapsed found s).station n).map Station.place =
      (s.station n).map Station.place := by
    have ident := congrArg (Option.map Ident.place) (warmRestart_ident elapsed found s n)
    rwa [Option.map_map, Option.map_map] at ident
  have restarted : (warmRestart elapsed found s).front =
      { s.front with ports := tab fun p => ((s.port p).pending.enabled, PortFlags.clear), hold := none } := by
    simp only [State.front, ports, places, warmRestart_hold]
  rw [restarted]
  exact .tail (.single (.ports s.front _ fun p => .inr (look_tab _ p ▸ fun _ => rfl))) (.hold _ none nofun)

end

/-! ## The commands -/

theorem moves_servePassed (c : Instr) (s : State) : OnNext (fun u => Moves s.front u.front) (servePassed c s) := by
  have asked (rq : Request) (kind : Kind) (scope : Station → State → Bool)
      (owner : StationNo → Station → State → Done)
      (keeps : ∀ n st u, u.station n = some st → Moves u.front (owner n st u).state.front) :
      OnNext (fun u => Moves s.front u.front) (.next (request rq kind scope owner s)) :=
    onNext_iff.mpr (moves_request s rq kind scope owner keeps)
  cases c
  case takeHold => exact asked _ _ _ _ fun _ _ u => moves_ownerTakeHold u
  case releaseHold => exact asked _ _ _ _ fun n st u _ => moves_ownerReleaseHold u n st
  case forceRelease => exact asked _ _ _ _ fun n st u _ => moves_ownerForceRelease u n st
  case enrolStation => exact asked _ _ _ _ fun n st u _ => moves_ownerEnrol u _ _ _ _ n st
  case removeStation => exact asked _ _ _ _ fun n st u _ => moves_ownerRemove u _ n st
  case readPort => exact asked _ _ _ _ fun n st u _ => moves_ownerReadPort u _ n st
  case queryAttention => exact asked _ _ _ _ fun _ _ _ listed => moves_of_eq (front_ownerQuery listed)
  case readLog => exact asked _ _ _ _ fun _ _ _ listed => moves_of_eq (front_ownerReadLog listed _)
  case seekLog => exact asked _ _ _ _ fun _ _ _ listed => moves_of_eq (front_ownerSeekLog listed _)
  case ping => exact asked _ _ _ _ fun _ _ _ _ => .refl
  case setTime rq isBroadcast time =>
    refine onNext_iff.mpr ?_
    split
    · exact moves_broadcast s _ _ _ _ fun u => front_takeTime u time
    · exact moves_request s _ _ _ _ fun _ _ _ _ => moves_of_eq (by simp)
  case setShowHold rq isBroadcast supply =>
    refine onNext_iff.mpr ?_
    split
    · exact moves_broadcast s _ _ _ _ (front_showHoldAll · true)
    · exact moves_request s _ _ _ _ fun _ _ _ _ => moves_of_eq (front_of_still (by simp))
  case unlistedKind rq kind =>
    refine onNext_iff.mpr ?_
    split
    · exact .refl
    · exact moves_badKind s rq kind
  case setEnables | clearEnables | clearCauses | setPort | restartPort | setSyncLimits | setFuelPrice | defineChannel |
      readChannel | defineAccount | removeAccount | setInterval | closePeriod | releasePeriod | readAccount |
      readSettlement =>
    exact asked _ _ _ _ fun _ _ _ _ => moves_of_eq (by simp)
  case hireSource | offHireSource | sourceReport | readSource | defineSupply | clearFault | clearShowHold | readSupply |
      transfer | abortTransfer | readTransfer | setTank | readTank | armDelivery | meterReading | closeDelivery |
      cancelDelivery | readDelivery | defineWatch | armWatches | disarmWatches | readWatch =>
    exact asked _ _ _ _ fun _ _ _ _ => moves_of_eq (front_of_still (by simp))
  all_goals exact onNext_iff.mpr .refl

theorem moves_soundFrame (p : PortNo) (f : Frame) (s : State) :
    OnNext (fun u => Moves s.front u.front) (soundFrame p f s) := by
  unfold soundFrame takeRequest
  (repeat' split)
  case isFalse.isTrue => exact onNext_iff.mpr (moves_takeBroadcast s p f)
  case isFalse.isFalse.isTrue.isTrue => exact onNext_iff.mpr (moves_setPortFlag s p .overrun)
  case isFalse.isFalse.isTrue.isFalse =>
    have held : (modPort p (fun r => { r with buffer := some f }) s).front = s.front := front_modPort s rfl
    have served := moves_servePassed (frameCommand p s.now f) (modPort p (fun r => { r with buffer := some f }) s)
    rwa [held] at served
  all_goals exact onNext_iff.mpr .refl

theorem moves_assembled (p : PortNo) (got : List Byte) (s : State) :
    OnNext (fun u => Moves s.front u.front) (assembled p got s) := by
  unfold assembled
  split
  · exact onNext_iff.mpr (moves_of_eq (front_setRx ..))
  · exact onNext_iff.mpr (moves_discardFrame s p .runt)
  · exact onNext_iff.mpr (moves_discardFrame s p .crc)
  · have judged := moves_soundFrame p ‹Frame› (setRx p .hunting s)
    rwa [front_setRx] at judged

theorem moves_receiveChar (p : PortNo) (c : RxChar) (s : State) :
    OnNext (fun u => Moves s.front u.front) (receiveChar p c s) := by
  unfold receiveChar frameChar
  (repeat' split)
  case h_1 => exact onNext_iff.mpr (moves_of_eq (front_huntChar ..))
  case h_2.isTrue => exact onNext_iff.mpr (moves_discardFrame s p .parity)
  case h_2.isFalse.isTrue => exact onNext_iff.mpr (moves_discardFrame s p .framing)
  case h_2.isFalse.isFalse => exact moves_assembled p _ s
  all_goals exact onNext_iff.mpr .refl

theorem moves_receiveChars (p : PortNo) (cs : List RxChar) (s : State) :
    OnNext (fun u => Moves s.front u.front) (receiveChars p cs s) := by
  induction cs generalizing s with
  | nil => exact onNext_iff.mpr .refl
  | cons c cs ih =>
    intro t run
    simp only [receiveChars] at run
    split at run
    · rename_i u taken
      exact (moves_receiveChar p c s u taken).trans (ih u t run)
    · rename_i stops
      exact absurd run (stops t)

/-- What a command can do to the front. -/
theorem moves_exec (c : Instr) (s : State) : OnNext (fun u => Moves s.front u.front) (exec c s) := by
  by_cases request : exec c s = servePassed c s
  · rw [request]
    exact moves_servePassed c s
  · cases c
    case coldStart cause t found =>
      refine onNext_iff.mpr ?_
      split
      · rw [front_cold]
        exact .single (.cold s.front)
      · exact .refl
    case warmRestart cause t elapsed found =>
      refine onNext_iff.mpr ?_
      split
      · exact moves_warmRestart (advanceTo t s) elapsed found
      · exact .refl
    case frameReceived p t chars => exact moves_receiveChars p chars (advanceTo t s)
    case characterGapTimeout p t => exact onNext_iff.mpr (moves_characterGap (advanceTo t s) p)
    case replySent p t => exact onNext_iff.mpr (moves_replySent (advanceTo t s) p)
    case holdLapsed => exact onNext_iff.mpr (moves_holdLapse s)
    case lineQuiet | secondTick | settlement | fillPointClose | fillPointOpen | fillPointRestartCheck | meterRisingEdge |
        meterFallingEdge =>
      exact onNext_iff.mpr (moves_of_eq (by simp))
    case sourceStale | senseCrossing | voltageLossTimeout | supplyTrip | auxChange | confirmTimeout | pulseEnd |
        channelGrant | inStepReport | syncTimeout | tripReport | overlapExpiry | deadTimeExpiry | settleTimeExpiry |
        unloadSurveyTimer | finishTimerExpiry | armExpiry | returnAttemptTimer | returnWindowExpiry =>
      exact onNext_iff.mpr (moves_of_eq (front_of_still (by simp)))
    all_goals exact absurd rfl request

theorem moves_step {s t : State} (run : step s = .next t) : Moves s.front t.front := by
  unfold step at run
  split at run
  · cases run
    exact .refl
  · rename_i c rest _
    exact moves_exec c { s with pending := rest } t run

/-! ## The laws -/

/-- Settles O6: every move keeps the law of the hold and that of the addresses. -/
theorem stationLawsKept : Obligations.StationLawsKept := by
  refine ⟨fun s t law run => ?hold, fun s t law run => ?address⟩
  case hold => exact (holdLaw_iff t).mpr ((moves_step run).keeps Move.keeps_hold ((holdLaw_iff s).mp law))
  case address => exact (addressLaw_iff t).mpr ((moves_step run).keeps Move.keeps_address ((addressLaw_iff s).mp law))

/-- Settles O8: every move keeps the law of the ports. -/
theorem disabledPortFlagsStayClear : Obligations.DisabledPortFlagsStayClear := fun s t law run =>
  (quietPortLaw_iff t).mpr ((moves_step run).keeps Move.keeps_quiet ((quietPortLaw_iff s).mp law))

end Sys2Proof.Machine
end

section
/-! The checks of STN (R157): a request row is one request of its kind (R167), refused by the first check that it fails. -/

namespace Sys2Proof.Machine

/-! ## Request rows -/

/-- R157: a row that asks is a request of its kind, of one scope and one owner. -/
theorem exec_of_asks {c : Instr} {rq : Request} {k : Kind} (asked : asks c = some (rq, k)) :
    ∃ scope owner, ∀ s, exec c s = .next (request rq k scope owner s) := by
  cases c
  case setTime isBroadcast _ | setShowHold isBroadcast _ =>
    cases isBroadcast <;> cases asked
    exact ⟨_, _, fun _ => rfl⟩
  all_goals cases asked
  all_goals exact ⟨_, _, fun _ => rfl⟩

theorem exec_unlistedKind {kind : Nat} (low : kind < 128) (unlisted : listedKind kind = false) (rq : Request)
    (s : State) : exec (.unlistedKind rq kind) s = .next (badKind rq kind s) := by
  have above : ¬ 0x80 ≤ kind := Nat.not_le_of_lt low
  show Host.Outcome.next (if (decide (0x80 ≤ kind) || listedKind kind) = true then s else badKind rq kind s) = _
  simp [above, unlisted]

/-! ## A kind that the table does not list -/

section
variable {rq : Request} {kind : Nat} {s : State}

theorem badKind_disabled (off : enabled s rq.port = false) : badKind rq kind s = advanceTo rq.t s := by
  simp [badKind, off]

theorem badKind_serving (on : enabled s rq.port = true) (serves : (s.port rq.port).serving = true) :
    badKind rq kind s = setPortFlag rq.port .overrun (advanceTo rq.t s) := by
  simp [badKind, on, serves]

theorem badKind_unlisted (on : enabled s rq.port = true) (idle : (s.port rq.port).serving = false)
    (nobody : stationAt s rq.port rq.addr = none) :
    badKind rq kind s = answer rq kind none .denied .empty (advanceTo rq.t s) := by
  simp [badKind, on, idle, nobody]

theorem stationAt_of_heard {n : StationNo} {st : Station} (h : Heard rq n st s) :
    stationAt s rq.port rq.addr = some n :=
  h.onPort ▸ h.atAddr ▸ stationAt_listed s n st h.distinct h.listed

theorem badKind_heard {n : StationNo} {st : Station} (h : Heard rq n st s) :
    badKind rq kind s = answer rq kind (some n) .badKind .empty (heard rq n s) := by
  simp [badKind, h.open_, h.idle, stationAt_of_heard h, heard]

end

/-! ## OVERRUN, and the answer to no station (R152, R161) -/

theorem withPortFlag_of_set {g : PortFlags} {f : PortFlag} (set : flagSet g f = true) : withPortFlag g f = g := by
  cases f <;> simp only [flagSet] at set <;> simp [withPortFlag, ← set]

/-- R151: at an enabled port the flag is set, and no other field of the port changes. -/
theorem setPortFlag_port {s : State} {p : PortNo} (on : enabled s p = true) (f : PortFlag) :
    (setPortFlag p f s).port p = { s.port p with flags := withPortFlag (s.port p).flags f } := by
  unfold setPortFlag
  split
  · rename_i already
    have set : flagSet (s.port p).flags f = true := by simpa [on] using already
    rw [withPortFlag_of_set set]
  · simp [modPort]

theorem answer_nobody (rq : Request) (code : Nat) (status : Status) (body : Body) (s : State) :
    answer rq code none status body s = setPort rq.port
      { s.port rq.port with
        serving := true,
        reply := some { dest := rq.addr, src := (s.port rq.port).current.address, kind := code + 128, status := status,
                        attention := false, body := body } } s := rfl

/-- Settles O10: a row of a listed kind is a request, one of an unlisted kind a request of no kind, and LNK treats both
alike before any check of the kind. -/
theorem unlistedRequesterDenied : Obligations.UnlistedRequesterDenied := by
  intro c rq code s asked
  have overruns {t : State} (on : enabled s rq.port = true)
      (run : .next (setPortFlag rq.port .overrun (advanceTo rq.t s)) = (.next t : Host.Outcome State Fault Refusal)) :
      t.port rq.port = { s.port rq.port with flags := withPortFlag (s.port rq.port).flags .overrun } := by
    cases run
    exact setPortFlag_port (s := advanceTo rq.t s) on .overrun
  obtain ⟨take, row, disabled, serving, nobody⟩ : ∃ take : State → State, (∀ u, exec c u = .next (take u)) ∧
      (enabled s rq.port = false → take s = advanceTo rq.t s) ∧
      (enabled s rq.port = true → (s.port rq.port).serving = true →
        take s = setPortFlag rq.port .overrun (advanceTo rq.t s)) ∧
      (enabled s rq.port = true → (s.port rq.port).serving = false → stationAt s rq.port rq.addr = none →
        take s = answer rq code none .denied .empty (advanceTo rq.t s)) := by
    obtain ⟨k, asks, rfl⟩ | ⟨rfl, low, unlisted⟩ := asked
    · obtain ⟨scope, owner, row⟩ := exec_of_asks asks
      exact ⟨request rq k scope owner, row, request_disabled rq k scope owner s, request_serving rq k scope owner s,
        request_unlisted rq k scope owner s⟩
    · exact ⟨badKind rq code, exec_unlistedKind low unlisted rq, badKind_disabled, badKind_serving, badKind_unlisted⟩
  rw [row]
  refine ⟨fun off => by rw [disabled off], fun on serves => ?_, fun on idle nowhere => ?_⟩
  · rw [serving on serves]
    exact ⟨rfl, fun t run => overruns on run⟩
  · rw [nobody on idle (stationAt_none s _ _ nowhere), answer_nobody]
    rfl

/-! ## The first check that fails (R157 checks 3 to 5) -/

section
variable {rq : Request} {k : Kind} {scope : Station → State → Bool} {n : StationNo} {st : Station} {s : State}

theorem requestRefusal_length (wrong : rq.len ≠ k.len) :
    requestRefusal rq k scope n st s = some (.badLength, .empty) := if_pos wrong

theorem requestRefusal_denied (length : rq.len = k.len)
    (denied : st.role ∉ k.roles ∨ (st.role = .stage ∧ scope st s = false)) :
    requestRefusal rq k scope n st s = some (.denied, .empty) := by
  rcases denied with role | ⟨stage, foreign⟩
  · simp [requestRefusal, length, role]
  · simp [requestRefusal, length, stage, foreign]

end

/-- Check 4 comes before check 5. -/
theorem requestRefusal_hold {rq : Request} {k : Kind} {n : StationNo} {st : Station} {s : State}
    {scope : Station → State → Bool} (length : rq.len = k.len) (role : st.role ∈ k.roles)
    (own : st.role = .stage → scope st s = true) : requestRefusal rq k scope n st s = holdRefusal k n s := by
  have within : (st.role == .stage && !scope st s) = false := by
    cases stage : st.role == .stage with
    | false => rfl
    | true => simp [own (by simpa using stage)]
  simp [requestRefusal, length, role, within]

/-- R157: the hold is asked of no STAGE station. -/
theorem stage_asks_no_hold {c : Instr} {rq : Request} {k : Kind} (asked : asks c = some (rq, k)) :
    k.hold = true → Role.stage ∉ k.roles := by
  cases c
  case setTime isBroadcast _ | setShowHold isBroadcast _ =>
    cases isBroadcast <;> cases asked
    decide
  all_goals cases asked
  all_goals decide

/-- R157: what a request has changed once its station is heard. -/
theorem heard_eq {rq : Request} {n : StationNo} {st : Station} {s : State} (listed : s.station n = some st) :
    heard rq n s =
      setStation n (some { st with lastRequest := max s.now rq.t / 1000 }) { s with now := max s.now rq.t } := by
  have here : (advanceTo rq.t s).station n = some st := listed
  simp only [heard, touch, modStation, here]
  rfl

/-! ## The table of kinds (section 12.2) -/

theorem role_forall {p : Role → Prop} : (∀ r, p r) ↔ p .console ∧ p .fleet ∧ p .fuel ∧ p .stage := by
  refine ⟨fun h => ⟨h _, h _, h _, h _⟩, fun ⟨console, fleet, fuel, stage⟩ r => ?_⟩
  cases r
  · exact console
  · exact fleet
  · exact fuel
  · exact stage

theorem listedKind_iff (code : Nat) : listedKind code = true ↔ ∃ k ∈ kindTable, k.code = code := by
  simp [listedKind]

/-- Settles O11: each check answers by its lemma of `requestRefusal`, and the table is read off. -/
theorem requestChecksInOrder : Obligations.RequestChecksInOrder := by
  refine ⟨fun c rq k n st s asked h => ?checks, fun rq kind n st s low unlisted h => ?unlisted,
    fun rq n st s listed => heard_eq listed, ⟨rfl, rfl, rfl, rfl, rfl, rfl, listedKind_iff⟩, ?roles⟩
  case checks =>
    obtain ⟨scope, owner, row⟩ := exec_of_asks asked
    have refused {e : Status} {b : Body}
        (check : requestRefusal rq k scope n (requester rq st s) (heard rq n s) = some (e, b)) :
        exec c s = replied rq k n e b (heard rq n s) :=
      (row s).trans (congrArg Host.Outcome.next (request_refused rq k scope owner n st s h e b check))
    have held (length : rq.len = k.len) (role : st.role ∈ k.roles) (hold : k.hold = true) :
        requestRefusal rq k scope n (requester rq st s) (heard rq n s) = holdRefusal k n (heard rq n s) :=
      requestRefusal_hold length role fun stage => absurd (stage ▸ role) (stage_asks_no_hold asked hold)
    refine ⟨fun wrong => refused (requestRefusal_length wrong),
      fun length role => refused (requestRefusal_denied length (.inl role)),
      fun length role hold free => refused ?free, fun length role hold m holder other => refused ?other⟩
    case free => rw [held length role hold, holdRefusal, if_pos hold, hold_heard, free]
    case other =>
      rw [held length role hold, holdRefusal, if_pos hold, hold_heard, holder]
      exact if_neg other
  case unlisted => rw [exec_unlistedKind low unlisted, badKind_heard h]
  case roles =>
    refine ⟨?_, ?_, ?_, ?_, ?_, ?_, ?_, ?_, ?_, ?_⟩ <;> simp only [role_forall] <;> decide

/-! ## What a STAGE station names (R157 check 4) -/

section
variable {k : Nat} {st : Station}

theorem ownSupply_of_other {m : SupplyNo} (named : number? 12 k = some m) (other : st.bound ≠ some m) (s : State) :
    ownSupply k st s = false := by
  simp [ownSupply, named, other]

theorem ownSupplyNotAll_of_other {m : SupplyNo} (named : number? 12 k = some m) (other : st.bound ≠ some m) (s : State) :
    ownSupplyNotAll k st s = false := by
  simp [ownSupplyNotAll, ownSupply_of_other named other]

theorem ownChannel_of_other {c : ChannelNo} {s : State} (named : index? 24 k = some c)
    (other : (s.chan c).defined = false ∨ (s.chan c).supply = none ∨ (s.chan c).supply ≠ st.bound) :
    ownChannel k st s = false := by
  rcases other with undefined | unsupplied | foreign
  · simp [ownChannel, named, undefined]
  · simp [ownChannel, named, unsupplied]
  · simp [ownChannel, named, foreign]

theorem ownAccount_of_other {a : AccountNo} {s : State} (named : index? 48 k = some a)
    (other : ∀ c m, (s.chan c).defined = true → (s.chan c).account = some a → (s.chan c).supply = some m →
      st.bound ≠ some m) : ownAccount k st s = false := by
  rw [ownAccount, named]
  refine List.any_eq_false.mpr fun c _ own => ?_
  simp only [Bool.and_eq_true, beq_iff_eq, bne_iff_ne, ne_eq] at own
  obtain ⟨⟨⟨defined, account⟩, supplied⟩, bound⟩ := own
  obtain ⟨m, supply⟩ := Option.ne_none_iff_exists'.mp supplied
  exact other c m defined account supply (bound.symm.trans supply)

end

/-- Settles O12: what is named lies outside the scope of its kind, and the fourth check refuses it. -/
theorem stageStationsNameTheirOwn : Obligations.StageStationsNameTheirOwn := by
  intro rq n st s stage
  have denied {k : Kind} {scope : Station → State → Bool} {owner : StationNo → Station → State → Done}
      (taken : Taken rq k n st s) (foreign : scope (requester rq st s) (heard rq n s) = false) :
      (.next (request rq k scope owner s) : Host.Outcome State Fault Refusal) =
        replied rq k n .denied .empty (heard rq n s) :=
    congrArg Host.Outcome.next (request_refused rq k scope owner n st s taken.toHeard _ _
      (requestRefusal_denied taken.length (.inr ⟨stage, foreign⟩)))
  refine ⟨fun k m named other => ?supply, fun taken => denied taken rfl, fun taken => denied taken rfl,
    fun k c named other taken => denied taken (ownChannel_of_other named other),
    fun k a named other taken _ => denied taken (ownAccount_of_other named other)⟩
  have one := ownSupply_of_other (st := requester rq st s) named other (heard rq n s)
  have oneOrAll := ownSupplyNotAll_of_other (st := requester rq st s) named other (heard rq n s)
  exact ⟨fun taken _ _ _ => denied taken one, fun taken _ => denied taken one, fun taken => denied taken oneOrAll,
    fun taken => denied taken oneOrAll, fun taken => denied taken one⟩

end Sys2Proof.Machine
end

section
/-! Answers, raises and the attention they indicate (R152, R160, R161). -/

namespace Sys2Proof.Machine

theorem attentionOf_iff (st : Station) :
    attentionOf st = true ↔ ∃ i, (look st.flags i).isSome = true ∧ look st.enables i = true := by
  simp [attentionOf]

theorem indication_iff (s : State) (who : Option StationNo) : indication s who = true ↔
    ∃ n st i, who = some n ∧ s.station n = some st ∧ (look st.flags i).isSome = true ∧ look st.enables i = true := by
  cases who with
  | none => simp [indication]
  | some m => cases listed : s.station m <;> simp [indication, listed, attentionOf_iff]

theorem attentionOutput_iff (s : State) (p : PortNo) : attentionOutput s p = true ↔
    enabled s p = true ∧ ∃ n st i, s.station n = some st ∧ st.port = p ∧ (look st.flags i).isSome = true ∧
      look st.enables i = true := by
  simp only [attentionOutput, enabled, Bool.and_eq_true, List.any_eq_true, mem_indices, true_and]
  refine and_congr_right fun _ => exists_congr fun n => ?_
  cases s.station n <;> simp [attentionOf_iff]

/-- Settles O14: the indication is the requester's, and a raise is read station by station. -/
theorem answersAndRaises : Obligations.AnswersAndRaises := by
  refine ⟨fun rq code who status body attention s told => ?carries,
    fun rq code status body s => ⟨?nobody, fun p other who => ?elsewhere⟩,
    fun d who s n => ⟨fun unlisted => ?unlisted, fun st listed other => ?passed, fun st listed named => ?raised⟩,
    fun d who s => ?stations, attentionOutput_iff⟩
  case carries =>
    have same : indication s who = attention := Bool.eq_iff_iff.mpr ((indication_iff s who).trans told.symm)
    rw [← same]
    rfl
  case nobody => rw [answer_nobody, setPort_port, if_pos rfl]
  case elsewhere => rw [answer_port, if_neg other.symm]
  case unlisted => rw [raise_station, unlisted, Option.map_none]
  case passed => simp [raise_station, listed, other]
  case raised =>
    simp [raise_station, listed, named, withFlag]
  case stations => simp only [raise, eachStation]

end Sys2Proof.Machine
end

section
/-! The ports (R151, R152, R154, R155): flags, quiet lines, sent replies, restarts, and the requests of their settings. -/

namespace Sys2Proof.Machine

/-! ## Flags and lines (R151) -/

section
variable {s : State} {p : PortNo}

theorem setPortFlag_stays {f : PortFlag} (h : flagSet (s.port p).flags f = true ∨ enabled s p = false) :
    setPortFlag p f s = s := if_pos (by simpa using h)

theorem setPortFlag_sets {f : PortFlag} (newly : flagSet (s.port p).flags f = false) (on : enabled s p = true) :
    setPortFlag p f s = raise (.linkFault p f) toConsole (logAppend .linkFault (some p.1) (some (portFlagCode f)) none
      (setPort p { s.port p with flags := withPortFlag (s.port p).flags f } s)) := if_neg (by simp [newly, on])

theorem characterGap_assembling {got : List Byte} (rx : (s.port p).rx = .assembling got) (on : enabled s p = true) :
    characterGap p s = discardFrame p .runt s := by
  simp [characterGap, on, rx]

theorem lineQuiet_waiting (rx : (s.port p).rx = .waitingQuiet) :
    lineQuiet p s = setPort p { s.port p with rx := .hunting } s := by
  rw [lineQuiet, rx]
  rfl

/-! ## A sent reply (R152, R154) -/

/-- R154: the port after its reply has been sent, restarted where its own restart waited. -/
def freedPort (r : Port) : Port := if r.restartWaits then restartedPort (servedPort r) else servedPort r

theorem replySent_eq {r : Reply} (reply : (s.port p).reply = some r) :
    replySent p s = takeNamed (s.port p).restartNext (setPort p (freedPort (s.port p)) s) := by
  rw [replySent, reply]
  unfold takeWaiting freedPort
  cases (s.port p).restartWaits
  · rfl
  · simp [modPort]

theorem freedPort_serving (r : Port) : (freedPort r).serving = false := by
  unfold freedPort
  split <;> rfl

theorem restartNamed_idle (idle : (s.port p).serving = false) :
    restartNamed p s = setPort p (restartedPort (s.port p)) s := by
  rw [restartNamed, idle]
  rfl

theorem restartNamed_serving (serves : (s.port p).serving = true) :
    restartNamed p s = setPort p { s.port p with restartWaits := true } s := by
  rw [restartNamed, serves]
  rfl

theorem restartedPort_freedPort (r : Port) : restartedPort (freedPort r) = restartedPort (servedPort r) := by
  unfold freedPort
  split <;> rfl

end

/-- Settles O17: a sent reply frees its port, and then the named one is restarted as it is found. -/
theorem portsFlagAndFree : Obligations.PortsFlagAndFree := by
  refine ⟨⟨fun p f s => ⟨setPortFlag_stays, setPortFlag_sets⟩, fun p t got s rx on => ?gap, fun p t s rx => ?quiet⟩,
    fun p t r s reply => ?sent⟩
  case gap => exact congrArg Host.Outcome.next (characterGap_assembling (s := advanceTo t s) rx on)
  case quiet => exact congrArg Host.Outcome.next (lineQuiet_waiting (s := advanceTo t s) rx)
  case sent =>
    have run : exec (.replySent p t) s =
        .next (takeNamed (s.port p).restartNext (setPort p (freedPort (s.port p)) (advanceTo t s))) :=
      congrArg Host.Outcome.next (replySent_eq (s := advanceTo t s) reply)
    have other {q : PortNo} (apart : q ≠ p) (x : Port) : (setPort p x (advanceTo t s)).port q = s.port q := by
      rw [setPort_port, if_neg apart.symm]
      rfl
    have idle {q : PortNo} (apart : q ≠ p) (x : Port) (free : (s.port q).serving = false) :
        restartNamed q (setPort p x (advanceTo t s)) =
          setPort q (restartedPort (s.port q)) (setPort p x (advanceTo t s)) := by
      rw [restartNamed_idle (by rw [other apart, free]), other apart]
    have serving {q : PortNo} (apart : q ≠ p) (x : Port) (serves : (s.port q).serving = true) :
        restartNamed q (setPort p x (advanceTo t s)) =
          setPort q { s.port q with restartWaits := true } (setPort p x (advanceTo t s)) := by
      rw [restartNamed_serving (by rw [other apart, serves]), other apart]
    have own : restartNamed p (setPort p (freedPort (s.port p)) (advanceTo t s)) =
        setPort p (restartedPort (servedPort (s.port p))) (advanceTo t s) := by
      rw [restartNamed_idle (by rw [setPort_port, if_pos rfl, freedPort_serving]), setPort_port, if_pos rfl,
        setPort_twice, restartedPort_freedPort]
    have stays (waits : (s.port p).restartWaits = false) : freedPort (s.port p) = servedPort (s.port p) := by
      rw [freedPort, waits]
      rfl
    have restarts (waits : (s.port p).restartWaits = true) :
        freedPort (s.port p) = restartedPort (servedPort (s.port p)) := if_pos waits
    rw [run]
    refine ⟨fun named waits => ?_, fun q apart named waits free => ?_, fun q apart named waits serves => ?_,
      fun q o apart named waits is => ⟨fun free => ?_, fun serves => ?_⟩, ?_⟩
    · rw [named, stays waits]
      simp [takeNamed, servedPort, named]
    · rw [named, stays waits, takeNamed, idle apart _ free]
      rfl
    · rw [named, stays waits, takeNamed, serving apart _ serves]
      rfl
    · rw [named, restarts waits, takeNamed, idle apart _ free, is]
      rfl
    · rw [named, restarts waits, takeNamed, serving apart _ serves, is]
      rfl
    · rintro (named | ⟨named, waits⟩)
      · rw [named, takeNamed, own]
        rfl
      · rw [named, takeNamed, restarts waits]
        rfl

/-! ## The stations, once a request is heard -/

section
variable (rq : Request) (n : StationNo) (s : State)

/-- R157: hearing a request changes only a last-request time. -/
theorem station_heard_map (m : StationNo) : (heard rq n s).station m = (s.station m).map fun st =>
    { st with lastRequest := if n = m then (advanceTo rq.t s).ms else st.lastRequest } := by
  rw [station_heard]
  by_cases own : n = m
  · subst own
    simp
  · simp [own]

theorem requester_heard {rq : Request} {n : StationNo} {st : Station} {s : State} (listed : s.station n = some st) :
    (heard rq n s).station n = some (requester rq st s) := by
  rw [station_heard, if_pos rfl, listed]
  rfl

theorem listsConsole_heard (q : PortNo) : listsConsole (heard rq n s) q = listsConsole s q := by
  refine congrArg (fun f => (indices 32).any f) (funext fun m => ?_)
  rw [station_heard_map]
  cases s.station m <;> rfl

end

/-! ## SET PORT (R154) -/

theorem listsConsole_iff (s : State) (q : PortNo) :
    listsConsole s q = true ↔ ∃ j w, s.station j = some w ∧ w.port = q ∧ w.role = .console := by
  simp only [listsConsole, List.any_eq_true, mem_indices, true_and]
  refine exists_congr fun j => ?_
  cases s.station j <;> simp

theorem silencesConsoles_iff (p : PortNo) (f : PortSettings) (s : State) : silencesConsoles p f s = true ↔
    ∀ q j w, s.station j = some w → w.port = q → w.role = .console →
      (if q = p then f.enabled else (s.port q).pending.enabled) = false := by
  have each (q : PortNo) : (!listsConsole s q || !(if q = p then f.enabled else (s.port q).pending.enabled)) = true ↔
      (listsConsole s q = true → (if q = p then f.enabled else (s.port q).pending.enabled) = false) := by
    cases listsConsole s q <;> simp
  simp only [silencesConsoles, List.all_eq_true, each, mem_indices, forall_const, listsConsole_iff, forall_exists_index,
    and_imp]

theorem silencesConsoles_heard (rq : Request) (n : StationNo) (p : PortNo) (f : PortSettings) (s : State) :
    silencesConsoles p f (heard rq n s) = silencesConsoles p f s := by
  simp only [silencesConsoles, listsConsole_heard, heard_port_at]

theorem portFields_of_ranges {rate address : Nat} {r : Rate} {e : Bool} (known : rateOf? rate = some r)
    (low : 32 ≤ address) (high : address ≤ 47) :
    portFields rate address (if e then 1 else 0) = some { rate := r, address := address, enabled := e } := by
  simp [portFields, known, low, high]

section
variable {rq : Request} {n : StationNo} {st : Station} {s : State}

/-- A request that STN takes whatever it names, by what its owner makes of it. -/
theorem request_owned {k : Kind} {owner : StationNo → Station → State → Done} (taken : Taken rq k n st s) {u : State}
    {status : Status} {body : Body} (e : owner n (requester rq st s) (heard rq n s) = ⟨u, status, body⟩) :
    (.next (request rq k anyObject owner s) : Host.Outcome State Fault Refusal) = replied rq k n status body u :=
  request_done rq k anyObject owner n st s taken (fun _ => rfl) u status body e

theorem ownerRestartPort_range {k : Nat} (h : 4 ≤ k) (arrived : PortNo) :
    ownerRestartPort arrived k n st s = refuse .range s := by
  simp [ownerRestartPort, index?_eq_none_iff.mpr h]

theorem ownerReadPort_range {k : Nat} (h : 4 ≤ k) : ownerReadPort k n st s = refuse .range s := by
  simp [ownerReadPort, index?_eq_none_iff.mpr h]

theorem ownerSetPort_port_range {k : Nat} (h : 4 ≤ k) (f : Option PortSettings) :
    ownerSetPort k f n st s = refuse .range s := by
  simp [ownerSetPort, index?_eq_none_iff.mpr h]

theorem ownerSetPort_written {p : PortNo} {f : PortSettings} (heard : silencesConsoles p f s = false) :
    ownerSetPort p.1 (some f) n st s = ⟨setPort p { s.port p with pending := f } s, .ok, .empty⟩ := by
  simp [ownerSetPort, heard, modPort]

theorem ownerSetPort_silences {p : PortNo} {f : PortSettings} (silent : silencesConsoles p f s = true) :
    ownerSetPort p.1 (some f) n st s = refuse .state s := by
  simp [ownerSetPort, silent]

theorem ownerRestartPort_named (arrived p : PortNo) : ownerRestartPort arrived p.1 n st s =
    ⟨setPort arrived { s.port arrived with restartNext := some p } s, .ok, .empty⟩ := by
  simp [ownerRestartPort, modPort]

theorem ownerReadPort_named (p : PortNo) : ownerReadPort p.1 n st s =
    ⟨setPort p { s.port p with flags := PortFlags.clear } s, .ok,
      .port (s.port p).current (s.port p).pending (s.port p).flags⟩ := by
  simp [ownerReadPort, modPort]

end

/-- Settles O22: each request is handed to its owner, who finds the ports as they were before it was heard. -/
theorem portRequests : Obligations.PortRequests := by
  intro rq n st s p
  refine ⟨fun taken rate r address e known low high f is => ⟨?written, ?silenced⟩,
    fun taken => request_owned taken (ownerRestartPort_named rq.port p),
    fun taken => request_owned taken (ownerReadPort_named p),
    fun k above => ⟨fun taken _ _ _ => request_owned taken (ownerSetPort_port_range above _),
      fun taken => request_owned taken (ownerRestartPort_range above rq.port),
      fun taken => request_owned taken (ownerReadPort_range above)⟩⟩
  all_goals
    have fields : portFields rate address (if e then 1 else 0) = some f := is ▸ portFields_of_ranges known low high
  case written =>
    rintro ⟨q, j, w, listed, port, console, on⟩
    refine request_owned taken ?_
    rw [fields]
    refine ownerSetPort_written ?_
    rw [silencesConsoles_heard, ← Bool.not_eq_true, silencesConsoles_iff]
    intro silent
    have off := silent q j w listed port console
    rw [is, on] at off
    cases off
  case silenced =>
    intro silent
    refine request_owned taken ?_
    rw [fields]
    refine ownerSetPort_silences ?_
    rw [silencesConsoles_heard, silencesConsoles_iff, is]
    exact silent

end Sys2Proof.Machine
end

section
/-! Requests on the stations' own records, on the map hold and on the station table (R157 to R161). -/

namespace Sys2Proof.Machine

/-! ## The requester's own record (R160, R161) -/

section
variable {rq : Request} {n : StationNo} {st : Station} {s : State}

/-- The owner of a request writes the requester's record as it was heard. -/
theorem modStation_requester (listed : s.station n = some st) (f : Station → Station) :
    modStation n f (heard rq n s) = setStation n (some (f (requester rq st s))) (heard rq n s) := by
  rw [modStation, requester_heard listed, Option.map_some]

theorem look_enablesWith (mask : BitVec 16) (value : Bool) (e : Vector Bool 11) (i : Fin 11) :
    look (enablesWith mask value e) i = if mask.getLsbD i.1 then value else look e i := look_tab _ i

/-- R161: no flag is both set and enabled. -/
theorem highestCause_none (quiet : ∀ i, ¬ ((look st.flags i).isSome = true ∧ look st.enables i = true)) :
    highestCause st = none :=
  List.find?_eq_none.mpr fun i _ => by simpa using quiet i

/-- R161: the highest of the flags that are both set and enabled. -/
theorem highestCause_of_highest {i : Fin 11} (set : (look st.flags i).isSome = true) (on : look st.enables i = true)
    (highest : ∀ j, i < j → ¬ ((look st.flags j).isSome = true ∧ look st.enables j = true)) :
    highestCause st = some i := by
  cases found : highestCause st with
  | none =>
    have other := List.find?_eq_none.mp found i (List.mem_reverse.mpr (mem_indices i))
    exact absurd (by rw [set, on]; rfl) other
  | some k =>
    obtain ⟨here, before, after, split, skipped⟩ := List.find?_eq_some_iff_append.mp found
    have order : (indices 11).reverse.Pairwise (fun a b => b < a) :=
      List.pairwise_reverse.mpr (pairwise_indices 11)
    have member : i ∈ before ++ k :: after := split ▸ List.mem_reverse.mpr (mem_indices i)
    rw [split] at order
    rcases List.mem_append.mp member with h | h
    · exact absurd (skipped i h) (by simp [set, on])
    · rcases List.mem_cons.mp h with rfl | h
      · rfl
      · have lower : i < k := (List.pairwise_cons.mp (List.pairwise_append.mp order).2.1).1 i h
        exact absurd (by simpa using here) (highest k lower)

theorem getLsbD_foldl_mask {l : List (Fin 11)} {p : Fin 11 → Bool} (m : BitVec 16) (j : Fin 11) :
    (l.foldl (fun m i => if p i then m ||| (1#16 <<< i.1) else m) m).getLsbD j.1 =
      (m.getLsbD j.1 || (decide (j ∈ l) && p j)) := by
  induction l generalizing m with
  | nil => simp
  | cons i l ih =>
    have bit : (1#16 <<< i.1).getLsbD j.1 = decide (j = i) := by
      have low : j.1 < 16 := by omega
      rw [BitVec.getLsbD_shiftLeft, Bool.eq_iff_iff]
      simp [low, Fin.ext_iff]
      omega
    rw [List.foldl_cons, ih]
    by_cases same : j = i
    · subst same
      cases set : p j <;> simp [bit]
    · cases set : p i <;> simp [bit, same]

theorem flagMask_getLsbD (j : Fin 11) : (flagMask st).getLsbD j.1 = (look st.flags j).isSome := by
  rw [flagMask, getLsbD_foldl_mask]
  simp

theorem ownerQuery_quiet (none_due : highestCause st = none) :
    ownerQuery n st s = ⟨s, .ok, .attention none (flagMask st)⟩ := by
  rw [ownerQuery, none_due]

theorem ownerQuery_reports {i : Fin 11} {d : Detail} (due : highestCause st = some i) (flag : look st.flags i = some d) :
    ownerQuery n st s = ⟨setStation n (some { st with flags := upd st.flags i none }) s, .ok,
      .attention (some d) (flagMask { st with flags := upd st.flags i none })⟩ := by
  rw [ownerQuery, due, ← flag]

/-- R161: the reply's mask after a QUERY ATTENTION. -/
def flagsLeft (st : Station) : BitVec 16 :=
  match highestCause st with
  | none => flagMask st
  | some i => flagMask { st with flags := upd st.flags i none }

theorem flagsLeft_quiet (none_due : highestCause st = none) : flagsLeft st = flagMask st := by
  rw [flagsLeft, none_due]

theorem flagsLeft_reports {i : Fin 11} (due : highestCause st = some i) :
    flagsLeft st = flagMask { st with flags := upd st.flags i none } := by
  rw [flagsLeft, due]

end

/-- Settles O18: each owner writes the requester's record, and QUERY ATTENTION reports the highest cause that is due. -/
theorem ownRecordRequests : Obligations.OwnRecordRequests := by
  refine ⟨fun rq n st s mask => ⟨fun taken => request_owned taken rfl, fun taken => ?set, fun taken => ?clear,
    fun taken => ?causes⟩, fun rq n st s taken => ⟨flagsLeft st, fun quiet => ?quiet, fun i d flag on highest => ?due⟩⟩
  case set =>
    refine ⟨enablesWith mask true st.enables, fun i => ?_, request_owned taken ?_⟩
    · rw [look_enablesWith]
      cases mask.getLsbD i.1 <;> rfl
    · rw [ownerEnables, modStation_requester taken.listed]
      rfl
  case clear =>
    refine ⟨enablesWith mask false st.enables, fun i => ?_, request_owned taken ?_⟩
    · rw [look_enablesWith]
      cases mask.getLsbD i.1 <;> rfl
    · rw [ownerEnables, modStation_requester taken.listed]
      rfl
  case causes =>
    refine ⟨tab fun i => if mask.getLsbD i.1 then none else look st.flags i, look_tab _, request_owned taken ?_⟩
    rw [ownerClearCauses, modStation_requester taken.listed]
    rfl
  case quiet =>
    have idle : highestCause st = none := highestCause_none quiet
    rw [flagsLeft_quiet idle]
    exact ⟨flagMask_getLsbD, request_owned taken (ownerQuery_quiet (st := requester rq st s) idle)⟩
  case due =>
    have reported : highestCause st = some i := highestCause_of_highest (by rw [flag]; rfl) on highest
    rw [flagsLeft_reports reported]
    refine ⟨fun j => ?_, request_owned taken (ownerQuery_reports (st := requester rq st s) reported flag)⟩
    rw [flagMask_getLsbD, look_upd]
    by_cases same : i = j
    · simp [same]
    · simp [same, Ne.symm same]

/-! ## The map hold (R159) -/

section
variable {n m : StationNo} {st : Station} {s : State}

theorem ownerTakeHold_free (free : s.stn.hold = none) : ownerTakeHold n st s =
    ⟨logAppend .holdTaken (some n.1) none none (setHold (some n) s), .ok, .empty⟩ := by
  rw [ownerTakeHold, free]

theorem ownerTakeHold_own (own : s.stn.hold = some n) : ownerTakeHold n st s = ⟨s, .ok, .empty⟩ := by
  simp [ownerTakeHold, own]

theorem ownerTakeHold_held (held : s.stn.hold = some m) (other : m ≠ n) :
    ownerTakeHold n st s = ⟨s, .held, .held m⟩ := by
  simp [ownerTakeHold, held, other]

theorem ownerReleaseHold_own (own : s.stn.hold = some n) : ownerReleaseHold n st s =
    ⟨logAppend .holdReleased (some n.1) none none (setHold none s), .ok, .empty⟩ := if_pos own

theorem ownerReleaseHold_other (other : s.stn.hold ≠ some n) : ownerReleaseHold n st s = refuse .state s := if_neg other

theorem ownerForceRelease_free (free : s.stn.hold = none) : ownerForceRelease n st s = ⟨s, .ok, .empty⟩ := by
  rw [ownerForceRelease, free]

theorem ownerForceRelease_held (held : s.stn.hold = some m) : ownerForceRelease n st s =
    ⟨raise (.holdLapsed .forced) (toStation m) (logAppend .holdReleased (some m.1) (some n.1) none (setHold none s)),
      .ok, .empty⟩ := by
  rw [ownerForceRelease, held]

theorem holdLapse_held (held : s.stn.hold = some m) (listed : s.station m = some st) : holdLapse s =
    raise (.holdLapsed .lapsed) (toStation m) (logAppend .holdLapsed (some m.1) none none
      (setHold none (advanceTo ((st.lastRequest + 120000) * 1000) s))) := by
  simp only [holdLapse, held, listed]
  rfl

end

/-- Settles O19: the hold as it is found decides. -/
theorem mapHoldRequests : Obligations.MapHoldRequests := by
  refine ⟨fun rq n st s => ⟨fun taken => ⟨fun free => ?_, fun own => ?_, fun m held other => ?_⟩,
    fun taken => ⟨fun own => ?_, fun other => ?_⟩, fun taken => ⟨fun free => ?_, fun m held => ?_⟩⟩,
    fun m st s held listed => congrArg Host.Outcome.next (holdLapse_held held listed)⟩
  · exact request_owned taken (ownerTakeHold_free (s := heard rq n s) free)
  · exact request_owned taken (ownerTakeHold_own (s := heard rq n s) own)
  · exact request_owned taken (ownerTakeHold_held (s := heard rq n s) held other)
  · exact request_owned taken (ownerReleaseHold_own (s := heard rq n s) own)
  · exact request_owned taken (ownerReleaseHold_other (s := heard rq n s) other)
  · exact request_owned taken (ownerForceRelease_free (s := heard rq n s) free)
  · exact request_owned taken (ownerForceRelease_held (s := heard rq n s) held)

/-! ## The station table (R158) -/

section
variable (rq : Request) (n : StationNo) (s : State)

theorem stationAt_heard (p : PortNo) (addr : Nat) : stationAt (heard rq n s) p addr = stationAt s p addr := by
  refine congrArg (fun f => (indices 32).find? f) (funext fun m => ?_)
  rw [station_heard_map]
  cases s.station m <;> rfl

theorem unlistedRecord_heard : unlistedRecord (heard rq n s) = unlistedRecord s := by
  refine congrArg (fun f => (indices 32).find? f) (funext fun m => ?_)
  rw [station_heard_map, Option.isNone_map]

theorem anotherConsole_heard (m : StationNo) : anotherConsole (heard rq n s) m = anotherConsole s m := by
  refine congrArg (fun f => (indices 32).any f) (funext fun j => ?_)
  rw [station_heard_map]
  cases s.station j <;> rfl

end

theorem unlistedRecord_of_lowest {s : State} {m : StationNo} (free : s.station m = none)
    (lowest : ∀ j, j < m → (s.station j).isSome = true) : unlistedRecord s = some m := by
  refine find?_indices_of_lowest (by rw [free]; rfl) fun j unlisted => not_lt.mp fun lower => ?_
  have listed := lowest j lower
  rw [Option.isNone_iff_eq_none] at unlisted
  rw [unlisted] at listed
  cases listed

theorem unlistedRecord_full {s : State} (full : ∀ m, (s.station m).isSome = true) : unlistedRecord s = none :=
  List.find?_eq_none.mpr fun m _ => by simpa [Option.isSome_iff_ne_none] using full m

theorem stationAt_isSome {s : State} {p : PortNo} {addr : Nat}
    (taken : ∃ m q, s.station m = some q ∧ q.port = p ∧ q.addr = addr) : (stationAt s p addr).isSome = true := by
  obtain ⟨m, q, listed, port, address⟩ := taken
  rw [Option.isSome_iff_ne_none]
  exact fun nobody => (stationAt_eq_none_iff s).mp nobody m q listed ⟨port, address⟩

theorem anotherConsole_iff (s : State) (m : StationNo) :
    anotherConsole s m = true ↔ ∃ j r, j ≠ m ∧ s.station j = some r ∧ r.role = .console := by
  simp only [anotherConsole, List.any_eq_true, mem_indices, true_and]
  refine exists_congr fun j => ?_
  cases s.station j <;> simp

/-! ### ENROL STATION -/

section
variable {p : PortNo} {address role : Nat} (low : 1 ≤ address) (high : address ≤ 31)
include low high

theorem enrolFields_of_role {r : Role} (known : roleOf? role = some r) (other : r ≠ .stage) (b : Option Nat) :
    enrolFields p.1 address role b = some (p, r, none) := by
  have addressed : ¬ (address = 0 ∨ 31 < address) := by omega
  unfold enrolFields
  rw [if_neg addressed, index?_val, known]
  cases r with
  | stage => exact absurd rfl other
  | console | fleet | fuel => rfl

theorem enrolFields_stage (x : SupplyNo) : enrolFields p.1 address 3 (some (numberOf x)) = some (p, .stage, some x) := by
  have addressed : ¬ (address = 0 ∨ 31 < address) := by omega
  simp [enrolFields, addressed, roleOf?]

/-- R158: the fields that are in range, those of a STAGE station with its supply. -/
theorem enrolFields_of_ranges {b : Option Nat} {good : SupplyNo → Prop}
    (h : role ≤ 2 ∨ (role = 3 ∧ ∃ x : SupplyNo, b = some (numberOf x) ∧ good x)) :
    ∃ r bound, enrolFields p.1 address role b = some (p, r, bound) ∧ ∀ x, bound = some x → good x := by
  rcases h with plain | ⟨rfl, x, rfl, good⟩
  · have known : ∃ r, roleOf? role = some r ∧ r ≠ .stage := by
      interval_cases role
      · exact ⟨.console, rfl, nofun⟩
      · exact ⟨.fleet, rfl, nofun⟩
      · exact ⟨.fuel, rfl, nofun⟩
    obtain ⟨r, known, other⟩ := known
    exact ⟨r, none, enrolFields_of_role low high known other b, nofun⟩
  · exact ⟨.stage, some x, enrolFields_stage low high x, fun y same => by cases same; exact good⟩

end

section
variable {port address role : Nat} {b : Option Nat} {n : StationNo} {st : Station} {s : State} {p : PortNo} {r : Role}
  {bound : Option SupplyNo} (fields : enrolFields port address role b = some (p, r, bound))
include fields

theorem ownerEnrol_taken (taken : (stationAt s p address).isSome = true) :
    ownerEnrol port address role b n st s = refuse .state s := by
  simp [ownerEnrol, fields, taken]

theorem ownerEnrol_undefined {x : SupplyNo} (free : stationAt s p address = none) (is : bound = some x)
    (undefined : (s.supply x).defined = false) : ownerEnrol port address role b n st s = refuse .state s := by
  subst is
  simp [ownerEnrol, fields, free, undefined]

section
variable (free : stationAt s p address = none) (defined : ∀ x, bound = some x → (s.supply x).defined = true)
include free defined

theorem ownerEnrol_full (full : unlistedRecord s = none) : ownerEnrol port address role b n st s = refuse .full s := by
  cases bound with
  | none => simp [ownerEnrol, fields, free, full]
  | some x => simp [ownerEnrol, fields, free, defined x rfl, full]

theorem ownerEnrol_lists {m : StationNo} (record : unlistedRecord s = some m) : ownerEnrol port address role b n st s =
    ⟨setStation m (some (newStation p address r bound s)) s, .ok, .station m⟩ := by
  cases bound with
  | none => simp [ownerEnrol, fields, free, record]
  | some x => simp [ownerEnrol, fields, free, defined x rfl, record]

end

end

/-! ### REMOVE STATION -/

section
variable {n m : StationNo} {st q : Station} {s : State}

theorem ownerRemove_unlisted (unlisted : s.station m = none) : ownerRemove m.1 n st s = refuse .unknown s := by
  simp [ownerRemove, unlisted]

theorem ownerRemove_lastConsole (listed : s.station m = some q) (console : q.role = .console)
    (alone : anotherConsole s m = false) : ownerRemove m.1 n st s = refuse .state s := by
  simp [ownerRemove, listed, console, alone]

theorem ownerRemove_listed (listed : s.station m = some q) (spare : q.role ≠ .console ∨ anotherConsole s m = true) :
    ownerRemove m.1 n st s = ⟨freeHoldOf m (markGoneAll m (setStation m none s)), .ok, .empty⟩ := by
  rcases spare with other | another
  · simp [ownerRemove, listed, other]
  · simp [ownerRemove, listed, another]

theorem markGone_eq (t : Transfer) : markGone m t =
    if t.result = none ∧ t.originator = .station m false then { t with originator := .station m true } else t := by
  simp [markGone]

end

/-- Settles O20: the fields in range name the station, the listing decides, and a removal marks, unlists and frees. -/
theorem stationsAreEnrolledAndRemoved : Obligations.StationsAreEnrolledAndRemoved := by
  refine ⟨fun rq n st s address p taken low high => ⟨fun occupied role b h => ?occupied,
    fun vacant => ⟨fun x undefined => ?undefined, fun full role b h => ?full, fun m unlisted lowest => ?lists⟩⟩,
    fun rq n st s m taken => ⟨fun unlisted => ?unlisted, fun q listed console alone => ?last,
      fun q listed spare => ?removes⟩⟩
  case occupied =>
    have inRange : role ≤ 2 ∨ (role = 3 ∧ ∃ x : SupplyNo, b = some (numberOf x) ∧ True) := by simpa using h
    obtain ⟨r, bound, fields, -⟩ := enrolFields_of_ranges low high inRange
    refine request_owned taken (ownerEnrol_taken fields ?_)
    rw [stationAt_heard]
    exact stationAt_isSome occupied
  case undefined =>
    refine request_owned taken (ownerEnrol_undefined (enrolFields_stage low high x) ?_ rfl undefined)
    rw [stationAt_heard]
    exact stationAt_none s p address vacant
  case full =>
    obtain ⟨r, bound, fields, defined⟩ := enrolFields_of_ranges low high h
    refine request_owned taken (ownerEnrol_full fields ?_ defined ?_)
    · rw [stationAt_heard]
      exact stationAt_none s p address vacant
    · rw [unlistedRecord_heard]
      exact unlistedRecord_full full
  case lists =>
    have nobody : stationAt (heard rq n s) p address = none :=
      (stationAt_heard rq n s p address).trans (stationAt_none s p address vacant)
    have record : unlistedRecord (heard rq n s) = some m :=
      (unlistedRecord_heard rq n s).trans (unlistedRecord_of_lowest unlisted lowest)
    exact ⟨fun role r b known other =>
        request_owned taken (ownerEnrol_lists (enrolFields_of_role low high known other b) nobody nofun record),
      fun x defined => request_owned taken (ownerEnrol_lists (enrolFields_stage low high x) nobody
        (fun y same => by cases same; exact defined) record)⟩
  case unlisted =>
    refine request_owned taken (ownerRemove_unlisted ?_)
    rw [station_heard_map, unlisted, Option.map_none]
  case last =>
    have here := station_heard_map rq n s m
    rw [listed, Option.map_some] at here
    refine request_owned taken (ownerRemove_lastConsole here console ?_)
    rw [anotherConsole_heard, ← Bool.not_eq_true, anotherConsole_iff]
    rintro ⟨j, r, other, second, role⟩
    exact other (alone j r second role)
  case removes =>
    have here := station_heard_map rq n s m
    rw [listed, Option.map_some] at here
    refine ⟨markGoneAll m (setStation m none (heard rq n s)), fun x => ?_, rfl, ?_⟩
    · rw [markGoneAll, State.slot, look_tab, ← funext markGone_eq]
      rfl
    · refine request_owned taken (ownerRemove_listed here ?_)
      rw [anotherConsole_heard, anotherConsole_iff]
      exact spare

end Sys2Proof.Machine
end

section
/-! Frames (R151 to R153): the characters of a sound frame assembled, the frame judged, damaged frames discarded, and the
broadcasts that are refused. -/

namespace Sys2Proof.Machine

/-! ## Assembly (R151) -/

/-- Section 12.1: what the CRC of a frame covers. -/
def covered (f : Frame) : List Byte := f.dest :: f.src :: f.kind :: BitVec.ofNat 8 f.payload.length :: f.payload

theorem bytes_of_word (w : BitVec 16) : w.extractLsb' 8 8 ++ w.extractLsb' 0 8 = w :=
  (BitVec.extractLsb'_append_extractLsb'_eq_extractLsb' (h := (rfl : 8 = 0 + 8))).trans BitVec.extractLsb'_eq_self

theorem covered_length (f : Frame) : (covered f).length = 4 + f.payload.length := by
  simp [covered]
  omega

section
variable {f : Frame} (short : f.payload.length ≤ 200)
include short

theorem length_byte : (BitVec.ofNat 8 f.payload.length).toNat = f.payload.length := by
  rw [BitVec.toNat_ofNat]
  exact Nat.mod_eq_of_lt (by omega)

/-- A frame's characters short of its CRC's last one. -/
theorem assemble_unfinished {got : List Byte} {h : Byte} (part : got <+: covered f ++ [h]) : assemble got = .more := by
  match got with
  | [] | [_] | [_, _] | [_, _, _] => rfl
  | a :: b :: c :: d :: rest =>
    simp only [covered, List.cons_append, List.cons_prefix_cons] at part
    obtain ⟨-, -, -, rfl, rest_part⟩ := part
    have bound := rest_part.length_le
    simp only [List.length_append, List.length_singleton] at bound
    have within : ¬ 200 < f.payload.length := by omega
    have unfinished : rest.length < f.payload.length + 2 := by omega
    simp [assemble, length_byte short, within, unfinished]

theorem assemble_complete (h l : Byte) : assemble (covered f ++ [h, l]) =
    if crc (covered f) = h ++ l then .sound f else .badCrc := by
  have within : ¬ 200 < f.payload.length := by omega
  have taken : (covered f ++ [h, l]).take (4 + f.payload.length) = covered f :=
    List.take_left' (covered_length f)
  have left : (covered f ++ [h, l]).drop (4 + f.payload.length) = [h, l] := List.drop_left' (covered_length f)
  have whole : assemble (covered f ++ [h, l]) = checkFrame (covered f ++ [h, l]) f := by
    simp [covered, assemble, length_byte short, within]
  rw [whole, checkFrame, left, taken]

end

theorem assemble_tooLong {a b c d : Byte} (long : 200 < d.toNat) : assemble [a, b, c, d] = .tooLong := by
  simp [assemble, long]

/-! ## The characters of a sound frame, one by one -/

section
variable {p : PortNo} {s : State}

theorem setRx_twice (a b : Rx) : setRx p b (setRx p a s) = setRx p b s := by
  simp [setRx, modPort]

theorem setRx_same {rx : Rx} (same : (s.port p).rx = rx) : setRx p rx s = s := by
  subst same
  exact congrArg (fun v => { s with lnk := v }) (upd_look s.lnk p)

theorem enabled_setRx (rx : Rx) : enabled (setRx p rx s) p = enabled s p := by
  simp [enabled, setRx, modPort]

theorem rx_setRx (rx : Rx) : ((setRx p rx s).port p).rx = rx := by
  simp [setRx, modPort]

variable (on : enabled s p = true)
include on

theorem receiveChar_start (hunting : (s.port p).rx = .hunting) :
    receiveChar p (soundChar 0xA5) s = .next (setRx p (.assembling []) s) := by
  simp [receiveChar, on, hunting, huntChar, soundChar]

theorem receiveChar_assembling {got : List Byte} (rx : (s.port p).rx = .assembling got) (c : RxChar) :
    receiveChar p c s = frameChar p got c s := by
  simp [receiveChar, on, rx]

/-- R151: while a frame is not complete, its characters are gathered. -/
theorem receiveChars_gathers (cs : List Byte) (rest : List RxChar) (got : List Byte)
    (more : ∀ part, part <+: got ++ cs → assemble part = .more) :
    receiveChars p (cs.map soundChar ++ rest) (setRx p (.assembling got) s) =
      receiveChars p rest (setRx p (.assembling (got ++ cs)) s) := by
  induction cs generalizing got with
  | nil => simp
  | cons c cs ih =>
    have gathered : receiveChar p (soundChar c) (setRx p (.assembling got) s) =
        .next (setRx p (.assembling (got ++ [c])) s) := by
      have unfinished : assemble (got ++ [c]) = .more := more _ (by simp)
      rw [receiveChar_assembling ((enabled_setRx _).trans on) (rx_setRx _)]
      simp [frameChar, soundChar, assembled, unfinished, setRx_twice]
    have rest_more := ih (got ++ [c]) (by simpa using more)
    simp only [List.map_cons, List.cons_append, receiveChars, gathered]
    simpa using rest_more

/-- R151: a sound frame at a hunting port comes to be judged, and the port hunts on. -/
theorem receiveChars_frame {f : Frame} (short : f.payload.length ≤ 200) (hunting : (s.port p).rx = .hunting) :
    receiveChars p (frameChars f) s = soundFrame p f s := by
  obtain ⟨h, l, last⟩ : ∃ h l, (crc (covered f)).extractLsb' 8 8 = h ∧ (crc (covered f)).extractLsb' 0 8 = l :=
    ⟨_, _, rfl, rfl⟩
  have word : crc (covered f) = h ++ l := by rw [← last.1, ← last.2, bytes_of_word]
  have chars : frameChars f = soundChar 0xA5 :: ((covered f ++ [h]).map soundChar ++ [soundChar l]) := by
    rw [← last.1, ← last.2]
    simp [frameChars, covered]
  have gathered := receiveChars_gathers on (covered f ++ [h]) [soundChar l] [] fun part => assemble_unfinished short
  have complete : assemble (covered f ++ [h] ++ [l]) = .sound f := by
    rw [List.append_assoc, List.singleton_append, assemble_complete short, if_pos word]
  have judged : receiveChar p (soundChar l) (setRx p (.assembling (covered f ++ [h])) s) = soundFrame p f s := by
    rw [receiveChar_assembling ((enabled_setRx _).trans on) (rx_setRx _)]
    simp only [frameChar, soundChar, Bool.not_true, Bool.false_eq_true, if_false, assembled, complete, setRx_twice,
      setRx_same hunting]
  rw [chars, receiveChars, receiveChar_start on hunting]
  simp only [gathered, List.nil_append]
  rw [receiveChars, judged]
  cases soundFrame p f s <;> rfl

end

/-! ## Broadcasts (R153) -/

section
variable {rq : Request} {k : Kind} {fits : Bool} {effect : State → State} {s : State}

theorem broadcast_disabled (off : enabled s rq.port = false) : broadcast rq k fits effect s = advanceTo rq.t s := by
  simp [broadcast, off]

theorem broadcast_serving (on : enabled s rq.port = true) (serves : (s.port rq.port).serving = true) :
    broadcast rq k fits effect s = setPortFlag rq.port .overrun (advanceTo rq.t s) := by
  simp [broadcast, on, serves]

theorem broadcast_unlisted (on : enabled s rq.port = true) (idle : (s.port rq.port).serving = false)
    (nobody : stationAt s rq.port rq.addr = none) :
    broadcast rq k fits effect s = setPortFlag rq.port .badBroadcast (advanceTo rq.t s) := by
  simp [broadcast, on, idle, nobody]

theorem broadcast_refused {n : StationNo} {st : Station} (h : Heard rq n st s)
    (refused : st.role ≠ .console ∨ rq.len ≠ k.len ∨ fits = false) :
    broadcast rq k fits effect s = setPortFlag rq.port .badBroadcast (advanceTo rq.t s) := by
  have checks : (st.role == .console && rq.len == k.len && fits) = false := by
    rcases refused with role | length | unfit
    · simp [role]
    · simp [length]
    · simp [unfit]
  simp [broadcast, h.open_, h.idle, stationAt_of_heard h, h.listed, checks]

/-- R153: one of a kind or of a content that no broadcast may have. -/
theorem broadcast_unfit (on : enabled s rq.port = true) : broadcast rq k false effect s =
    setPortFlag rq.port (if (s.port rq.port).serving then .overrun else .badBroadcast) (advanceTo rq.t s) := by
  cases serves : (s.port rq.port).serving with
  | true => exact broadcast_serving on serves
  | false =>
    unfold broadcast
    simp only [enabled_advanceTo, on, advanceTo_port_at, serves]
    (repeat' split) <;> simp_all

/-- A broadcast at a reading to which the timers have already run on. -/
theorem broadcast_advanced (p : PortNo) (addr len t : Nat) :
    broadcast ⟨p, addr, len, max s.now t⟩ k fits effect (advanceTo t s) = broadcast ⟨p, addr, len, t⟩ k fits effect s := by
  have same : advanceTo (max s.now t) (advanceTo t s) = advanceTo t s := by simp [advanceTo]
  simp only [broadcast, same]

end

theorem toNat_four_bytes (a b c d : Byte) :
    (a ++ b ++ c ++ d : BitVec 32).toNat = a.toNat * 16777216 + b.toNat * 65536 + c.toNat * 256 + d.toNat := by
  have next {m : Nat} (x : BitVec m) (y : Byte) : (x ++ y).toNat = x.toNat * 256 + y.toNat := by
    rw [BitVec.toNat_append, ← Nat.shiftLeft_add_eq_or_of_lt y.isLt, Nat.shiftLeft_eq]
  rw [next, next, next]
  omega

section
variable {p : PortNo} {f : Frame} {s : State}

theorem takeBroadcast_time {a b c d : Byte} (kind : f.kind.toNat = 0x0D) (payload : f.payload = [a, b, c, d]) :
    takeBroadcast p f s = broadcast ⟨p, f.src.toNat, 4, s.now⟩ kindSetTime true
      (takeTime (a.toNat * 16777216 + b.toNat * 65536 + c.toNat * 256 + d.toNat)) s := by
  simp only [takeBroadcast, kind, payload, toNat_four_bytes, List.length_cons, List.length_nil]

theorem takeBroadcast_showHold {b : Byte} (kind : f.kind.toNat = 0x33) (payload : f.payload = [b]) :
    takeBroadcast p f s =
      broadcast ⟨p, f.src.toNat, 1, s.now⟩ kindSetShowHold (b == 0) (showHoldAll true) s := by
  simp only [takeBroadcast, kind, payload, List.length_cons, List.length_nil]

theorem takeBroadcast_unfit (on : enabled s p = true) (time : ¬ (f.kind.toNat = 0x0D ∧ f.payload.length = 4))
    (hold : ¬ (f.kind.toNat = 0x33 ∧ f.payload = [0])) :
    takeBroadcast p f s = setPortFlag p (if (s.port p).serving then .overrun else .badBroadcast) s := by
  have now : advanceTo s.now s = s := by simp [advanceTo]
  have unfit {rq : Request} {k : Kind} {effect : State → State} (port : rq.port = p) (t : rq.t = s.now) :
      broadcast rq k false effect s = setPortFlag p (if (s.port p).serving then .overrun else .badBroadcast) s := by
    subst port
    rw [broadcast_unfit on, t, now]
  unfold takeBroadcast
  dsimp only
  split
  case h_1 a b c d kind payload => exact absurd ⟨kind, congrArg List.length payload⟩ time
  case h_2 b kind payload =>
    have other : (b == 0) = false := by
      rw [beq_eq_false_iff_ne]
      exact fun zero => hold ⟨kind, zero ▸ payload⟩
    rw [other]
    exact unfit rfl rfl
  case h_3 => exact unfit rfl rfl

/-! ## A sound frame judged (R152) -/

theorem soundFrame_request (low : f.kind.toNat < 128) (named : f.dest ≠ 0)
    (ours : f.dest.toNat = (s.port p).current.address) : soundFrame p f s = takeRequest p f s := by
  rw [soundFrame, if_neg (Nat.not_le_of_lt low), if_neg named, if_pos ours]

theorem soundFrame_ignored (h : 128 ≤ f.kind.toNat ∨ (f.dest ≠ 0 ∧ f.dest.toNat ≠ (s.port p).current.address)) :
    soundFrame p f s = .next s := by
  unfold soundFrame
  split
  · rfl
  · rename_i low
    obtain ⟨named, other⟩ := h.resolve_left low
    rw [if_neg named, if_neg other]

theorem soundFrame_broadcast (low : f.kind.toNat < 128) (all : f.dest = 0) :
    soundFrame p f s = .next (takeBroadcast p f s) := by
  simp [soundFrame, Nat.not_le_of_lt low, all]

/-- R152, log entry 4: a request is held, and served as its own row is. -/
theorem takeRequest_idle (idle : (s.port p).serving = false) : takeRequest p f s =
    exec (frameCommand p s.now f) (setPort p { s.port p with buffer := some f } s) := by
  rw [takeRequest, idle]
  exact servePassed_readRequest _ _ _ _

theorem takeRequest_serving (serves : (s.port p).serving = true) :
    takeRequest p f s = .next (setPortFlag p .overrun s) := if_pos serves

/-! ## A damaged frame (R151) -/

section
variable {got : List Byte} {c : RxChar} (on : enabled s p = true) (rx : (s.port p).rx = .assembling got)
include on rx

theorem receiveChars_one : receiveChars p [c] s = frameChar p got c s := by
  rw [receiveChars, receiveChar_assembling on rx]
  cases frameChar p got c s <;> rfl

theorem receiveChars_parity (bad : c.parityOk = false) : receiveChars p [c] s = .next (discardFrame p .parity s) := by
  rw [receiveChars_one on rx, frameChar, bad]
  rfl

variable (parity : c.parityOk = true)
include parity

theorem receiveChars_framing (bad : c.stopOk = false) : receiveChars p [c] s = .next (discardFrame p .framing s) := by
  rw [receiveChars_one on rx, frameChar, parity, bad]
  rfl

theorem receiveChars_assembled (stop : c.stopOk = true) : receiveChars p [c] s = assembled p (got ++ [c.byte]) s := by
  rw [receiveChars_one on rx, frameChar, parity, stop]
  rfl

theorem receiveChars_runt (stop : c.stopOk = true) (third : got.length = 3) (long : 200 < c.byte.toNat) :
    receiveChars p [c] s = .next (discardFrame p .runt s) := by
  obtain ⟨x, y, z, rfl⟩ := List.length_eq_three.mp third
  rw [receiveChars_assembled on rx parity stop]
  simp only [assembled, List.cons_append, List.nil_append, assemble_tooLong long]

theorem receiveChars_badCrc (stop : c.stopOk = true) {f : Frame} {h : Byte} (short : f.payload.length ≤ 200)
    (chars : got = covered f ++ [h]) (wrong : crc (covered f) ≠ h ++ c.byte) :
    receiveChars p [c] s = .next (discardFrame p .crc s) := by
  have bad : assemble (got ++ [c.byte]) = .badCrc := by
    rw [chars, List.append_assoc, List.singleton_append, assemble_complete short, if_neg wrong]
  rw [receiveChars_assembled on rx parity stop]
  simp only [assembled, bad]

end

end

/-- Settles O16: the characters of a sound frame come to be judged, the last one of a damaged frame to its discard, and a
broadcast row is a broadcast of its kind. -/
theorem soundFrameIsJudged : Obligations.SoundFrameIsJudged := by
  refine ⟨fun p t f s short on hunting => ?sound, fun p t got c s on rx lost flagged => ?damaged,
    fun c rq s len fits row => ?rows⟩
  case sound =>
    have judged : exec (.frameReceived p t (frameChars f)) s = soundFrame p f (advanceTo t s) :=
      receiveChars_frame (s := advanceTo t s) on short hunting
    rw [judged]
    refine ⟨fun low named ours idle => ?_, fun low named ours serves => ?_, fun other => ?_,
      fun all kind a b c d payload => ?_, fun all kind payload => ?_, fun all low time hold => ?_⟩
    · exact (soundFrame_request (s := advanceTo t s) low named ours).trans (takeRequest_idle (s := advanceTo t s) idle)
    · exact (soundFrame_request (s := advanceTo t s) low named ours).trans
        (takeRequest_serving (s := advanceTo t s) serves)
    · exact soundFrame_ignored other
    · rw [soundFrame_broadcast (by rw [kind]; decide) all, takeBroadcast_time (by rw [kind]; rfl) payload]
      exact congrArg Host.Outcome.next (broadcast_advanced p _ _ t)
    · rw [soundFrame_broadcast (by rw [kind]; decide) all, takeBroadcast_showHold (by rw [kind]; rfl) payload]
      exact congrArg Host.Outcome.next (broadcast_advanced p _ _ t)
    · rw [soundFrame_broadcast low all]
      exact congrArg Host.Outcome.next (takeBroadcast_unfit (s := advanceTo t s) on
        (fun ⟨kind, length⟩ => time ⟨BitVec.eq_of_toNat_eq kind, length⟩)
        fun ⟨kind, payload⟩ => hold ⟨BitVec.eq_of_toNat_eq kind, payload⟩)
  case damaged =>
    simp only [flagged]
    refine ⟨receiveChars_parity (s := advanceTo t s) on rx, receiveChars_framing (s := advanceTo t s) on rx,
      fun parity stop => ⟨receiveChars_runt (s := advanceTo t s) on rx parity stop,
        fun f h short chars wrong => receiveChars_badCrc (s := advanceTo t s) on rx parity stop short chars wrong⟩⟩
  case rows =>
    obtain ⟨k, fit, effect, run, length, fitting⟩ : ∃ (k : Kind) (fit : Bool) (effect : State → State),
        exec c s = .next (broadcast rq k fit effect s) ∧ k.len = len ∧ (fit = true ↔ fits) := by
      obtain ⟨time, rfl, rfl, fitting⟩ | ⟨supply, rfl, rfl, fitting⟩ := row
      · exact ⟨kindSetTime, true, takeTime time, rfl, rfl, by simp [fitting]⟩
      · exact ⟨kindSetShowHold, supply == 0, showHoldAll true, rfl, rfl, by simp [fitting]⟩
    rw [run]
    refine ⟨fun off => by rw [broadcast_disabled off], fun on serves => by rw [broadcast_serving on serves],
      fun on idle nowhere => by rw [broadcast_unlisted on idle (stationAt_none s _ _ nowhere)],
      fun n st h refused => ?_⟩
    rw [broadcast_refused h]
    exact refused.imp id (Or.imp (length ▸ ·) fun unfit => Bool.eq_false_iff.mpr fun fit => unfit (fitting.mp fit))

end Sys2Proof.Machine
end

section
/-! The queue (log entry 1): no command stops the part. -/

namespace Sys2Proof.Machine

theorem goesOn_next (s : State) : goesOn (.next s) := ⟨s, rfl⟩

theorem servePassed_goesOn (c : Instr) (s : State) : goesOn (servePassed c s) := by
  cases c <;> exact goesOn_next _

theorem receiveChar_goesOn (p : PortNo) (c : RxChar) (s : State) : goesOn (receiveChar p c s) := by
  unfold receiveChar frameChar assembled soundFrame takeRequest
  (repeat' split)
  case h_4.isFalse.isFalse.isTrue.isFalse => exact servePassed_goesOn _ _
  all_goals exact goesOn_next _

theorem receiveChars_goesOn (p : PortNo) (cs : List RxChar) (s : State) : goesOn (receiveChars p cs s) := by
  induction cs generalizing s with
  | nil => exact goesOn_next s
  | cons c cs ih =>
    obtain ⟨u, taken⟩ := receiveChar_goesOn p c s
    simp only [receiveChars, taken]
    exact ih u

theorem exec_goesOn (c : Instr) (s : State) : goesOn (exec c s) := by
  cases c
  case frameReceived p t chars => exact receiveChars_goesOn p chars (advanceTo t s)
  all_goals exact goesOn_next _

theorem step_cons {s : State} {c : Instr} {rest : List Instr} (front : s.pending = c :: rest) :
    step s = exec c { s with pending := rest } := by
  rw [step, front]

theorem step_nil {s : State} (idle : s.pending = []) : step s = .next s := by
  rw [step, idle]

/-- Settles O1: a step is the command at the front, and every command answers a state. -/
theorem stepTakesFrontCommand : Obligations.StepTakesFrontCommand := by
  refine ⟨fun s => ⟨fun _ _ => step_cons, step_nil⟩, fun s => ?_⟩
  cases queue : s.pending with
  | nil =>
    rw [step_nil queue]
    exact goesOn_next s
  | cons c rest =>
    rw [step_cons queue]
    exact exec_goesOn c _

end Sys2Proof.Machine
end

section
/-! The log (R162 to R164): what an append makes of the stations, and the records from a cursor on. -/

namespace Sys2Proof.Machine

/-! ## An append (R162) -/

section
variable (kind : LogKind) (subject v1 v2 : Option Nat) {s : State}

theorem logAppend_spent (spent : max32 < s.log.next) : logAppend kind subject v1 v2 s = s :=
  if_neg (Nat.not_le_of_lt spent)

/-- R162: a ring with room takes one record more. -/
theorem logAppend_room (left : s.log.next ≤ max32) (room : s.log.ring.length < Config.ringSize) :
    logAppend kind subject v1 v2 s = setLog (logAppend kind subject v1 v2 s).log s := by
  simp [logAppend, left, room]

/-- R162 step 3: a full ring loses its oldest record, and each station is told of it. -/
theorem logAppend_full (left : s.log.next ≤ max32) (full : s.log.ring.length = Config.ringSize) :
    logAppend kind subject v1 v2 s =
      eachStation (fun _ => markGap (s.log.next - Config.ringSize) (s.log.next + 1 - Config.ringSize))
        (setLog (logAppend kind subject v1 v2 s).log s) := by
  have still : ¬ Config.ringSize - 1 + 1 < Config.ringSize := by decide
  simp [logAppend, left, full, oldestOf, still]

end

theorem markGap_told {lost oldest : Nat} {st : Station} (behind : st.cursor ≤ lost) (newly : st.gapMark = false) :
    markGap lost oldest st = { st with
      gapMark := true, flags := upd st.flags (causeIndex .logGap) (some (.logGap oldest (oldest - st.cursor))) } := by
  simp [markGap, behind, newly, withFlag, detailCause]

theorem markGap_kept {lost oldest : Nat} {st : Station} (kept : lost < st.cursor ∨ st.gapMark = true) :
    markGap lost oldest st = st := by
  rcases kept with ahead | marked
  · simp [markGap, Nat.not_le_of_lt ahead]
  · simp [markGap, marked]

/-- Settles O15: an append with the numbers spent, with room in the ring, and in a full ring. -/
theorem logAppendTakesNextNumber : Obligations.LogAppendTakesNextNumber := by
  rintro kind subject v1 v2 s t rfl
  refine ⟨logAppend_spent kind subject v1 v2, fun left => ?_⟩
  have log := logAppend_log kind subject v1 v2 s
  rw [if_pos (show s.log.next ≤ max32 from left)] at log
  refine ⟨congrArg Log.next log, congrArg Log.ring log, logAppend_room kind subject v1 v2 left, fun full => ?_⟩
  have told := logAppend_full kind subject v1 v2 left full
  have station (n : StationNo) : (logAppend kind subject v1 v2 s).station n =
      (s.station n).map (markGap (s.log.next - 512) (s.log.next + 1 - 512)) := by
    rw [told]
    exact look_tab _ n
  refine ⟨?frame, fun n unlisted => ?none, fun n st listed => ⟨fun behind newly => ?told, fun kept => ?kept⟩⟩
  case frame =>
    rw [told]
    rfl
  case none => rw [station, unlisted, Option.map_none]
  case told => rw [station, listed, Option.map_some, markGap_told behind newly]
  case kept => rw [station, listed, Option.map_some, markGap_kept kept]

/-! ## The records from a cursor on (R163) -/

section
variable {l : Log} (sound : RingSound l)
include sound

/-- R162: the ring holds the records from the oldest number up to the next. -/
theorem oldestOf_add_length : oldestOf l + l.ring.length = l.next := by
  obtain ⟨most, numbers, start⟩ := sound
  unfold oldestOf
  split
  · rw [start ‹_›]
    omega
  · have full : l.ring.length = Config.ringSize := by omega
    have first := numbers 0 (full ▸ by decide)
    omega

theorem oldestOf_le_next : oldestOf l ≤ l.next := oldestOf_add_length sound ▸ Nat.le_add_right _ _

theorem ring_seq {k : Nat} (h : k < l.ring.length) : (l.ring[k]).seq = oldestOf l + k := by
  have number := sound.2.1 k h
  have all := oldestOf_add_length sound
  omega

end

/-- Records numbered without a gap from `a` on: those numbered `c` and up are a tail. -/
theorem filter_consecutive (ring : List LogRecord) (a c : Nat)
    (numbers : ∀ k (h : k < ring.length), (ring[k]).seq = a + k) :
    (ring.filter fun r => c ≤ r.seq) = ring.drop (c - a) := by
  induction ring generalizing a with
  | nil => rw [List.filter_nil, List.drop_nil]
  | cons r ring ih =>
    have tail := ih (a + 1) fun k h => by
      have number := numbers (k + 1) (Nat.succ_lt_succ h)
      rw [List.getElem_cons_succ] at number
      omega
    have first : r.seq = a := numbers 0 (Nat.succ_pos _)
    by_cases here : c ≤ a
    · rw [List.filter_cons_of_pos (by simpa [first] using here), tail, Nat.sub_eq_zero_of_le here,
        Nat.sub_eq_zero_of_le (Nat.le_succ_of_le here)]
      rfl
    · obtain ⟨d, beyond⟩ : ∃ d, c - a = d + 1 := ⟨c - a - 1, by omega⟩
      rw [List.filter_cons_of_neg (by simpa [first] using here), tail, beyond, List.drop_succ_cons]
      congr 1
      omega

theorem recordsFrom_eq {l : Log} (sound : RingSound l) (cursor count : Nat) :
    recordsFrom l cursor count = (l.ring.drop (cursor - oldestOf l)).take count := by
  rw [recordsFrom, filter_consecutive l.ring (oldestOf l) cursor fun _ h => ring_seq sound h]

section
variable {l : Log} {cursor : Nat} (sound : RingSound l) (low : oldestOf l ≤ cursor) (count : Nat)
include sound low

theorem length_recordsFrom : (recordsFrom l cursor count).length = min count (l.next - cursor) := by
  have all := oldestOf_add_length sound
  rw [recordsFrom_eq sound, List.length_take, List.length_drop]
  omega

theorem recordsFrom_consecutive {i : Nat} {r : LogRecord} (found : (recordsFrom l cursor count)[i]? = some r) :
    r ∈ l.ring ∧ r.seq = cursor + i := by
  rw [recordsFrom_eq sound] at found
  obtain ⟨-, rfl⟩ := List.getElem?_eq_some_iff.mp found
  rw [List.getElem_take, List.getElem_drop]
  refine ⟨List.getElem_mem _, ?_⟩
  rw [ring_seq sound]
  omega

end

/-! ## READ LOG and SEEK LOG (R163, R164) -/

section
variable {n : StationNo} {st : Station} {s : State} {count : Nat}

theorem ownerReadLog_range (above : 12 < count) : ownerReadLog count n st s = refuse .range s := if_pos above

theorem ownerReadLog_kept (within : count ≤ 12) (kept : oldestOf s.log ≤ st.cursor) :
    ownerReadLog count n st s =
      let rs := recordsFrom s.log st.cursor (if count = 0 then 12 else count)
      ⟨setStation n (some { st with cursor := st.cursor + rs.length, gapMark := false }) s, .ok,
        .log none st.cursor rs (decide (st.cursor + rs.length < s.log.next))⟩ := by
  simp [ownerReadLog, Nat.not_lt_of_le within, Nat.sub_eq_zero_of_le kept, Nat.max_eq_left kept]

theorem ownerReadLog_gap (within : count ≤ 12) (lost : st.cursor < oldestOf s.log) :
    ownerReadLog count n st s =
      let rs := recordsFrom s.log (oldestOf s.log) (min (if count = 0 then 12 else count) 11)
      ⟨setStation n (some { st with cursor := oldestOf s.log + rs.length, gapMark := false }) s, .gap,
        .log (some (oldestOf s.log - st.cursor)) (oldestOf s.log) rs
          (decide (oldestOf s.log + rs.length < s.log.next))⟩ := by
  simp [ownerReadLog, Nat.not_lt_of_le within, Nat.sub_ne_zero_of_lt lost, Nat.max_eq_right lost.le]

theorem ownerSeekLog_range {position : Nat} (above : 1 < position) : ownerSeekLog position n st s = refuse .range s :=
  if_pos above

end

/-- Settles O21: the requester's cursor as it is heard decides which records are read. -/
theorem logIsReadFromTheCursor : Obligations.LogIsReadFromTheCursor := by
  intro rq n st s count sound _
  refine ⟨fun taken within c asked => ?read, fun taken above => request_owned taken (ownerReadLog_range above),
    fun taken => ⟨request_owned taken rfl, request_owned taken rfl,
      fun position above => request_owned taken (ownerSeekLog_range above)⟩⟩
  subst asked
  refine ⟨fun kept => ⟨_, length_recordsFrom sound kept _, fun i r => recordsFrom_consecutive sound kept _, ?_⟩,
    fun lost => ⟨_, length_recordsFrom sound le_rfl _, fun i r => recordsFrom_consecutive sound le_rfl _, ?_⟩⟩
  · exact request_owned taken (ownerReadLog_kept (st := requester rq st s) (s := heard rq n s) within kept)
  · exact request_owned taken (ownerReadLog_gap (st := requester rq st s) (s := heard rq n s) within lost)

end Sys2Proof.Machine
end

section
/-! What the law of the log speaks of (R162): the ring, and the cursor of each listed station. Most commands append to
the ring and leave every cursor where it stands; the others place a cursor within the log. -/

namespace Sys2Proof.Machine

/-! ## The law -/

/-- The cursor of each listed station. -/
def State.cursors (s : State) : Vector (Option Nat) 32 := tab fun n => (s.station n).map Station.cursor

/-- R162: the ring runs without a gap, and no cursor lies beyond it. -/
structure LogLaw (s : State) : Prop where
  ring : RingLaw s
  cursor : CursorLaw s

theorem cursorLaw_iff (s : State) : CursorLaw s ↔ ∀ n c, look s.cursors n = some c → c ≤ s.log.next := by
  simp only [State.cursors, look_tab, Option.map_eq_some_iff, forall_exists_index, and_imp, forall_apply_eq_imp_iff₂]
  exact Iff.rfl

section
variable {s t : State}

/-- A log that grows keeps the law, as long as no cursor moves. -/
theorem LogLaw.on_grows (law : LogLaw s) (log : Grows s.log t.log) (cursors : t.cursors = s.cursors) : LogLaw t where
  ring := log.sound law.ring
  cursor := (cursorLaw_iff t).mpr fun n c at_station =>
    ((cursorLaw_iff s).mp law.cursor n c (cursors ▸ at_station)).trans log.next

/-- A station's record is written with its cursor within the log, or the station is removed. -/
theorem LogLaw.on_setStation (law : LogLaw s) (n : StationNo) {r : Option Station}
    (within : ∀ q, r = some q → q.cursor ≤ s.log.next) : LogLaw (setStation n r s) where
  ring := law.ring
  cursor m q listed := by
    rw [setStation_station] at listed
    split at listed
    · exact within q listed
    · exact law.cursor m q listed

end

/-! ## What leaves every cursor where it stands -/

section
variable {s t : State}

theorem cursors_eq (same : ∀ n, (t.station n).map Station.cursor = (s.station n).map Station.cursor) :
    t.cursors = s.cursors := congrArg tab (funext same)

/-- A station's cursor is part of what no raise and no log record changes. -/
theorem cursors_of_ident (same : ∀ n, ((t.station n).map Station.ident).map Ident.cursor =
    ((s.station n).map Station.ident).map Ident.cursor) : t.cursors = s.cursors :=
  cursors_eq fun n => by
    have h := same n
    rwa [Option.map_map, Option.map_map] at h

theorem cursors_of_idents (idents : t.idents = s.idents) : t.cursors = s.cursors :=
  cursors_of_ident fun n => congrArg _ (ident_of_idents idents n)

theorem cursors_of_still (same : t.still = s.still) : t.cursors = s.cursors := by
  simp only [State.still, Still.mk.injEq] at same
  obtain ⟨-, -, -, idents, -⟩ := same
  exact cursors_of_idents idents

theorem cursors_of_stn (stn : t.stn = s.stn) : t.cursors = s.cursors := by
  simp only [State.cursors, State.station, stn]

end

section
variable (s : State)

@[simp] theorem cursors_advanceTo (t : Nat) : (advanceTo t s).cursors = s.cursors := rfl
@[simp] theorem cursors_refuse (e : Status) : (refuse e s).state.cursors = s.cursors := rfl
@[simp] theorem cursors_modPort (p : PortNo) (f : Port → Port) : (modPort p f s).cursors = s.cursors := rfl
@[simp] theorem cursors_setRx (p : PortNo) (rx : Rx) : (setRx p rx s).cursors = s.cursors := rfl
@[simp] theorem cursors_setHold (h : Option StationNo) : (setHold h s).cursors = s.cursors := rfl
@[simp] theorem cursors_setChan (k : ChannelNo) (r : Chan) : (setChan k r s).cursors = s.cursors := rfl
@[simp] theorem cursors_modChan (k : ChannelNo) (f : Chan → Chan) : (modChan k f s).cursors = s.cursors := rfl
@[simp] theorem cursors_setMatrix (m : Matrix) : (setMatrix m s).cursors = s.cursors := rfl
@[simp] theorem cursors_setClock (c : Clock) : (setClock c s).cursors = s.cursors := rfl
@[simp] theorem cursors_setAccount (a : AccountNo) (r : Account) : (setAccount a r s).cursors = s.cursors := rfl
@[simp] theorem cursors_setPrice (p : Nat) : (setPrice p s).cursors = s.cursors := rfl
@[simp] theorem cursors_setLimits (l : SyncLimits) : (setLimits l s).cursors = s.cursors := rfl
@[simp] theorem cursors_setClosePending (k : Bool) : (setClosePending k s).cursors = s.cursors := rfl
@[simp] theorem cursors_emptyBank (k : Bank) : (emptyBank k s).cursors = s.cursors :=
  cursors_of_stn (by simp only [emptyBank])
@[simp] theorem cursors_setHeader (k : Bank) (h : BankHeader) : (setHeader k h s).cursors = s.cursors := by cases k <;> rfl
@[simp] theorem cursors_resetRuns : (resetRuns s).cursors = s.cursors := cursors_of_still (by simp)
@[simp] theorem cursors_raise (d : Detail) (who : StationNo → Station → Bool) : (raise d who s).cursors = s.cursors :=
  cursors_of_still (by simp)
@[simp] theorem cursors_logAppend (kind : LogKind) (subject v1 v2 : Option Nat) :
    (logAppend kind subject v1 v2 s).cursors = s.cursors := cursors_of_still (by simp)
@[simp] theorem cursors_takeBoundary (endTime : Nat) : (takeBoundary endTime s).cursors = s.cursors :=
  cursors_of_idents (stands_takeBoundary endTime s).idents
@[simp] theorem cursors_answer (rq : Request) (code : Nat) (n : Option StationNo) (status : Status) (body : Body) :
    (answer rq code n status body s).cursors = s.cursors := rfl

@[simp] theorem cursors_modStation (n : StationNo) (f : Station → Station) (same : ∀ st, (f st).cursor = st.cursor) :
    (modStation n f s).cursors = s.cursors := cursors_eq fun m => by
  by_cases here : n = m
  · subst here
    simp [modStation, Function.comp_def, same]
  · simp [modStation, here]

@[simp] theorem cursors_touch (n : StationNo) : (touch n s).cursors = s.cursors := cursors_modStation s n _ fun _ => rfl

/-! ### LNK, MTR, DLV and STL -/

@[simp] theorem cursors_setPortFlag (p : PortNo) (f : PortFlag) : (setPortFlag p f s).cursors = s.cursors := by
  unfold setPortFlag
  split <;> simp

@[simp] theorem cursors_discardFrame (p : PortNo) (f : PortFlag) : (discardFrame p f s).cursors = s.cursors :=
  cursors_setPortFlag (setRx p .waitingQuiet s) p f

@[simp] theorem cursors_characterGap (p : PortNo) : (characterGap p s).cursors = s.cursors := by
  unfold characterGap
  (repeat' split) <;> simp

@[simp] theorem cursors_lineQuiet (p : PortNo) : (lineQuiet p s).cursors = s.cursors := by
  unfold lineQuiet
  split <;> simp

@[simp] theorem cursors_huntChar (p : PortNo) (c : RxChar) : (huntChar p c s).cursors = s.cursors := by
  unfold huntChar
  split <;> simp

@[simp] theorem cursors_replySent (p : PortNo) : (replySent p s).cursors = s.cursors := by
  unfold replySent takeNamed restartNamed takeWaiting
  dsimp only
  (repeat' split) <;> simp

@[simp] theorem cursors_badKind (rq : Request) (kind : Nat) : (badKind rq kind s).cursors = s.cursors := by
  unfold badKind
  dsimp only
  (repeat' split) <;> simp

@[simp] theorem cursors_risingEdge (k : ChannelNo) : (risingEdge k s).cursors = s.cursors := by
  unfold risingEdge
  split <;> simp

@[simp] theorem cursors_fallingEdge (k : ChannelNo) : (fallingEdge k s).cursors = s.cursors := by
  unfold fallingEdge fallDefined countPulse
  dsimp only
  (repeat' split) <;> simp

@[simp] theorem cursors_fillPointClose (i : SourceNo) : (fillPointClose i s).cursors = s.cursors := by
  unfold fillPointClose
  split
  · rfl
  · exact (cursors_of_still (still_fillClosed i _)).trans rfl

@[simp] theorem cursors_fillPointOpen (i : SourceNo) : (fillPointOpen i s).cursors = s.cursors := by
  unfold fillPointOpen
  split
  · exact (cursors_of_still (still_fillOpened i _)).trans rfl
  · rfl

@[simp] theorem cursors_fillRestartCheck (i : SourceNo) (closed : Bool) :
    (fillRestartCheck i closed s).cursors = s.cursors := by
  unfold fillRestartCheck
  split
  · exact (cursors_of_still (still_compareFill i closed _)).trans rfl
  · rfl

@[simp] theorem cursors_secondTick (order : TickOrder) : (secondTick order s).cursors = s.cursors := by
  have sampled (u : State) : (sampleAll u).cursors = u.cursors := cursors_of_still (still_sampleAll u)
  have ticked (u : State) : (tickBlocks order u).cursors = u.cursors := by
    have owners : (tickOwners order (tickClock u)).cursors = u.cursors := by
      rw [tickOwners_frame]
      rfl
    unfold tickBlocks
    dsimp only
    split <;> simp [owners]
  unfold secondTick
  split <;> simp [sampled, ticked]

@[simp] theorem cursors_takeTime (time : Nat) : (takeTime time s).cursors = s.cursors := by
  unfold takeTime
  dsimp only
  split <;> simp

@[simp] theorem cursors_settle : (settle s).cursors = s.cursors := by
  have closed (endTime : Nat) (u : State) : (takeClose endTime u).cursors = u.cursors := by
    unfold takeClose
    split
    · dsimp only
      rw [cursors_raise, cursors_logAppend]
      exact (cursors_setHeader _ _ _).trans (cursors_setHeader _ _ _)
    · rfl
  have settled (c : Complete) : (settleRecord c s).cursors = s.cursors := (cursors_logAppend ..).trans rfl
  unfold settle
  (repeat' split) <;> simp [closed, settled]

theorem cursors_showHoldAll (value : Bool) : (showHoldAll value s).cursors = s.cursors := rfl

@[simp] theorem cursors_holdLapse : (holdLapse s).cursors = s.cursors := by
  unfold holdLapse
  split
  · rfl
  · rw [cursors_raise, cursors_logAppend]
    split <;> rfl

/-- R38, R160: a warm restart leaves every station its cursor. -/
theorem cursors_warmRestart (elapsed : Nat) (found : Found) : (warmRestart elapsed found s).cursors = s.cursors :=
  cursors_of_ident fun n => by
    rw [warmRestart_ident, Option.map_map, Option.map_map]
    rfl

/-! ### Answers that place no cursor -/

variable (n : StationNo) (st : Station)

@[simp] theorem cursors_ownerTakeHold : (ownerTakeHold n st s).state.cursors = s.cursors := by
  unfold ownerTakeHold
  (repeat' split) <;> simp

@[simp] theorem cursors_ownerReleaseHold : (ownerReleaseHold n st s).state.cursors = s.cursors := by
  unfold ownerReleaseHold
  split <;> simp

@[simp] theorem cursors_ownerForceRelease : (ownerForceRelease n st s).state.cursors = s.cursors := by
  unfold ownerForceRelease
  split <;> simp

@[simp] theorem cursors_ownerEnables (mask : BitVec 16) (value : Bool) :
    (ownerEnables mask value n st s).state.cursors = s.cursors := cursors_modStation s n _ fun _ => rfl

@[simp] theorem cursors_ownerClearCauses (mask : BitVec 16) : (ownerClearCauses mask n st s).state.cursors = s.cursors :=
  cursors_modStation s n _ fun _ => rfl

@[simp] theorem cursors_ownerSetPort (port : Nat) (fields : Option PortSettings) :
    (ownerSetPort port fields n st s).state.cursors = s.cursors := by
  unfold ownerSetPort
  (repeat' split) <;> simp

@[simp] theorem cursors_ownerRestartPort (arrived : PortNo) (port : Nat) :
    (ownerRestartPort arrived port n st s).state.cursors = s.cursors := by
  unfold ownerRestartPort
  split <;> simp

@[simp] theorem cursors_ownerReadPort (port : Nat) : (ownerReadPort port n st s).state.cursors = s.cursors := by
  unfold ownerReadPort
  split <;> simp

@[simp] theorem cursors_ownerSetTime (time : Nat) : (ownerSetTime time n st s).state.cursors = s.cursors :=
  cursors_takeTime s time

@[simp] theorem cursors_ownerSetInterval (minutes : Nat) : (ownerSetInterval minutes n st s).state.cursors = s.cursors := by
  unfold ownerSetInterval
  dsimp only
  split <;> simp

@[simp] theorem cursors_ownerDefineAccount (account present reference : Nat) :
    (ownerDefineAccount account present reference n st s).state.cursors = s.cursors := by
  unfold ownerDefineAccount
  split <;> simp

@[simp] theorem cursors_ownerRemoveAccount (account : Nat) :
    (ownerRemoveAccount account n st s).state.cursors = s.cursors := by
  unfold ownerRemoveAccount
  (repeat' split) <;> simp

@[simp] theorem cursors_ownerClosePeriod : (ownerClosePeriod n st s).state.cursors = s.cursors := by
  unfold ownerClosePeriod
  split <;> simp

@[simp] theorem cursors_ownerReleasePeriod : (ownerReleasePeriod n st s).state.cursors = s.cursors := by
  unfold ownerReleasePeriod releaseBank
  split <;> simp

@[simp] theorem cursors_ownerReadAccount (account bank : Nat) :
    (ownerReadAccount account bank n st s).state.cursors = s.cursors := by
  unfold ownerReadAccount
  (repeat' split) <;> simp

@[simp] theorem cursors_ownerReadSettlement : (ownerReadSettlement n st s).state.cursors = s.cursors := rfl

@[simp] theorem cursors_ownerSetLimits (slip phase volts timeout : Option Nat) :
    (ownerSetLimits slip phase volts timeout n st s).state.cursors = s.cursors := by
  unfold ownerSetLimits
  dsimp only
  (repeat' split) <;> simp

@[simp] theorem cursors_ownerSetPrice (price : Nat) : (ownerSetPrice price n st s).state.cursors = s.cursors := by
  unfold ownerSetPrice
  split <;> simp

@[simp] theorem cursors_ownerDefineChannel (channel : Nat) (supply account : Option Nat) (wh : Nat) (width : Option Nat) :
    (ownerDefineChannel channel supply account wh width n st s).state.cursors = s.cursors := by
  unfold ownerDefineChannel channelWritten
  (repeat' split) <;> simp

@[simp] theorem cursors_ownerReadChannel (channel : Nat) : (ownerReadChannel channel n st s).state.cursors = s.cursors := by
  unfold ownerReadChannel
  split <;> simp

end

/-! ## What places a cursor within the log -/

section
variable {s : State} (law : LogLaw s)
include law

theorem LogLaw.on_ownerQuery {n : StationNo} {st : Station} (listed : s.station n = some st) :
    LogLaw (ownerQuery n st s).state := by
  unfold ownerQuery
  split
  · exact law
  · refine law.on_setStation n fun q is => ?_
    cases is
    exact law.cursor n st listed

/-- R163: the cursor moves on by the records read, and these end with the ring. -/
theorem LogLaw.on_ownerReadLog (count : Nat) {n : StationNo} {st : Station} (listed : s.station n = some st) :
    LogLaw (ownerReadLog count n st s).state := by
  unfold ownerReadLog
  split
  · exact law
  · refine law.on_setStation n fun q is => ?_
    cases is
    have before : max st.cursor (oldestOf s.log) ≤ s.log.next :=
      max_le (law.cursor n st listed) (oldestOf_le_next law.ring)
    dsimp only
    rw [length_recordsFrom law.ring (le_max_right _ _)]
    omega

/-- R164: the oldest record and the next number are both within the log. -/
theorem LogLaw.on_ownerSeekLog (position : Nat) (n : StationNo) (st : Station) :
    LogLaw (ownerSeekLog position n st s).state := by
  unfold ownerSeekLog
  split
  · exact law
  · refine law.on_setStation n fun q is => ?_
    cases is
    dsimp only
    split
    · exact oldestOf_le_next law.ring
    · exact le_rfl

/-- R158: a newly listed station's cursor is the next record to be appended. -/
theorem LogLaw.on_ownerEnrol (port address role : Nat) (supply : Option Nat) (n : StationNo) (st : Station) :
    LogLaw (ownerEnrol port address role supply n st s).state := by
  have seated (m : StationNo) (p : PortNo) (r : Role) (b : Option SupplyNo) :
      LogLaw (setStation m (some (newStation p address r b s)) s) := law.on_setStation m fun q is => by
    cases is
    exact le_rfl
  unfold ownerEnrol
  (repeat' split)
  case h_2 | h_2 => exact seated _ _ _ _
  all_goals exact law

theorem LogLaw.on_ownerRemove (station : Nat) (n : StationNo) (st : Station) :
    LogLaw (ownerRemove station n st s).state := by
  have removed (m : StationNo) : LogLaw (markGoneAll m (setStation m none s)) :=
    (law.on_setStation m fun _ is => by cases is).on_grows (grows_refl _) rfl
  have freed (m : StationNo) (u : State) : (freeHoldOf m u).cursors = u.cursors := by
    unfold freeHoldOf
    split <;> simp
  unfold ownerRemove
  (repeat' split)
  case h_2.isFalse => exact (removed _).on_grows (grows_freeHoldOf _ _ (grows_refl _)) (freed _ _)
  all_goals exact law

/-! ## Requests and broadcasts -/

theorem LogLaw.on_judged (rq : Request) (kind : Kind) (scope : Station → State → Bool)
    (owner : StationNo → Station → State → Done) (n : StationNo) (st : Station) (owned : LogLaw (owner n st s).state) :
    LogLaw (judged rq kind scope owner n st s) := by
  unfold judged
  split
  · exact law.on_grows (grows_refl _) rfl
  · exact owned.on_grows (grows_refl _) rfl

theorem LogLaw.on_request (rq : Request) (kind : Kind) (scope : Station → State → Bool)
    (owner : StationNo → Station → State → Done)
    (keeps : ∀ n st u, u.station n = some st → LogLaw u → LogLaw (owner n st u).state) :
    LogLaw (request rq kind scope owner s) := by
  have touched (n : StationNo) : LogLaw (touch n (advanceTo rq.t s)) := law.on_grows (grows_refl _) (by simp)
  unfold request
  dsimp only
  (repeat' split)
  case h_2 n _ _ st listed =>
    exact (touched n).on_judged rq kind scope owner n st (keeps n st _ listed (touched n))
  case isFalse.isTrue => exact law.on_grows (grows_setPortFlag _ _ (advanceTo rq.t s) (grows_refl _)) (by simp)
  all_goals exact law.on_grows (grows_refl _) (by simp)

theorem LogLaw.on_broadcast (rq : Request) (kind : Kind) (fits : Bool) (effect : State → State)
    (grows : ∀ u, Grows s.log u.log → Grows s.log (effect u).log) (keeps : ∀ u, (effect u).cursors = u.cursors) :
    LogLaw (broadcast rq kind fits effect s) := by
  refine law.on_grows (grows_broadcast rq kind fits effect s grows (grows_refl _)) ?_
  unfold broadcast
  dsimp only
  (repeat' split) <;> simp [keeps]

end

end Sys2Proof.Machine
end

section
/-! The law of the log (R162) through every command. -/

namespace Sys2Proof.Machine

section
variable {s : State} (law : LogLaw s)
include law

/-- R153: the broadcast that a frame carries. -/
theorem LogLaw.on_takeBroadcast (port : PortNo) (f : Frame) : LogLaw (takeBroadcast port f s) := by
  unfold takeBroadcast
  dsimp only
  split
  · exact law.on_broadcast _ _ _ _ (fun u h => grows_takeTime _ u h) fun u => cursors_takeTime u _
  · exact law.on_broadcast _ _ _ _ (fun _ h => h) (cursors_showHoldAll · true)
  · exact law.on_broadcast _ _ _ _ (fun _ h => h) fun _ => rfl

/-! ## The requests of chapter 12 -/

theorem LogLaw.on_servePassed (c : Instr) : OnNext LogLaw (servePassed c s) := by
  have asked (rq : Request) (kind : Kind) (scope : Station → State → Bool)
      (owner : StationNo → Station → State → Done)
      (keeps : ∀ n st u, u.station n = some st → LogLaw u → LogLaw (owner n st u).state) :
      OnNext LogLaw (.next (request rq kind scope owner s)) :=
    onNext_iff.mpr (law.on_request rq kind scope owner keeps)
  cases c
  case queryAttention => exact asked _ _ _ _ fun _ _ _ listed kept => kept.on_ownerQuery listed
  case readLog => exact asked _ _ _ _ fun _ _ _ listed kept => kept.on_ownerReadLog _ listed
  case seekLog => exact asked _ _ _ _ fun n st _ _ kept => kept.on_ownerSeekLog _ n st
  case enrolStation => exact asked _ _ _ _ fun n st _ _ kept => kept.on_ownerEnrol _ _ _ _ n st
  case removeStation => exact asked _ _ _ _ fun n st _ _ kept => kept.on_ownerRemove _ n st
  case ping => exact asked _ _ _ _ fun _ _ _ _ kept => kept
  case setTime rq isBroadcast time =>
    refine onNext_iff.mpr ?_
    split
    · exact law.on_broadcast _ _ _ _ (fun u h => grows_takeTime time u h) fun u => cursors_takeTime u time
    · exact law.on_request _ _ _ _ fun _ _ _ _ kept => kept.on_grows (by simp) (by simp)
  case setShowHold rq isBroadcast supply =>
    refine onNext_iff.mpr ?_
    split
    · exact law.on_broadcast _ _ _ _ (fun _ h => h) (cursors_showHoldAll · true)
    · exact law.on_request _ _ _ _ fun _ _ _ _ kept => kept.on_grows (by simp) (cursors_of_still (by simp))
  case unlistedKind rq kind =>
    refine onNext_iff.mpr ?_
    split
    · exact law
    · exact law.on_grows (grows_badKind rq kind s (grows_refl _)) (cursors_badKind s rq kind)
  case takeHold | releaseHold | forceRelease | setEnables | clearEnables | clearCauses | setPort | restartPort |
      readPort | setSyncLimits | setFuelPrice | defineChannel | readChannel | defineAccount | removeAccount |
      setInterval | closePeriod | releasePeriod | readAccount | readSettlement =>
    exact asked _ _ _ _ fun _ _ _ _ kept => kept.on_grows (by simp) (by simp)
  case hireSource | offHireSource | sourceReport | readSource | defineSupply | clearFault | clearShowHold | readSupply |
      transfer | abortTransfer | readTransfer | setTank | readTank | armDelivery | meterReading | closeDelivery |
      cancelDelivery | readDelivery | defineWatch | armWatches | disarmWatches | readWatch =>
    exact asked _ _ _ _ fun _ _ _ _ kept => kept.on_grows (by simp) (cursors_of_still (by simp))
  all_goals exact onNext_iff.mpr law

/-! ## Frames (R151 to R153) -/

theorem LogLaw.on_soundFrame (p : PortNo) (f : Frame) : OnNext LogLaw (soundFrame p f s) := by
  unfold soundFrame takeRequest
  (repeat' split)
  case isFalse.isTrue => exact onNext_iff.mpr (law.on_takeBroadcast p f)
  case isFalse.isFalse.isTrue.isTrue =>
    exact onNext_iff.mpr (law.on_grows (grows_setPortFlag p _ s (grows_refl _)) (by simp))
  case isFalse.isFalse.isTrue.isFalse =>
    have buffered : LogLaw (modPort p (fun r => { r with buffer := some f }) s) := law.on_grows (grows_refl _) rfl
    exact buffered.on_servePassed _
  all_goals exact onNext_iff.mpr law

theorem LogLaw.on_discardFrame (p : PortNo) (f : PortFlag) : LogLaw (discardFrame p f s) :=
  law.on_grows (grows_discardFrame p f s (grows_refl _)) (by simp)

theorem LogLaw.on_assembled (p : PortNo) (got : List Byte) : OnNext LogLaw (assembled p got s) := by
  have received (rx : Rx) : LogLaw (setRx p rx s) := law.on_grows (grows_refl _) rfl
  unfold assembled
  split
  · exact onNext_iff.mpr (received _)
  · exact onNext_iff.mpr (law.on_discardFrame p .runt)
  · exact onNext_iff.mpr (law.on_discardFrame p .crc)
  · exact (received .hunting).on_soundFrame p _

theorem LogLaw.on_receiveChar (p : PortNo) (c : RxChar) : OnNext LogLaw (receiveChar p c s) := by
  unfold receiveChar frameChar
  (repeat' split)
  case h_1 => exact onNext_iff.mpr (law.on_grows (grows_huntChar p c s (grows_refl _)) (by simp))
  case h_2.isTrue => exact onNext_iff.mpr (law.on_discardFrame p .parity)
  case h_2.isFalse.isTrue => exact onNext_iff.mpr (law.on_discardFrame p .framing)
  case h_2.isFalse.isFalse => exact law.on_assembled p _
  all_goals exact onNext_iff.mpr law

theorem LogLaw.on_receiveChars (p : PortNo) (cs : List RxChar) : OnNext LogLaw (receiveChars p cs s) := by
  induction cs generalizing s with
  | nil => exact onNext_iff.mpr law
  | cons c cs ih =>
    intro t run
    obtain ⟨u, taken⟩ := receiveChar_goesOn p c s
    simp only [receiveChars, taken] at run
    exact ih (law.on_receiveChar p c u taken) t run

end

/-! ## The commands -/

/-- R162: COLD_START is record 1, where station 0's cursor stands. -/
theorem logLaw_cold (now : Nat) (found : Found) (queue : List Instr) : LogLaw (State.cold now found queue) where
  ring := ringSound_reset
  cursor n st listed := by
    rw [cold_station] at listed
    split at listed
    · cases listed
      exact (by decide : 1 ≤ 2)
    · cases listed

theorem LogLaw.on_exec (c : Instr) {s : State} (law : LogLaw s) : OnNext LogLaw (exec c s) := by
  by_cases request : exec c s = servePassed c s
  · rw [request]
    exact law.on_servePassed c
  · have on (t : Nat) : LogLaw (advanceTo t s) := law.on_grows (grows_refl _) rfl
    have timed (t : Nat) (f : State → State) (grows : ∀ u, Grows u.log (f u).log)
        (cursors : ∀ u, (f u).cursors = u.cursors) : OnNext LogLaw (.next (f (advanceTo t s))) :=
      onNext_iff.mpr ((on t).on_grows (grows _) (cursors _))
    cases c
    case coldStart cause t found =>
      refine onNext_iff.mpr ?_
      split
      · exact logLaw_cold _ found _
      · exact law
    case warmRestart cause t elapsed found =>
      refine onNext_iff.mpr ?_
      split
      · exact (on t).on_grows (grows_warmRestart elapsed found _ (grows_refl _)) (cursors_warmRestart _ elapsed found)
      · exact law
    case frameReceived p t chars => exact (on t).on_receiveChars p chars
    case characterGapTimeout p t => exact timed t (characterGap p) (by simp) (by simp)
    case lineQuiet p t => exact timed t (lineQuiet p) (by simp) (by simp)
    case replySent p t => exact timed t (replySent p) (by simp) (by simp)
    case secondTick order t => exact timed t (secondTick order) (by simp) (by simp)
    case fillPointClose i t => exact timed t (fillPointClose i) (by simp) (by simp)
    case fillPointOpen i t => exact timed t (fillPointOpen i) (by simp) (by simp)
    case fillPointRestartCheck i closed t => exact timed t (fillRestartCheck i closed) (by simp) (by simp)
    case meterRisingEdge k t => exact timed t (risingEdge k) (by simp) (by simp)
    case meterFallingEdge k t => exact timed t (fallingEdge k) (by simp) (by simp)
    case senseCrossing n x t => exact timed t (senseCrossing n x) (by simp) fun _ => cursors_of_still (by simp)
    case auxChange n x closed t => exact timed t (auxChange n x closed) (by simp) fun _ => cursors_of_still (by simp)
    case holdLapsed | settlement => exact onNext_iff.mpr (law.on_grows (by simp) (by simp))
    case sourceStale | voltageLossTimeout | supplyTrip | confirmTimeout | pulseEnd | channelGrant | inStepReport |
        syncTimeout | tripReport | overlapExpiry | deadTimeExpiry | settleTimeExpiry | unloadSurveyTimer |
        finishTimerExpiry | armExpiry | returnAttemptTimer | returnWindowExpiry =>
      exact onNext_iff.mpr (law.on_grows (by simp) (cursors_of_still (by simp)))
    all_goals exact absurd rfl request

/-- Settles O7: an append keeps the ring and only raises the next number, and a cursor is placed within the log. -/
theorem logLawKept : Obligations.LogLawKept := by
  intro s t ring cursor run
  have kept : OnNext LogLaw (step s) := by
    have law : LogLaw s := ⟨ring, cursor⟩
    cases queue : s.pending with
    | nil =>
      rw [step_nil queue]
      exact onNext_iff.mpr law
    | cons c rest =>
      rw [step_cons queue]
      have taken : LogLaw { s with pending := rest } := law.on_grows (grows_refl _) rfl
      exact taken.on_exec c
  exact ⟨(kept t run).ring, (kept t run).cursor⟩

end Sys2Proof.Machine
end
